-- ==== Sys2Proof/Syntax.lean ====
section
/-! DEFINITION. The commands of the block, one constructor for each row of the opcode table, and the records some operands are. -/

namespace Sys2Proof

/-- What the recording drive shows at REC_START (R448, R458 of 13_silo_baler_recording). -/
structure DriveInfo where
  /-- the root port's link is up and the controller is ready -/
  up : Bool
  /-- transfer rate of the link in 100 MT/s -/
  rate : Nat
  /-- its width in lanes -/
  width : Nat
  /-- bytes of data in an LBA -/
  lbaData : Nat
  /-- bytes of metadata in an LBA -/
  lbaMeta : Nat
  /-- protection information is enabled -/
  protInfo : Bool
  /-- CAP.MQES -/
  mqes : Nat
  /-- I/O queue pairs that the controller offers -/
  ioPairs : Nat
  /-- largest transfer in bytes that MDTS gives, 0 for MDTS = 0 -/
  mdts : Nat
  /-- HMMIN -/
  hmmin : Nat
  /-- CAP.TO in milliseconds -/
  timeout : Nat
  /-- size of the namespace in LBAs -/
  lbas : Nat
  /-- the drive reports a volatile write cache -/
  vwc : Bool
  /-- the first 128 bytes of LBAs 0 and 1 -/
  super : List Bytes
  /-- LBAs 0 and 1 are wholly zero -/
  blank : Bool
  /-- the first 128 bytes of the journal's commit records, as read -/
  commits : List Bytes
  /-- the next CHUNK_SEQ of each SRC_DEV after the last committed extent, as the chunks on the drive show it -/
  chunkSeqs : List (Nat × Nat)
  deriving DecidableEq, Repr

/-- What a converter's slice meets at one sampling instant (R235, R236 of 07_gleaner_capture). -/
structure SampleIn where
  /-- TIA output of the stream's channel in microvolts -/
  uv : Nat
  /-- what the slice's raw output is off by, in 1/16 LSB -/
  err : Int
  deriving DecidableEq, Repr

/-- One half-period of the fast axis as the pickoff, or the encoder with FAST_SRC = 1, shows it (R117, R119 of 03_emitter_drive_steering). -/
structure HalfMeas where
  /-- rms phase error in millionths of the half-period -/
  phase : Nat
  /-- amplitude as a fraction of the pickoff's full scale, /65,536 -/
  amp : Nat
  deriving DecidableEq, Repr

/-- What the fast-axis senses show when lock is judged to be lost (R120 of 03_emitter_drive_steering). -/
structure AxisSense where
  /-- phase errors of the latest half-periods in millionths of a half-period, newest first -/
  phase : List Nat
  /-- amplitude, /65,536 of full scale -/
  amp : Nat
  /-- ticks since the pickoff's last zero crossing -/
  quiet : Nat
  /-- an illegal quadrature transition has occurred -/
  illegal : Bool
  /-- encoder count at the last ENC_Z -/
  count : Nat
  deriving DecidableEq, Repr

/-- What training finds on one lane of a port (R401, R404 of 12_lanes_drover). -/
structure LaneMeas where
  /-- the received pair is inverted -/
  inv : Bool
  /-- updates of the transmit pre-cursor, main and post-cursor that the partner requests, oldest first -/
  updates : List (List Int)
  /-- CTLE setting that receive adaptation arrives at -/
  ctle : Nat
  /-- its FFE taps -/
  ffe : List Int
  /-- its DFE tap -/
  dfe : Int
  deriving DecidableEq, Repr

/-- What a training attempt of a port shows at its end (R401 to R405, R418 of 12_lanes_drover). -/
structure TrainMeas where
  /-- ticks that steps 1 to 5 have taken -/
  took : List Nat
  /-- consecutive codewords that carried the tag and had no uncorrectable error -/
  tags : Nat
  /-- skew between the lanes in ps -/
  skew : Nat
  /-- the lanes are swapped within the port -/
  swapped : Bool
  /-- lower and upper lane -/
  lanes : List LaneMeas
  /-- stamps T1 to T4 of the link delay measurement -/
  stamps : List Nat
  /-- the partner's HELLO message, 32 bytes -/
  hello : Bytes
  deriving DecidableEq, Repr

/-- What the housekeeping converter and its fault detectors meet over one conversion period (R468, R472, R479 of 14_housekeeping_thermal). -/
structure HadcIn where
  /-- the filtered input of the converter in nanovolts, its own offset and gain error included -/
  nv : Int
  /-- lowest and highest voltage of the IEXC-A pin in microvolts -/
  excA : Int × Int
  /-- lowest and highest voltage of the IEXC-B pin in microvolts -/
  excB : Int × Int
  /-- highest voltage of AIN+ in microvolts -/
  ainMax : Int
  deriving DecidableEq, Repr

/-- What the hardware shows during boot (R540 to R542 of 16_power_reset_startup). -/
structure BootReport where
  /-- the OTP items other than identity whose complement fails: bit kind * 4 + slot (R534) -/
  badHash : Nat
  /-- BIST leaves the burst-queue SRAM repaired (R286) -/
  bqOk : Bool
  /-- engines that BIST found bad (R286) -/
  badEngines : List Nat
  /-- histogram banks that BIST found bad (R286) -/
  badBanks : List Nat
  /-- converters whose capture buffer BIST found bad (R286) -/
  badConverters : List Nat
  /-- strings whose Thresher slot store BIST found bad (R286) -/
  badStrings : List Nat
  /-- SRAM macros that BIST repaired, each with the spare rows and the spare columns that its soft repair registers use (R286, R289) -/
  rowcol : List (Nat × Nat × Nat)
  /-- the two Steward pairs pass their lockstep self-test -/
  pairs : List Bool
  /-- the flash answers the octal probe -/
  octal : Bool
  /-- the flash answers a probe -/
  flash : Bool
  /-- fuse programming passes its read-back -/
  fusesOk : Bool
  /-- DDR5 training succeeds on both channels -/
  ddr : Bool
  /-- capacity found on each DDR5 channel in bytes -/
  perChannel : Nat
  /-- numbers of the repair log entries that fail their complement check -/
  badLog : List Nat
  deriving DecidableEq, Repr

/-- One coefficient measured by a calibration pass (R500 to R502 of 15_calibration_ageing_errors). -/
structure CalMeas where
  /-- object: passes 0 to 2 a channel 0 to 512; 3 a bias group; 4 and 6 a string; 5 a channel, or 1024 plus a converter; 7 a converter -/
  obj : Nat
  /-- term index within the object's block of a calibration set, counted in 16-bit words -/
  term : Nat
  /-- measured value in the term's unit -/
  value : Int
  /-- hits that arrived, in per cent of those requested; or events or shots, as the term's check of R502 counts -/
  count : Nat
  /-- its residual: a standard error in 0.01 ps, a fitted width in 1/1,000 of Q1, or the disagreement of R239 in 1/16 LSB (R502) -/
  err : Nat
  deriving DecidableEq, Repr


/-- The commands of the block, one constructor for each row of the opcode table. The first operand `dt` is the time in ticks since the
command before it (log 1); `sub` is the submission number of a command of the Grazil set (log 4); the other operands are what the
host writes, or what the outside world shows at that instant (log 9). -/
inductive Instr where
  /-- DEVICE_INFO (R399): Returns the active, standby and microcode versions and the policy. -/
  | deviceInfo (dt : Nat) (sub : Nat)
  /-- STATE_SET (R375): Requests a move to HOLD, ARMED or RANGING; a move to ARMED or HOLD takes effect at the next Furrow boundary. -/
  | stateSet (dt : Nat) (sub : Nat)
  /-- RECOVER (R377): Leaves SAFE for HOLD, clears the SAFE latch and cancels a pending automatic recovery. -/
  | recover (dt : Nat) (sub : Nat)
  /-- POLICY_SET (R376): Sets AUTO_RESUME and stores it in the policy area of the flash. -/
  | policySet (dt : Nat) (sub : Nat) (flashOk : Bool)
  /-- REBOOT (R399): Reboots the device as a barrier, optionally first closing the stream and stopping recording in an orderly way. -/
  | reboot (dt : Nat) (sub : Nat)
  /-- TIME_SET (R417): Steps device time at once, or at the next PPS_IN edge. -/
  | timeSet (dt : Nat) (sub : Nat)
  /-- TIME_SLEW (R417): Offsets the rate of device time for a stated duration. -/
  | timeSlew (dt : Nat) (sub : Nat)
  /-- TIME_SOURCE (R417): Selects the discipline of device time and stores the choice in the policy area. -/
  | timeSource (dt : Nat) (sub : Nat) (flashOk : Bool)
  /-- VALIDATE (R381): Checks staged parts 1 to 10 and then the stream capacity, and on success marks the staged set validated and records its rate. -/
  | validate (dt : Nat) (sub : Nat)
  /-- APPLY (R382): Arms the swap of the validated staged set for the next Furrow boundary or cell; in HOLD the swap takes effect within 1 ms and the device enters ARMED. -/
  | apply (dt : Nat) (sub : Nat)
  /-- STAGE_DISCARD (R379): Makes the staged set equal to the active set again. -/
  | stageDiscard (dt : Nat) (sub : Nat)
  /-- STAGE_STATUS (R399): Returns which staged parts differ from the active set, the validated mark and the last VALIDATE status. -/
  | stageStatus (dt : Nat) (sub : Nat)
  /-- CONFIG_STORE (R384): Writes the active set and the policy into the inactive configuration image and may raise the schedule anti-rollback counter. -/
  | configStore (dt : Nat) (sub : Nat) (flashOk : Bool)
  /-- SCHED_STAGE (R380): Copies a schedule set from host memory into the staged set. -/
  | schedStage (dt : Nat) (sub : Nat) (payload : Option Bytes)
  /-- SCHED_STATUS (R399): Returns the SEC_VER, variant, ageing selection, plan epoch and gate counters of the schedule. -/
  | schedStatus (dt : Nat) (sub : Nat)
  /-- BUDGET_STATUS (R81): Returns the guard sums, active blocks, release times and block counts of each string. -/
  | budgetStatus (dt : Nat) (sub : Nat)
  /-- DRIVE_STAGE (R380): Copies a drive descriptor into the staged set. -/
  | driveStage (dt : Nat) (sub : Nat) (payload : Option Bytes)
  /-- DRIVE_STATUS (R399): Returns each string's regulation state, verification age, judgement counts and fault cause, the axis lock states and the SATBUS counters. -/
  | driveStatus (dt : Nat) (sub : Nat)
  /-- STRING_REVERIFY (R105): Moves a faulted string to UNVERIFIED and clears its history of judged shots. -/
  | stringReverify (dt : Nat) (sub : Nat)
  /-- RX_STAGE (R380): Copies a receiver descriptor into the staged set. -/
  | rxStage (dt : Nat) (sub : Nat) (payload : Option Bytes)
  /-- RX_STATUS (R399): Returns the state of each receive channel, bias group and reference string. -/
  | rxStatus (dt : Nat) (sub : Nat)
  /-- THRESH_STAGE (R380): Copies a Thresher descriptor into the staged set. -/
  | threshStage (dt : Nat) (sub : Nat) (payload : Option Bytes)
  /-- THRESH_STATUS (R399): Returns the Thresher counters of each slice and the number of outstanding alerts. -/
  | threshStatus (dt : Nat) (sub : Nat)
  /-- ALERT_LIST (R399): Returns the outstanding alerts. -/
  | alertList (dt : Nat) (sub : Nat)
  /-- REDUCE_STAGE (R380): Copies a reduction descriptor into the staged set. -/
  | reduceStage (dt : Nat) (sub : Nat) (payload : Option Bytes)
  /-- REDUCE_STATUS (R399): Returns the reduction counters of each channel and each stripe. -/
  | reduceStatus (dt : Nat) (sub : Nat)
  /-- GLEAN_STAGE (R380): Copies a Gleaner descriptor into the staged set. -/
  | gleanStage (dt : Nat) (sub : Nat) (payload : Option Bytes)
  /-- GLEAN_STATUS (R399): Returns the state and counters of each converter. -/
  | gleanStatus (dt : Nat) (sub : Nat)
  /-- GLEAN_TEST (R244): Puts a converter into TEST with a test pattern, or takes it out of TEST. -/
  | gleanTest (dt : Nat) (sub : Nat)
  /-- GLEAN_FORCE (R254): Raises a host capture request on a converter. -/
  | gleanForce (dt : Nat) (sub : Nat)
  /-- OUTPUT_STAGE (R380): Copies an output descriptor into the staged set. -/
  | outputStage (dt : Nat) (sub : Nat) (payload : Option Bytes)
  /-- OUTPUT_STATUS (R399): Returns the output status. -/
  | outputStatus (dt : Nat) (sub : Nat)
  /-- DROVER_STAGE (R380): Copies a Drover descriptor into the staged set. -/
  | droverStage (dt : Nat) (sub : Nat) (payload : Option Bytes)
  /-- DROVER_STATUS (R399): Returns the Drover device, port and member state. -/
  | droverStatus (dt : Nat) (sub : Nat)
  /-- PLAN_ISSUE (R421): At the domain root, issues a new code plan with an activation time. -/
  | planIssue (dt : Nat) (sub : Nat)
  /-- LANE_SERVICE (R407): Takes a lane out of service, or retrains it to rejoin. -/
  | laneService (dt : Nat) (sub : Nat)
  /-- SILO_STAGE (R464): Copies a Silo descriptor into the staged set; on AQ it refuses a non-zero RECORD_MB. -/
  | siloStage (dt : Nat) (sub : Nat) (payload : Option Bytes)
  /-- SILO_STATUS (R399): Returns the Silo status. -/
  | siloStatus (dt : Nat) (sub : Nat)
  /-- BALER_JOB (R445): Runs a Baler encode or decode job between the named source and destination. -/
  | balerJob (dt : Nat) (sub : Nat) (payload : Option Bytes) (src : Option Bytes)
  /-- BALER_RESUME (R447): Continues a Baler job from its continuation token. -/
  | balerResume (dt : Nat) (sub : Nat) (src : Option Bytes)
  /-- REC_START (R458): Initialises the NVMe drive and starts recording, either recovering from the journal or initialising the namespace. -/
  | recStart (dt : Nat) (sub : Nat) (drive : DriveInfo)
  /-- REC_STOP (R459): Commits the open extent, releases the queues and optionally sends the drive a shutdown notification. -/
  | recStop (dt : Nat) (sub : Nat)
  /-- REC_STATUS (R460): Returns the recording state and its counts. -/
  | recStatus (dt : Nat) (sub : Nat)
  /-- HK_STAGE (R380): Copies a housekeeping descriptor into the staged set. -/
  | hkStage (dt : Nat) (sub : Nat) (payload : Option Bytes)
  /-- HK_STATUS (R399): Returns the housekeeping channel results and the on-die sensor readings. -/
  | hkStatus (dt : Nat) (sub : Nat)
  /-- THERMAL_STATUS (R495): Returns the thermal level, the hottest sensor, TRIPS and the source of the last trip. -/
  | thermalStatus (dt : Nat) (sub : Nat)
  /-- CAL_RUN (R500): Adds calibration passes on the named stripes to the pass schedule. -/
  | calRun (dt : Nat) (sub : Nat)
  /-- CAL_STATUS (R399): Returns the calibration status, including the age of each stripe's last pass. -/
  | calStatus (dt : Nat) (sub : Nat)
  /-- CAL_READ (R399): Returns one calibration set. -/
  | calRead (dt : Nat) (sub : Nat)
  /-- CAL_LOAD (R504): Loads all six calibration sets and resets the step and ageing baselines. -/
  | calLoad (dt : Nat) (sub : Nat) (payload : Option Bytes)
  /-- LEDGER_READ (R510): Returns the 64 margin ledger entries of one monitor. -/
  | ledgerRead (dt : Nat) (sub : Nat)
  /-- REDUNDANCY_STATUS (R272): Returns the installed and remaining spares of each class and the state of the repair log. -/
  | redundancyStatus (dt : Nat) (sub : Nat)
  /-- ENGINE_STATUS (R272): Returns the engine map, each engine's state and counters, and the microcode versions. -/
  | engineStatus (dt : Nat) (sub : Nat)
  /-- ENGINE_RETIRE (R273): Raises cause HOST against the engine at a named position. -/
  | engineRetire (dt : Nat) (sub : Nat)
  /-- REPAIR_LOG_CLEAR (R294): Clears repair log entries while the device is in HOLD. -/
  | repairLogClear (dt : Nat) (sub : Nat)
  /-- SNAPSHOT (R354): Copies all performance counters to their shadows. -/
  | snapshot (dt : Nat) (sub : Nat)
  /-- COUNTER_CLEAR (R356): Clears the performance counters. -/
  | counterClear (dt : Nat) (sub : Nat)
  /-- EYE_SCAN (R406): Measures the three PAM4 eyes of a lane. -/
  | eyeScan (dt : Nat) (sub : Nat) (counts : List (List Nat))
  /-- LOOPBACK (R408): Sets a loopback mode on a lane that is out of service. -/
  | loopback (dt : Nat) (sub : Nat)
  /-- ERROR_READ (R390): Returns error records from ERR_RD onward and can advance ERR_RD past them. -/
  | errorRead (dt : Nat) (sub : Nat)
  /-- FW_LOAD (R391): Loads a signed firmware image into the standby pair and verifies it. -/
  | fwLoad (dt : Nat) (sub : Nat) (payload : Option Bytes) (hwOk : Bool)
  /-- FW_HANDOVER (R392): Pauses command intake, drains commands and moves control to the standby pair at a Furrow boundary. -/
  | fwHandover (dt : Nat) (sub : Nat)
  /-- FW_STATUS (R399): Returns the firmware versions, the standby state and the outcome of the last handover. -/
  | fwStatus (dt : Nat) (sub : Nat)
  /-- FW_COMMIT (R398): Writes a firmware image to the inactive slot and can advance the firmware anti-rollback counter. -/
  | fwCommit (dt : Nat) (sub : Nat) (flashOk : Bool)
  /-- SESSION_CHALLENGE (R385): Returns a fresh nonce and voids the previous one. -/
  | sessionChallenge (dt : Nat) (sub : Nat)
  /-- SESSION_OPEN (R386): Opens a privileged session when the key hash matches and the signature verifies. -/
  | sessionOpen (dt : Nat) (sub : Nat) (payload : Option Bytes)
  /-- SESSION_CLOSE (R387): Closes the privileged session. -/
  | sessionClose (dt : Nat) (sub : Nat)
  /-- MBX_DB (R337): A host write to MBX_DB hands mailbox slots to the device. -/
  | mbxDb (dt : Nat) (v : Nat)
  /-- CMD_TAIL (R340): A host write to the CMD_TAIL doorbell makes new command entries available for fetch. -/
  | cmdTail (dt : Nat) (r : Nat) (v : Nat)
  /-- CPL_HEAD (R340): A host write to the CPL_HEAD doorbell frees completion entries. -/
  | cplHead (dt : Nat) (r : Nat) (v : Nat)
  /-- CMD_RING_CONTROL_WRITE (R342): A host write to a command ring's control register starts or stops command fetch, or is refused as a whole. -/
  | cmdRingControlWrite (dt : Nat) (r : Nat) (v : Nat)
  /-- COMMAND_FETCH (R343): A descriptor fetch read completes and the fetched commands are submitted. -/
  | commandFetch (dt : Nat) (r : Nat) (descs : Option (List Bytes))
  /-- STREAM_RING_CONTROL_WRITE (R346): A host write to a stream ring's control register enables or disables the ring; enabling empties the ring and delivers or discards the held records. -/
  | streamRingControlWrite (dt : Nat) (r : Nat) (v : Nat)
  /-- CONS_LO (R346): A host write to CONS_LO commits the consumer count and frees space in the ring. -/
  | consLo (dt : Nat) (r : Nat) (v : Nat)
  /-- TIME_LO (R335): A host read of TIME_LO latches the upper bits of device time into TIME_HI. -/
  | timeLo (dt : Nat) (len : Nat)
  /-- PROD_LO (R346): A host read of PROD_LO latches the upper bits of the producer count into PROD_HI. -/
  | prodLo (dt : Nat) (r : Nat) (len : Nat)
  /-- COUNTER_LOW_READ (R354): A host read of the low word of a performance counter latches its high word. -/
  | counterLowRead (dt : Nat) (ofs : Nat) (len : Nat)
  /-- RC_FIELD_READ (R11): A host read of an RC counter returns the counter and clears it. -/
  | rcFieldRead (dt : Nat) (deny : Bool) (len : Nat)
  /-- SNAP (R354): A host write of 1 to SNAP copies all performance counters to their shadows. -/
  | snap (dt : Nat)
  /-- MSIX_UNMASK (R352): Unmasking an MSI-X vector sends the message that was pending on it. -/
  | msixUnmask (dt : Nat) (fn : Nat) (vec : Nat)
  /-- REGISTER_WRITE (R334): A host write to a register that has no row of its own, with R11 access behaviour and the privileged-page rules. -/
  | registerWrite (dt : Nat) (bar : Nat) (ofs : Nat) (len : Nat) (val : Nat)
  /-- SUPPLY_RISE (R522): The rails rise in their ordered steps, and the device moves from OFF to RESET. -/
  | supplyRise (dt : Nat) (ramps : List Nat)
  /-- SUPPLY_VIOLATION (R523): The supply monitor detects a rail violation and holds the device in RESET. -/
  | supplyViolation (dt : Nat) (rail : Nat) (mil : Nat) (len : Nat) (powerDown : Bool)
  /-- POWER_REMOVED (R374): All rails are removed, and the device enters OFF. -/
  | powerRemoved (dt : Nat)
  /-- RESET_END (R523): The rails have been within tolerance for 1 ms, so RESET ends and boot starts. -/
  | resetEnd (dt : Nat)
  /-- POR_N_LOW (R527): POR_N is held low and the device enters RESET, clearing the guard and the sticky state. -/
  | porNLow (dt : Nat) (ns : Nat)
  /-- BOOT (R540): The boot sequence runs its stages and ends in HOLD, with a staged and validated configuration or a failure CODE. -/
  | boot (dt : Nat) (till : Nat) (report : BootReport)
  /-- PLL_LOCK (R525): The SYS PLLs lock, the clock monitor is armed and device time resumes. -/
  | pllLock (dt : Nat) (rtc : Option Nat)
  /-- PLL_LOCK_RETRY (R525): With REFCLK_SYS missing, the device retries PLL lock every 10 ms. -/
  | pllLockRetry (dt : Nat)
  /-- CLOCK_LOSS (R30): No engine-clock edge has arrived for 2 µs, so fire lines are gated, bias goes to standby, FAULT_N is asserted and the device enters RESET. -/
  | clockLoss (dt : Nat) (pll : Bool)
  /-- REFCLK_PCIE_LOSS (R31): Loss of REFCLK_PCIE stops the host link, and records accumulate in the Silo. -/
  | refclkPcieLoss (dt : Nat)
  /-- REFCLK_SDS_LOSS (R32): Loss of an SDS reference clock takes down both lanes of each affected port. -/
  | refclkSdsLoss (dt : Nat) (clk : Nat)
  /-- REFCLK_PCIE2_LOSS (R33): Loss of REFCLK_PCIE2 stops recording, which moves to FAULT. -/
  | refclkPcie2Loss (dt : Nat)
  /-- PERST_N (R357): PERST_N or a hot reset resets the host interface of both functions. -/
  | perstN (dt : Nat) (level : Bool)
  /-- FLR_PF0 (R357): A function-level reset of PF0 resets the control function. -/
  | flrPf0 (dt : Nat)
  /-- FLR_PF1 (R357): A function-level reset of PF1 resets the stream function and disables its rings. -/
  | flrPf1 (dt : Nat)
  /-- LINK_TRAINED (R22): The host link completes training, and the new stream capacity is compared with the validated rate to set or clear BELOW_CAP. -/
  | linkTrained (dt : Nat) (gen : Nat) (width : Nat)
  /-- LINK_DOWN (R357): The host link goes down without a reset, and the stream rings are treated as FULL. -/
  | linkDown (dt : Nat) (hot : Bool)
  /-- D3HOT_ENTRY (R332): A function enters D3hot; it issues no requests, and its stream records are held. -/
  | d3hotEntry (dt : Nat) (fn : Nat)
  /-- D0_RETURN (R551): A function returns to D0, and its waiting completions, fetches and records resume. -/
  | d0Return (dt : Nat) (fn : Nat)
  /-- BUS_MASTER_DISABLE (R360): Bus Master Enable is cleared or set, which pauses or resumes the stream rings and command fetch. -/
  | busMasterDisable (dt : Nat) (fn : Nat) (set : Bool)
  /-- ARM_EN_FALL (R89): ARM_EN falls, and the fire lines are gated at once. -/
  | armEnFall (dt : Nat)
  /-- ARM_EN_RISE (R89): ARM_EN rises, which starts the 1 ms it must stay high before firing resumes. -/
  | armEnRise (dt : Nat)
  /-- ARM_EN_STABLE (R89): ARM_EN has been high for 1 ms, so firing resumes at the next Furrow boundary. -/
  | armEnStable (dt : Nat)
  /-- FURROW_BOUNDARY (R549): At a Furrow boundary, the device applies the pending state change, the APPLY swap, the variant selection, the plan epoch and the handover swap, in that order. -/
  | furrowBoundary (dt : Nat) (dir : Bool) (enc : Nat)
  /-- CELL_DECLARATION (R118): The steering block declares t_cell for the next cell, which ends the previous cell. -/
  | cellDeclaration (dt : Nat) (slow : Nat) (enc : Nat) (underruns : Nat) (bad : Nat) (seeds : Nat)
  /-- SHOT_DECISION (R45): At the decision instant t_dec, the five gates are judged, and the shot is withheld or admitted and charged. -/
  | shotDecision (dt : Nat) (str : Nat) (mv : Nat) (tbl : Bool)
  /-- GUARD_BUCKET_BOUNDARY (R77): A guard bucket boundary passes, and the window sums move on. -/
  | guardBucketBoundary (dt : Nat) (w : Nat)
  /-- GUARD_BLOCK_END (R79): A guard block reaches its release time and ends. -/
  | guardBlockEnd (dt : Nat) (str : Nat) (w : Nat)
  /-- SHOT_FIRE (R90): FIRE_Snn rises at t_fire, and the fire-monitor timestamps the edge. -/
  | shotFire (dt : Nat) (str : Nat) (err : Int)
  /-- FIRE_SKEW (R93): Sixteen consecutive FIRE_SKEW counts post a WARN and request a recalibration of the delay line. -/
  | fireSkew (dt : Nat) (str : Nat) (ps : Nat)
  /-- SHOT_JUDGEMENT (R100): At the end of the judgement window, the shot is judged SHORT, OPEN, DIVERT or GOOD. -/
  | shotJudgement (dt : Nat) (str : Nat) (drop : Nat) (q : Nat) (clip : Bool) (duty : Bool)
  /-- RES_OVERVOLT (R97): The reservoir has stayed above 62.0 V for 1 ms, so the string is faulted. -/
  | resOvervolt (dt : Nat) (str : Nat)
  /-- RES_REGULATION (R98): The stage has been at its current limit and below its regulation band for 10 ms, so a WARN is posted. -/
  | resRegulation (dt : Nat) (str : Nat) (mv : Nat) (ilim : Bool)
  /-- GATE_STUCK (R103): Return current flows for 1 µs while FIRE_Snn is low, so a FATAL is posted and the device enters SAFE. -/
  | gateStuck (dt : Nat) (str : Nat)
  /-- STRING_UNVERIFIED (R108): A string's verification age reaches 200 ms, so the string becomes UNVERIFIED. -/
  | stringUnverified (dt : Nat) (str : Nat)
  /-- NO_LIGHT (R157): Fewer than 1 % of 1,000 admitted shots produce a reference event, so the string is faulted. -/
  | noLight (dt : Nat) (str : Nat)
  /-- SATBUS_REFRESH (R113): The 10 ms refresh timer sends a SATBUS frame. -/
  | satbusRefresh (dt : Nat)
  /-- SATBUS_ECHO_CHECK (R114): The echo word is checked 6.25 µs after the frame ends; three consecutive breaks fault the strings beyond. -/
  | satbusEchoCheck (dt : Nat) (ok : Bool) (lastGood : Nat)
  /-- FAST_AXIS_LOCK (R117): The lock conditions have held for 64 consecutive half-periods, so the fast axis is locked. -/
  | fastAxisLock (dt : Nat) (peak : Nat) (dac : Nat) (halves : List HalfMeas)
  /-- LOSS_OF_LOCK (R121): The fast axis loses lock; the current cell ends and the device enters DEGRADED. -/
  | lossOfLock (dt : Nat) (m : AxisSense)
  /-- ACQUISITION_TIMEOUT (R122): Lock is not reached within 1 s, so the acquisition restarts; after three failed restarts SCAN_FAIL is posted. -/
  | acquisitionTimeout (dt : Nat)
  /-- SHOT_SYNC_EDGE (R123): A SHOT_SYNC_IN edge is timestamped, recorded and optionally followed. -/
  | shotSyncEdge (dt : Nat)
  /-- SHOT_SYNC_LOST (R123): No SHOT_SYNC_IN edge has arrived for 16 half-periods in mode 2, so a WARN is posted. -/
  | shotSyncLost (dt : Nat)
  /-- SLOW_AXIS_ERROR (R125): The slow-axis following error exceeds SLOW_TOL, or later falls below half of it. -/
  | slowAxisError (dt : Nat) (err : Nat)
  /-- PHOTON_EVENT (R137): An LT crossing on a channel produces an event, which is stamped, counted and judged as a candidate. -/
  | photonEvent (dt : Nat) (ch : Nat) (q : Nat) (peak : Nat) (code : Nat) (codeB : Nat) (lowAt : Nat)
  /-- HOLDOFF_END (R228): The trigger unit's hold-off ends, and the unit re-arms. -/
  | holdoffEnd (dt : Nat) (slice : Nat)
  /-- INPUT_OVERLOAD (R131): The DC input current stays beyond its limit for 100 µs, which sets or clears INPUT_OVERLOAD. -/
  | inputOverload (dt : Nat) (ch : Nat) (on : Bool)
  /-- CANDIDATE_ARRIVAL (R165): The Thresher slice takes a candidate, forms its pairs and updates the alert store. -/
  | candidateArrival (dt : Nat) (slice : Nat)
  /-- PAIR_DELIVERY (R169): The engines take a pair, add it to the coarse histogram and log its candidate. -/
  | pairDelivery (dt : Nat) (ch : Nat)
  /-- SHEAF_OPEN (R202): At shot 0's nominal instant, a sheaf takes a coarse slot, latches its coincidence level and latches TIME. -/
  | sheafOpen (dt : Nat) (ch : Nat)
  /-- AMBIENT_ESTIMATE (R147): The ambient estimate of a counting span completes. -/
  | ambientEstimate (dt : Nat) (ch : Nat)
  /-- SHEAF_PROCESSING_START (R206): At t_proc, sheaf processing starts with the coarse peak scan, and the coarse slot is released. -/
  | sheafProcessingStart (dt : Nat) (ch : Nat)
  /-- PROCESSING_TIME_OUT (R214): A sheaf's processing time runs out, so the search stops and CLOSE_TRUNC may be set. -/
  | processingTimeOut (dt : Nat) (ch : Nat)
  /-- SHEAF_PROCESSING_END (R216): Returns are judged, classified and scored, alerts are resolved, and the record is formed. -/
  | sheafProcessingEnd (dt : Nat) (ch : Nat)
  /-- SHEAF_RECORD_RELEASE (R217): The sheaf record is released to the burst queue at the later of processing end and t_win. -/
  | sheafRecordRelease (dt : Nat) (ch : Nat) (full : Bool)
  /-- ALERT_PIN_RELEASE (R188): ALERT_N is released once no alert is outstanding and the minimum low time has passed. -/
  | alertPinRelease (dt : Nat)
  /-- ALERT_RECORD_DELIVERY (R349): An alert or retraction record is written to each ring that takes it, followed by the write-backs and PF1 vector 2. -/
  | alertRecordDelivery (dt : Nat)
  /-- COALESCE_TIMEOUT (R348): The oldest record of a batch has waited COALESCE µs, so the batch is flushed. -/
  | coalesceTimeout (dt : Nat) (r : Nat)
  /-- STATUS_HEARTBEAT (R322): 100 ms after the last status record, a heartbeat status record is written. -/
  | statusHeartbeat (dt : Nat)
  /-- COUNTER_OVERFLOW_SAMPLE (R355): The selected counter overflows in sampling mode, so it is reloaded and a sample record is written. -/
  | counterOverflowSample (dt : Nat) (src : Nat) (pc : Nat)
  /-- CAPTURE_WINDOW_CLOSE (R248): The last sample of a capture window is taken, and a pending gain change is applied. -/
  | captureWindowClose (dt : Nat) (gw : Nat) (low : Bool)
  /-- CAPTURE_READOUT_DONE (R256): The readout of a capture completes, the waveform record is released, and the next waiting request starts running. -/
  | captureReadoutDone (dt : Nat) (gw : Nat) (smp : List SampleIn)
  /-- GAIN_SATURATION_SWITCH (R247): Four consecutive saturated samples step the gain down. -/
  | gainSaturationSwitch (dt : Nat) (gw : Nat)
  /-- GAIN_RANGE_STEP (R247): A count of low samples steps the gain up, or marks an up-range or down-range as pending. -/
  | gainRangeStep (dt : Nat) (gw : Nat) (cond : Nat)
  /-- SLICE_ROTATION (R238): The CALROT timer expires, so a slice swap falls due. -/
  | sliceRotation (dt : Nat) (gw : Nat) (meas : List Int)
  /-- SLICE_SWAP (R239): At a swap point, after 256 shadow samples agree, the incoming slice relieves the outgoing one. -/
  | sliceSwap (dt : Nat) (gw : Nat) (meas : List Int)
  /-- CALGAP (R240): No swap point has occurred for 100 ms, so trigger-unit requests are refused. -/
  | calgap (dt : Nat) (gw : Nat)
  /-- GLEANER_START_COMPLETE (R242): Every slice has been calibrated once, so the converter leaves START for NORMAL. -/
  | gleanerStartComplete (dt : Nat) (gw : Nat)
  /-- RECOVERY_COMPLETE (R242): The new slice's timing skew has been measured, so the converter leaves RECOVERY. -/
  | recoveryComplete (dt : Nat) (gw : Nat)
  /-- ENGINE_UE (R274): An uncorrectable local-store error raises LS_UE against an engine. -/
  | engineUe (dt : Nat) (pos : Nat) (inSpare : Bool)
  /-- ENGINE_TRAP (R274): A microcode trap, or an overrun of the fixed work, raises TRAP against an engine. -/
  | engineTrap (dt : Nat) (pos : Nat)
  /-- LS_CE (R274): 16 corrected errors within 1 s raise LS_CE against an engine; each command is one of them. -/
  | lsCe (dt : Nat) (pos : Nat) (inSpare : Bool)
  /-- AUDIT_START (R275): Every 1 ms, a group takes an idle spare into AUDIT beside its next engine. -/
  | auditStart (dt : Nat) (grp : Nat)
  /-- SPARE_SELF_TEST_DONE (R276): A spare finishes its known-answer self-test, and it either enters SHADOW or AUDIT or is retired. -/
  | spareSelfTestDone (dt : Nat) (pos : Nat) (ok : Bool)
  /-- COMPARE_GATE (R277): The compare gate matches an engine output with the spare's output and releases one of them. -/
  | compareGate (dt : Nat) (pos : Nat) (mismatch : Bool) (held : Nat)
  /-- GATE_TIMEOUT (R277): Only one output has arrived within 64 cycles. -/
  | gateTimeout (dt : Nat) (pos : Nat) (spareOnly : Bool)
  /-- OFFLINE_TEST_DONE (R281): A retired engine's offline test completes, and if it passed the engine returns to the spares. -/
  | offlineTestDone (dt : Nat) (eng : Nat) (ok : Bool)
  /-- BANK_SUBST (R287): Bank errors trigger the substitution of a spare histogram bank. -/
  | bankSubst (dt : Nat) (bank : Nat) (cause : Nat) (hit : List Nat)
  /-- BANK_COPY_DONE (R287): The copier finishes, reads move to the spare bank, and the old bank is retired. -/
  | bankCopyDone (dt : Nat) (hit : List Nat)
  /-- REPAIR_LOG_WRITE (R292): A retirement, substitution or channel death is written to the repair log. -/
  | repairLogWrite (dt : Nat)
  /-- CHANNEL_INPUT_FAIL (R284): The DC level at the ball stays out of range for 1 s, so the channel becomes dead. -/
  | channelInputFail (dt : Nat) (ch : Nat)
  /-- DET_HV_PG (R155): DET_HV_PG is low for 10 ms while enabled, or high again for 10 ms, which adds or removes DET_BIAS. -/
  | detHvPg (dt : Nat) (level : Bool)
  /-- CALIBRATION_SCHEDULE (R500): The 10-minute pass timer, or a 5 °C temperature move, schedules passes on a stripe. -/
  | calibrationSchedule (dt : Nat)
  /-- CALIBRATION_PASS_END (R501): A calibration pass ends and is accepted or rejected, and CAL_DONE is posted. -/
  | calibrationPassEnd (dt : Nat) (stripe : Nat) (pass : Nat) (meas : List CalMeas)
  /-- CAL_STORE_WRITE (R505): The calibration store copy is written after CAL_LOAD, hourly on change, or at an orderly reboot. -/
  | calStoreWrite (dt : Nat) (flashOk : Bool)
  /-- REPLAN (R507): Every 10 minutes the Steward reads the ageing monitors, sends out their actions and writes the ledger. -/
  | replan (dt : Nat) (margins : List (List Int))
  /-- EYE_MARGIN_READ (R405): Every 10 minutes the lane eye margins are read and the adaptation targets re-planned. -/
  | eyeMarginRead (dt : Nat) (heights : List Nat)
  /-- ERROR_POST (R514): An error record is written to the error ring, and handling begins or waits by severity. -/
  | errorPost (dt : Nat) (code : Nat) (kind : Nat) (obj : Nat) (args : List Nat)
  /-- ERROR_HANDLING (R513): The Steward handles one error; for a FATAL it enters SAFE and follows the firmware path to the final record. -/
  | errorHandling (dt : Nat)
  /-- AUTO_RECOVERY (R377): 100 ms after entry to an unlatched SAFE, with AUTO_RESUME set, the device goes to HOLD, applies the set and requests RANGING. -/
  | autoRecovery (dt : Nat)
  /-- RANGING_ENTRY (R375): Scan lock, bias and arming are all met, so a waiting request enters RANGING or DEGRADED. -/
  | rangingEntry (dt : Nat)
  /-- RANGING_WAIT_TIMEOUT (R117): A request to enter RANGING has waited 1 s and completes with SCAN_NOT_LOCKED, BIAS_NOT_READY or HK_THERMAL_UNARMED. -/
  | rangingWaitTimeout (dt : Nat)
  /-- HANDOVER_DRAIN_END (R392): The handover drain ends, and uncommitted commands are abandoned. -/
  | handoverDrainEnd (dt : Nat)
  /-- STANDBY_SELF_TEST_FAIL (R392): The standby pair fails its lockstep self-test, so the handover is abandoned. -/
  | standbySelfTestFail (dt : Nat)
  /-- LOCKSTEP (R519): A lockstep compare mismatch in a Steward pair posts a FATAL. -/
  | lockstep (dt : Nat) (pair : Nat)
  /-- STANDBY_READY (R397): A pair finishes its reload, BIST and self-test, and becomes the standby pair. -/
  | standbyReady (dt : Nat)
  /-- PAIR_RELOAD_DONE (R396): The reset active pair finishes reloading and writes the RESUBMIT completions. -/
  | pairReloadDone (dt : Nat) (pair : Nat) (ok : Bool)
  /-- SESSION_IDLE_TIMEOUT (R387): 15 minutes pass without privileged activity, so the session closes. -/
  | sessionIdleTimeout (dt : Nat)
  /-- NONCE_EXPIRY (R385): The nonce expires after 60 s. -/
  | nonceExpiry (dt : Nat)
  /-- SESSION_LOCKOUT_END (R386): The 60 s lockout after three failed opens ends. -/
  | sessionLockoutEnd (dt : Nat)
  /-- FRAME_RECEIVED (R412): A Drover frame is received, then checked, acknowledged or NAKed, and its records are kept or relayed. -/
  | frameReceived (dt : Nat) (port : Nat) (rx : List (Nat × List Nat))
  /-- FRAME_BOUNDARY_TRANSMIT (R410): At each frame boundary, a frame of the highest ready class is sent. -/
  | frameBoundaryTransmit (dt : Nat) (port : Nat)
  /-- RETRANSMIT_TIMEOUT (R412): ACK has not advanced for 20 µs, so the sender resends from the oldest frame. -/
  | retransmitTimeout (dt : Nat) (port : Nat)
  /-- HELLO (R411): A HELLO message is received. -/
  | hello (dt : Nat) (port : Nat)
  /-- HELLO_TIMER (R411): Every 100 ms, HELLO is sent. -/
  | helloTimer (dt : Nat) (port : Nat)
  /-- TOPO (R415): A TOPO message is received; a member takes it as the sign of a root and forwards it downward. -/
  | topo (dt : Nat) (port : Nat)
  /-- TOPO_TIMER (R411): Every 1 ms, the root sends TOPO and any pending PLAN. -/
  | topoTimer (dt : Nat)
  /-- TOPO_TIMEOUT (R415): No TOPO has been heard for 10 ms, so the member enters HOLDOVER. -/
  | topoTimeout (dt : Nat)
  /-- JOIN (R415): The root receives a JOIN and answers with ADMIT. -/
  | join (dt : Nat) (port : Nat)
  /-- JOIN_TIMER (R415): A member sends JOIN every 10 ms until admitted, then every 1 s as a report. -/
  | joinTimer (dt : Nat)
  /-- ADMIT (R415): A member receives ADMIT, and is then JOINED or refused. -/
  | admitMsg (dt : Nat) (port : Nat)
  /-- MEMBER_FORGET (R416): The root forgets a member after 5 s without a report. -/
  | memberForget (dt : Nat) (id : Nat)
  /-- PLAN (R421): A member receives a PLAN and holds it as a complement pair. -/
  | plan (dt : Nat) (port : Nat)
  /-- SYNC (R418): The downstream end receives SYNC and sends DREQ. -/
  | sync (dt : Nat) (port : Nat)
  /-- SYNC_TIMER (R418): Every 1 ms, the upstream end sends SYNC. -/
  | syncTimer (dt : Nat) (port : Nat)
  /-- DREQ (R418): The upstream end receives DREQ and answers with DRESP. -/
  | dreq (dt : Nat) (port : Nat)
  /-- DRESP (R418): The downstream end receives DRESP, computes its delay and offset, and steps or slews its time. -/
  | dresp (dt : Nat) (port : Nat)
  /-- LANE (R411): A LANE message is received, which reports a lane state or agrees a rejoin SEQ. -/
  | lane (dt : Nat) (port : Nat)
  /-- BREAK (R426): BREAK is received on the upward ring port, so the member reroutes. -/
  | breakMsg (dt : Nat) (port : Nat)
  /-- REROUTE_WAIT_END (R426): The 200 µs wait after BREAK ends, and the member sends its kept frames on the new port. -/
  | rerouteWaitEnd (dt : Nat)
  /-- RING_RETURN (R426): Both lanes of RING_PRI have been in service for 10 s, so the member returns to RING_PRI. -/
  | ringReturn (dt : Nat)
  /-- LANE_LOSS (R423): A lane is lost, and the port changes to one lane. -/
  | laneLoss (dt : Nat) (l : Nat) (cdr : Bool) (silent : Nat)
  /-- PORT_LOSS (R425): A port loses both lanes; its frames are kept and a ring member reroutes. -/
  | portLoss (dt : Nat) (port : Nat) (sense : List (Bool × Nat))
  /-- RELOCK_ATTEMPT (R423): Every 10 ms, a relock attempt runs on a lost lane. -/
  | relockAttempt (dt : Nat) (l : Nat) (took : List Nat)
  /-- LANE_REJOIN (R423): 1,000 clean codewords lead to a rejoin at an agreed frame boundary. -/
  | laneRejoin (dt : Nat) (port : Nat)
  /-- SHED_LEVEL_CHANGE (R424): The transmit queue fill raises or lowers the shed level of a one-lane port. -/
  | shedLevelChange (dt : Nat) (port : Nat)
  /-- TRAINING_STEP_TIMEOUT (R404): A training step runs past its limit, so the attempt fails. -/
  | trainingStepTimeout (dt : Nat) (port : Nat) (took : List Nat)
  /-- TRAINING_COMPLETE (R404): A port completes training with codeword lock, link delay and HELLO. -/
  | trainingComplete (dt : Nat) (port : Nat) (m : TrainMeas)
  /-- PPS_EDGE (R417): A PPS_IN edge is accepted and disciplines device time. -/
  | ppsEdge (dt : Nat)
  /-- TIME_PPS_LOST (R417): No PPS_IN edge has been accepted for 1.5 s, so time holds its rate and a WARN is posted. -/
  | timePpsLost (dt : Nat)
  /-- TIME_STALE (R417): With source 3, 60 s have passed without TIME_SET or TIME_SLEW. -/
  | timeStale (dt : Nat)
  /-- TIME_SLEW_END (R417): The slew duration ends. -/
  | timeSlewEnd (dt : Nat)
  /-- BQ_SHARE_FULL (R435): The record share has been full for 1 ms, so an ERROR is posted. -/
  | bqShareFull (dt : Nat) (share : Nat) (fullFor : Nat)
  /-- DDR_UE (R437): An uncorrectable DDR5 error discards a held record or is handled as an integrity fault. -/
  | ddrUe (dt : Nat) (region : Nat) (ring : Nat) (n : Nat) (ce : Nat)
  /-- REC_COMMIT_TIMER (R455): 100 ms have passed since the last commit with data pending, so a commit starts. -/
  | recCommitTimer (dt : Nat)
  /-- REC_COMMIT (R455): The chunk is closed and, once the writes and Flush complete, the commit record is written with FUA. -/
  | recCommit (dt : Nat)
  /-- NVME_COMPLETION (R449): An NVMe completion is polled, which advances the pipeline or a commit, or marks a failure. -/
  | nvmeCompletion (dt : Nat) (status : Nat)
  /-- REC_FAULT (R461): A failed write, Flush or commit, a controller fatal status or a lost link puts recording in FAULT. -/
  | recFault (dt : Nat) (status : Nat)
  /-- SMART_POLL (R449): Every 10 s the drive's SMART log is read, and a WARN is posted on a new critical warning. -/
  | smartPoll (dt : Nat) (warn : Nat) (temp : Nat)
  /-- REC_GAP (R456): RECORD is full, so a gap begins; it ends when the fill falls below its watermark. -/
  | recGap (dt : Nat)
  /-- BALER_DEST_STALL (R446): A job's destination has accepted nothing for 10 ms, so the job stops with BALER_PARTIAL. -/
  | balerDestStall (dt : Nat) (sub : Nat)
  /-- BALER_TOKEN_EXPIRY (R447): A continuation token expires after 60 s. -/
  | balerTokenExpiry (dt : Nat) (slot : Nat)
  /-- HADC_RESULT (R477): A housekeeping conversion period ends, the result is linearised and tagged, and the current result, arming, outputs and alerts are updated. -/
  | hadcResult (dt : Nat) (ch : Nat) (m : HadcIn)
  /-- HADC_CAL_SLOT (R476): Every 60 s, a 10 ms calibration slot measures offset, gain and the source currents. -/
  | hadcCalSlot (dt : Nat) (meas : List Rat)
  /-- ONDIE_SENSOR_SAMPLE (R484): Every 20 µs, the on-die sensors are sampled and the thermal levels judged. -/
  | ondieSensorSample (dt : Nat) (temps : List Int) (failed : Nat)
  /-- THERMAL_FALL (R486): Every sensor has read below threshold for 100 ms, so the level falls by one. -/
  | thermalFall (dt : Nat)
  /-- THERMAL_SHUTDOWN_RESET (R489): 2 ms after the trip, the flash clock is removed and the Steward pairs and DDR5 are held in reset. -/
  | thermalShutdownReset (dt : Nat)
  /-- THERMAL_RESTART (R491): The restart conditions have held for 1 s, so the device enters BOOT. -/
  | thermalRestart (dt : Nat)
  /-- BOUNDARY_TAKEN_AT_ONCE (R383): When an APPLY, STATE_SET or handover waits for a Furrow boundary and none has been declared in the last 1 ms, the boundary is taken at once. -/
  | boundaryTakenAtOnce (dt : Nat)
  /-- TIME_SET_PPS_TIMEOUT (R399): A TIME_SET with AT_PPS completes with 0x0200 when no PPS_IN edge arrives within 2 s. -/
  | timeSetPpsTimeout (dt : Nat)
  /-- RES_OVERVOLT_COMPARATOR (R97): The hardware comparator on RES_VSNS_Snn holds RES_GATE_Snn low while the reservoir exceeds 62.0 V and releases it when the voltage falls back. -/
  | resOvervoltComparator (dt : Nat) (str : Nat) (high : Bool)
  /-- SLICE_MEAN_CHECK (R241): Over each 2^20 of an in-service slice's samples, its mean is compared with the median of the other slices, and a slice more than 8 LSB away is judged failed. -/
  | sliceMeanCheck (dt : Nat) (gw : Nat) (pos : Nat) (far : Bool)
  /-- SCHED_RELOAD (R89): The Steward's reload of the schedule set from its source, after a fourth entry complement failure in one Furrow, completes; on failure the device enters SAFE. -/
  | schedReload (dt : Nat) (ok : Bool)
  deriving DecidableEq, Repr

end Sys2Proof
end

