-- ==== Sys2Proof/Decode.lean ====
section
/-! DEFINITION. The block has no instruction words: the opcode table gives none of its rows any bits. -/

namespace Sys2Proof

/-- The command that a word of `nbits` bits spells. No row of the table gives bits, so no word spells a command. -/
def decodeTableWord (_nbits _w : Nat) : Option Instr := none

end Sys2Proof
end

