-- ==== Sys2Proof/Machine/Table.lean ====
section
/-! DEFINITION. Sparse tables: an entry for each number that has been written, one value for all others. -/

namespace Sys2Proof.Machine

/-- A table indexed by numbers: `cells` in rising order of number, and the value of every number not listed. -/
structure Tab (α : Type) where
  /-- the value of a number that is not listed -/
  dflt : α
  /-- the listed numbers with their values -/
  cells : List (Nat × α)
  deriving DecidableEq, Repr

/-- The value listed for `k`, if any. -/
def Tab.find {α : Type} (k : Nat) : List (Nat × α) → Option α
  | [] => none
  | (i, v) :: rest => if i = k then some v else Tab.find k rest

/-- `l` with `k` listed as `v`, in rising order. -/
def Tab.put {α : Type} (k : Nat) (v : α) : List (Nat × α) → List (Nat × α)
  | [] => [(k, v)]
  | (i, w) :: rest =>
    if i = k then (k, v) :: rest
    else if k < i then (k, v) :: (i, w) :: rest
    else (i, w) :: Tab.put k v rest

/-- The value at `k`. -/
def Tab.get {α : Type} (t : Tab α) (k : Nat) : α := (Tab.find k t.cells).getD t.dflt

/-- The table with `v` at `k`. -/
def Tab.set {α : Type} (t : Tab α) (k : Nat) (v : α) : Tab α := { t with cells := Tab.put k v t.cells }

/-- The table with the value at `k` replaced by `f` of it. -/
def Tab.upd {α : Type} (t : Tab α) (k : Nat) (f : α → α) : Tab α := t.set k (f (t.get k))

/-- The table with `f` applied to the values at 0 to `n` - 1. -/
def Tab.updAll {α : Type} (t : Tab α) (n : Nat) (f : Nat → α → α) : Tab α :=
  (List.range n).foldl (fun u k => u.upd k (f k)) t

/-- The values at 0 to `n` - 1. -/
def Tab.toList {α : Type} (t : Tab α) (n : Nat) : List α := (List.range n).map t.get

end Sys2Proof.Machine
end

