-- ==== Sys2Proof/Machine/Bytes.lean ====
section
/-! DEFINITION. Byte order, bit fields and checks over byte strings (R298 to R300 of 09_record_formats, R10 of 00_scope). -/

namespace Sys2Proof.Machine

/-- `n` bytes of `v`, the least significant first. -/
def le : Nat → Nat → Bytes
  | 0, _ => []
  | n + 1, v => BitVec.ofNat 8 v :: le n (v / 256)

/-- The number that bytes, least significant first, spell. -/
def leVal : Bytes → Nat
  | [] => 0
  | b :: rest => b.toNat + 256 * leVal rest

/-- `n` bytes of `b` from offset `i`, zeros beyond its end. -/
def slice (b : Bytes) (i n : Nat) : Bytes :=
  let p := (b.drop i).take n
  p ++ List.replicate (n - p.length) 0

/-- The byte at offset `i`. -/
def byteAt (b : Bytes) (i : Nat) : Nat := (slice b i 1).headD 0 |>.toNat

/-- The number in `n` bytes at offset `i`. -/
def num (b : Bytes) (i n : Nat) : Nat := leVal (slice b i n)

/-- Bits `lo` to `lo + w - 1` of `v`. -/
def bits (v lo w : Nat) : Nat := v / 2 ^ lo % 2 ^ w

/-- Bit `i` of `v`. -/
def bit (v i : Nat) : Bool := v.testBit i

/-- Bits `lo` to `lo + w - 1` of the 32-bit word at offset `i`. -/
def fieldOf (b : Bytes) (i lo w : Nat) : Nat := bits (num b i 4) lo w

/-- A flag as the number 0 or 1. -/
def b2n (b : Bool) : Nat := if b then 1 else 0

/-- The number that holds each listed value at its listed bit position. -/
def pack : List (Nat × Nat) → Nat
  | [] => 0
  | (lo, v) :: rest => v * 2 ^ lo + pack rest

/-- The two's complement of `v` in `w` bits, as a number. -/
def twos (w : Nat) (v : Int) : Nat := (v % (2 ^ w : Int)).toNat

/-- The signed value of the low `w` bits of `v`. -/
def signed (w : Nat) (v : Nat) : Int :=
  let u := v % 2 ^ w
  if u < 2 ^ (w - 1) then (u : Int) else (u : Int) - 2 ^ w

/-- The bitwise complement of every byte. -/
def compl (b : Bytes) : Bytes := b.map (~~~·)

/-- `b` ends up `n` bytes long: cut, or filled with zeros. -/
def fit (n : Nat) (b : Bytes) : Bytes := slice b 0 n

/-- `b` with the bytes `v` written at offset `i`. -/
def splice (b : Bytes) (i : Nat) (v : Bytes) : Bytes := slice b 0 i ++ v ++ b.drop (i + v.length)

/-- Eight steps of the reflected CRC-32C register (R300). -/
def crcBits : Nat → BitVec 32 → BitVec 32
  | 0, c => c
  | n + 1, c => crcBits n (if c.getLsbD 0 then (c >>> 1) ^^^ 0x82F63B78 else c >>> 1)

/-- The CRC-32C register after the bytes `b` (R300). -/
def crcRun (c : BitVec 32) : Bytes → BitVec 32
  | [] => c
  | b :: rest => crcRun (crcBits 8 (c ^^^ b.setWidth 32)) rest

/-- CRC-32C of `b` (R300). -/
def crc32c (b : Bytes) : BitVec 32 := crcRun 0xFFFFFFFF b ^^^ 0xFFFFFFFF

/-- The first `n` of a list padded with `d`. -/
def padTo {α : Type} (n : Nat) (d : α) (l : List α) : List α := (l ++ List.replicate (n - l.length) d).take n

/-- `l` with element `i` replaced by `f` of it; out of range, `l`. -/
def updAt {α : Type} (l : List α) (i : Nat) (f : α → α) : List α := l.modify i f

/-- The mask of the numbers below `n` for which `p` holds. -/
def maskOf (n : Nat) (p : Nat → Bool) : Nat := (List.range n).foldl (fun a i => a + b2n (p i) * 2 ^ i) 0

/-- The numbers below `n` whose bit of `m` is set, rising. -/
def bitsOf (n m : Nat) : List Nat := (List.range n).filter (bit m)

/-- Quotient rounded up; a zero divisor gives zero. -/
def ceilDiv (a b : Nat) : Nat := (a + b - 1) / b

/-- The nearest integer to a fraction, halves upward (log 10). -/
def roundQ (q : Rat) : Int := (q + 1 / 2).floor

/-- The nearest natural number to a fraction, halves upward, never below 0 and at most `m`. -/
def roundCap (m : Nat) (q : Rat) : Nat := min m (roundQ q).toNat

/-- Saturating count: one more, at most `m`. -/
def satInc (m v : Nat) : Nat := if v < m then v + 1 else v

/-- Integer square root by digits: the greatest `r` below `2 ^ n` with `r * r ≤ v`. -/
def isqrtBits : Nat → Nat → Nat → Nat
  | 0, _, r => r
  | n + 1, v, r =>
    let c := r + 2 ^ n
    isqrtBits n v (if c * c ≤ v then c else r)

/-- Integer square root of a number below 2^128. -/
def isqrt (v : Nat) : Nat := isqrtBits 64 v 0

/-- The square root of a fraction rounded to the nearest integer, halves upward: the greatest `r` with `(r - 1/2)^2 ≤ q`. -/
def sqrtRound (q : Rat) : Nat := (isqrt (4 * q).floor.toNat + 1) / 2

/-- The minimum of a list with a start value. -/
def minOf (d : Nat) (l : List Nat) : Nat := l.foldl min d

/-- The maximum of a list with a start value. -/
def maxOf (d : Nat) (l : List Nat) : Nat := l.foldl max d

/-- Insertion into a list sorted by `lt`, after the elements that are not greater. -/
def insSorted {α : Type} (lt : α → α → Bool) (x : α) : List α → List α
  | [] => [x]
  | y :: ys => if lt x y then x :: y :: ys else y :: insSorted lt x ys

/-- Stable insertion sort. -/
def sortBy {α : Type} (lt : α → α → Bool) (l : List α) : List α := l.foldl (fun acc x => insSorted lt x acc) []

end Sys2Proof.Machine
end

