-- ==== Sys2Proof/Machine/Crypto.lean ====
section
/-! DEFINITION. SHA-384 and ECDSA over P-384, which R67, R68, R386 and R536 name and the specification does not define
(PRESUMED: FIPS 180-4, FIPS 186-4; log 14). -/

namespace Sys2Proof.Machine

/-- The greatest number between `lo` and `lo + 2 ^ n` whose power `k` does not exceed `x`, found bit by bit. -/
def rootBelow (k x : Nat) : Nat → Nat → Nat
  | 0, lo => lo
  | n + 1, lo => rootBelow k x n (if (lo + 2 ^ n) ^ k ≤ x then lo + 2 ^ n else lo)

/-- The first 64 bits of the fraction of the root `k` of a number: what FIPS 180-4 takes its constants from. -/
def rootWord (k p : Nat) : BitVec 64 := BitVec.ofNat 64 (rootBelow k (p * 2 ^ (64 * k)) 70 0)

/-- The first 80 primes, all below 410. -/
def shaPrimes : List Nat := (List.range' 2 408).filter fun p => (List.range' 2 19).all fun d => d ≥ p || p % d != 0

/-- The round constants: from the cube roots of the first 80 primes. -/
def shaK : List (BitVec 64) := shaPrimes.map (rootWord 3)

/-- The initial hash value of SHA-384: from the square roots of the ninth to the sixteenth prime. -/
def shaH0 : List (BitVec 64) := ((shaPrimes.drop 8).take 8).map (rootWord 2)

/-- The number that bytes spell, most significant first (R10). -/
def beVal (b : Bytes) : Nat := b.foldl (fun a x => a * 256 + x.toNat) 0

/-- `n` bytes of `v`, most significant first (R10). -/
def beBytes (n v : Nat) : Bytes := (le n v).reverse

/-- A message padded to whole blocks of 128 bytes. -/
def shaPad (m : Bytes) : Bytes :=
  let z := (239 - m.length % 128) % 128
  m ++ [0x80] ++ List.replicate z 0 ++ beBytes 16 (8 * m.length)

/-- The 64-bit word at index `i` of a list. -/
def wordAt (w : List (BitVec 64)) (i : Nat) : BitVec 64 := w.getD i 0

/-- The message schedule, newest word first. -/
def shaSchedule : Nat → List (BitVec 64) → List (BitVec 64)
  | 0, w => w
  | n + 1, w =>
    let a := wordAt w 1
    let b := wordAt w 14
    let s1 := a.rotateRight 19 ^^^ a.rotateRight 61 ^^^ (a >>> 6)
    let s0 := b.rotateRight 1 ^^^ b.rotateRight 8 ^^^ (b >>> 7)
    shaSchedule n ((s1 + wordAt w 6 + s0 + wordAt w 15) :: w)

/-- One round. -/
def shaRound (v : List (BitVec 64)) (kw : BitVec 64) : List (BitVec 64) :=
  let a := wordAt v 0
  let e := wordAt v 4
  let t1 := wordAt v 7 + (e.rotateRight 14 ^^^ e.rotateRight 18 ^^^ e.rotateRight 41)
    + ((e &&& wordAt v 5) ^^^ (~~~ e &&& wordAt v 6)) + kw
  let t2 := (a.rotateRight 28 ^^^ a.rotateRight 34 ^^^ a.rotateRight 39)
    + ((a &&& wordAt v 1) ^^^ (a &&& wordAt v 2) ^^^ (wordAt v 1 &&& wordAt v 2))
  [t1 + t2, a, wordAt v 1, wordAt v 2, wordAt v 3 + t1, e, wordAt v 5, wordAt v 6]

/-- One block of 128 bytes. -/
def shaBlock (h : List (BitVec 64)) (b : Bytes) : List (BitVec 64) :=
  let w0 := (List.range 16).map fun i => BitVec.ofNat 64 (beVal (slice b (8 * i) 8))
  let w := (shaSchedule 64 w0.reverse).reverse
  let r := (List.zipWith (· + ·) shaK w).foldl shaRound h
  List.zipWith (· + ·) h r

/-- All blocks of a padded message. -/
def shaBlocks : Nat → List (BitVec 64) → Bytes → List (BitVec 64)
  | 0, h, _ => h
  | n + 1, h, m => shaBlocks n (shaBlock h (m.take 128)) (m.drop 128)

/-- SHA-384. -/
def sha384 (m : Bytes) : Bytes :=
  let p := shaPad m
  ((shaBlocks (p.length / 128) shaH0 p).take 6).flatMap fun w => beBytes 8 w.toNat

/-- The prime of P-384. -/
def p384P : Nat := 2 ^ 384 - 2 ^ 128 - 2 ^ 96 + 2 ^ 32 - 1
/-- The order of its base point. -/
def p384N : Nat := 0xffffffffffffffffffffffffffffffffffffffffffffffffc7634d81f4372ddf581a0db248b0a77aecec196accc52973
/-- Its coefficient b. -/
def p384B : Nat := 0xb3312fa7e23ee7e4988e056be3f82d19181d9c6efe8141120314088f5013875ac656398d8a2ed19d2a85c8edd3ec2aef
/-- The base point. -/
def p384G : Nat × Nat :=
  (0xaa87ca22be8b05378eb1c71ef320ad746e1d3b628ba79b9859f741e082542a385502f25dbf55296c3a545e3872760ab7,
   0x3617de4a96262c6f5d9e98bf9292dc29f8f41dbd289a147ce9da3113b5f0b8c00a60b1ce1d7e819d7a431d7c90ea0e5f)

/-- `a` to the power `e` modulo `m`, over `n` bits of `e`. -/
def powMod (m : Nat) : Nat → Nat → Nat → Nat → Nat
  | 0, _, _, acc => acc
  | n + 1, a, e, acc => powMod m n (a * a % m) (e / 2) (if e % 2 = 1 then acc * a % m else acc)

/-- The inverse modulo a prime. -/
def invMod (m a : Nat) : Nat := powMod m 384 (a % m) (m - 2) 1

/-- Addition of points; `none` is the point at infinity. -/
def ecAdd (x y : Option (Nat × Nat)) : Option (Nat × Nat) :=
  match x, y with
  | none, q => q
  | q, none => q
  | some (x1, y1), some (x2, y2) =>
    if x1 = x2 && (y1 + y2) % p384P = 0 then none
    else
      let l := if x1 = x2 then (3 * x1 * x1 + (p384P - 3)) * invMod p384P (2 * y1) % p384P
        else (y2 + p384P - y1) * invMod p384P (x2 + p384P - x1) % p384P
      let x3 := (l * l + 2 * p384P - x1 - x2) % p384P
      some (x3, (l * (x1 + p384P - x3) + (p384P - y1)) % p384P)

/-- `k` times a point, over `n` bits of `k`. -/
def ecMul : Nat → Nat → Option (Nat × Nat) → Option (Nat × Nat) → Option (Nat × Nat)
  | 0, _, _, acc => acc
  | n + 1, k, q, acc => ecMul n (k / 2) (ecAdd q q) (if k % 2 = 1 then ecAdd acc q else acc)

/-- ECDSA P-384 verification: 96 bytes of public key, r and s of 48 bytes, the SHA-384 digest of the message. -/
def ecdsaOk (key r s : Bytes) (msg : Bytes) : Bool :=
  let qx := beVal (key.take 48)
  let qy := beVal (key.drop 48)
  let rv := beVal r
  let sv := beVal s
  let onCurve := qx < p384P && qy < p384P && (qy * qy + 3 * qx) % p384P == (qx * qx * qx + p384B) % p384P
  if !onCurve || rv = 0 || rv ≥ p384N || sv = 0 || sv ≥ p384N then false
  else
    let w := invMod p384N sv
    let z := beVal (sha384 msg)
    match ecAdd (ecMul 384 (z * w % p384N) (some p384G) none) (ecMul 384 (rv * w % p384N) (some (qx, qy)) none) with
    | none => false
    | some (x, _) => x % p384N == rv

end Sys2Proof.Machine
end

