-- ==== Sys2Proof/Config.lean ====
section
/-! DEFINITION. What the specification leaves open: constants without a body, so that no proof can lean on a value of them. -/

namespace Sys2Proof

/-- Free value number `n`: a value that the specification leaves open, one for each time such a value is needed (log 7). -/
opaque Config.freeValue : Nat → Nat

/-- NIMANCA_VID, the Vendor ID that the ordering sheet gives (R7 of 00_scope; log 7). -/
opaque Config.vendorId : BitVec 16

/-- The temperature in 0.001 degC that the inverse of a thermocouple's reference function gives for a voltage in microvolts: `kind` is the curve, 6 to 9
(R478 of 14_housekeeping_thermal names the functions and gives no numbers; log 7). -/
opaque Config.sensorCurve : Nat → Rat → Int

/-- The ITS-90 reference voltage in microvolts of a thermocouple `kind` (curves 6 to 9 of R478) at a temperature in degrees Celsius; the
specification names the functions and gives no numbers (log 7). -/
opaque Config.emf : Nat → Rat → Rat

/-- The temperature in degrees Celsius at which a calibration term stands while its source has given no valid reading yet (R498 keeps the last
interpolated value and names none before the first; log 7). -/
opaque Config.bootTemp : Rat

/-- The value with which the block works where a calibration term that it needs has not been measured, by the term's offset in a set: the specification marks such a term
and states no value for it (R143, R499; log 74). -/
opaque Config.blankTerm : Nat → Int

/-- Pairs that a channel's engine input holds before it is full; the specification names the input and gives no depth (R169; log 7). -/
opaque Config.engineInput : Nat

/-- The phase of a converter's sample clock against the timing clock in ticks, modulo the sample period (R261, R262; log 7). -/
opaque Config.clockPhase : Nat → Nat

/-- Number of SRAM macros, the domains of spare class SRAM_ROWCOL: the specification names none (R286, R289; log 7). -/
opaque Config.sramMacros : Nat

/-- Where a stepped test pattern stands at a sample: the specification gives the staircase 16 steps and the ramp the full scale, and no pace to either (R244;
log 7). -/
opaque Config.testWalk : Nat → Nat

/-- Manufacturer identity of IDCODE, stated on the ordering sheet alone (R567). A free value (log 7). -/
opaque Config.jtagManufacturer : BitVec 11

end Sys2Proof
end

