-- ==== Sys2Proof/Machine/State.lean ====
section
/-! DEFINITION. The state of the block (plain data), its faults and refusals, and the state after reset. -/
namespace Sys2Proof.Machine

/-- The device states of R374, with the codes of STATE. -/
inductive DevSt where
  /-- OFF (0). -/
  | off
  /-- RESET (1). -/
  | reset
  /-- BOOT (2). -/
  | boot
  /-- HOLD (3). -/
  | hold
  /-- ARMED (4). -/
  | armed
  /-- RANGING (5). -/
  | ranging
  /-- DEGRADED (6). -/
  | degraded
  /-- SAFE (7). -/
  | safe
  /-- THERMAL_OFF (8). -/
  | thermalOff
  deriving DecidableEq, Repr

/-- What a string may fire (R102 to R108). -/
inductive StrMode where
  /-- in service: ranging shots and armed proof shots. -/
  | inService
  /-- UNVERIFIED: only proof shots fire (R108). -/
  | unverified
  /-- faulted: nothing fires (R104). -/
  | faulted
  deriving DecidableEq, Repr

/-- Where a scheduled shot stands (R45, R46, R571). -/
inductive ShotSt where
  /-- its decision instant has not come. -/
  | scheduled
  /-- passed the five gates and was charged, not yet fired. -/
  | admitted
  /-- FIRE_Snn has risen. -/
  | fired
  /-- stopped at its pad between t_dec and t_fire (R571); keeps its charge. -/
  | padStopped
  /-- withheld by the gate that `Shot.gate` names. -/
  | withheld
  deriving DecidableEq, Repr

/-- The identity block of R5: fuses read through PF0 BAR0. -/
structure Ident where
  /-- VARIANT fuses (1 AQ, 2 SV) (R5). DESIGN CHOICE (log 2): value at reset. -/
  variant : BitVec 4 := 2
  /-- STEPPING (0x11 = B1) (R5). -/
  stepping : BitVec 8 := 0x11
  /-- IDENT0_C, the separate fuse read of the complement (R5). -/
  identC : BitVec 32 := 0xAEDFEEDF
  /-- SERIAL_HI and SERIAL_LO fuses (R5). DESIGN CHOICE (log 2): value at reset. -/
  serial : BitVec 64 := 0
  deriving DecidableEq, Repr

/-- The PCI Express host link (R20, R22, R326, R327). -/
structure Link where
  /-- the host link has completed training (R22). -/
  up : Bool := false
  /-- trained speed: 1 to 4 for 2.5, 5.0, 8.0, 16.0 GT/s, 0 while never trained (R20). DESIGN CHOICE (log 15): value at reset. -/
  gen : Nat := 0
  /-- trained width 1, 2, 4 or 8, 0 while never trained (R20). DESIGN CHOICE (log 15): value at reset. -/
  width : Nat := 0
  /-- BELOW_CAP of LINK_CAP (R22 R335). -/
  belowCap : Bool := false
  /-- the validated rate of the active configuration, bytes per second (R22). DESIGN CHOICE (log 15): value at reset. -/
  validatedRate : Rat := 0
  /-- the rate that the last successful VALIDATE computed for the staged set (R381). DESIGN CHOICE (log 15): value at reset. -/
  stagedRate : Rat := 0
  deriving DecidableEq, Repr

/-- Calibration values in use on a channel, a string or a converter: where and with what changes they were formed (R144, R498 of 15_calibration_ageing_errors). -/
structure CalUse where
  /-- temperature of its on-die source then (R497). DESIGN CHOICE (log 15): value at reset. -/
  die : Rat := 0
  /-- detector temperature then (R497). DESIGN CHOICE (log 15): value at reset. -/
  pix : Rat := 0
  /-- field changes of its own terms then, by key (R501). -/
  chg : Tab Int := ⟨0, []⟩
  deriving DecidableEq, Repr

/-- One scheduled shot of a string (R43, R45, R56). -/
structure Shot where
  /-- its number j in the cell, 0 to N-1 (R43). -/
  j : Nat := 0
  /-- its number k among the string's scheduled ranging shots (R56). -/
  k : Nat := 0
  /-- its nominal instant (R43). -/
  tNom : Nat := 0
  /-- its dither value (R44 R49). -/
  d : Nat := 0
  /-- its requested fire instant (R44). -/
  tFire : Nat := 0
  /-- the fire-monitor timestamp of its edge, in 15.625 ps (R93). -/
  f : Nat := 0
  /-- pulse width code (R61). -/
  pw : Nat := 0
  /-- reservoir setpoint, 20 mV units (R61). -/
  vres : Nat := 0
  /-- reservoir voltage at the guard sample (R73). -/
  vMeas : Nat := 0
  /-- charge in nJ (R73). -/
  charge : Nat := 0
  /-- it is a proof shot (R63). -/
  proof : Bool := false
  /-- where it stands (R45 R571). -/
  st : ShotSt := .scheduled
  /-- the gate that withheld it, 1 to 5 (R45). -/
  gate : Nat := 0
  /-- the stage kept switching through the window (R99). -/
  unjudged : Bool := false
  /-- its judgement window is over (R100). -/
  judged : Bool := false
  /-- NO_LIGHT bookkeeping: 0 not counted, 1 counted, 2 counted with an assigned CH_REF event (R157). -/
  refSt : Nat := 0
  deriving DecidableEq, Repr

/-- One declared cell of one string: the entry that governs it, and its shots (R43, R61, R62). -/
structure CellRun where
  /-- running number of the declaration (the model's name for the cell instance) (R118). The model's own field (log 16). -/
  cellNo : Nat := 0
  /-- angle cell c (R61). -/
  cell : Nat := 0
  /-- Furrow number of the cell (R304). -/
  furrow : Nat := 0
  /-- Furrow direction (R304). -/
  dir : Bool := false
  /-- t_cell(c) (R118). -/
  tCell : Nat := 0
  /-- schedule variant in use (R70). -/
  variant : Nat := 0
  /-- the 16 value bytes of the entry (R61). -/
  entry : Bytes := []
  /-- the 32 value bytes of the stripe-map row (R64). -/
  row : Bytes := []
  /-- gate 1 fails for the cell: the string stays dark in it (R45 R89). -/
  bad : Bool := false
  /-- the prefetch buffer held no entry (SCHED_UNDERRUN) (R89). -/
  underrun : Bool := false
  /-- the proof slot was armed at the declaration (R107). -/
  proofArmed : Bool := false
  /-- the next cell was declared, or lock was lost (R45 R121). -/
  ended : Bool := false
  /-- a shot was sampled off VRES by more than 2.0 V (R98). -/
  outReg : Bool := false
  /-- the shots the entry schedules, in order (R43). -/
  shots : List Shot := []
  /-- slow-axis position sampled at t_cell (R125). -/
  slowPos : BitVec 32 := 0
  /-- slow-axis-unlocked flag of the cell (R125 R126). -/
  slowBad : Bool := false
  /-- what its channels' records are: 0 NORMAL, 1 NO_ILLUM, 2 STALE (R306). -/
  kind : Nat := 0
  /-- calibration values of the string, formed at this cell's boundary (R498). DESIGN CHOICE (log 15): value at reset. -/
  use : CalUse := {}
  /-- declared in RANGING or DEGRADED: its channel-sheaves are formed (R547). -/
  live : Bool := false
  deriving DecidableEq, Repr

/-- One bucketed window of one string's guard (R77 to R80). -/
structure GuardW where
  /-- nJ per bucket, the current bucket first, at most 17; a missing bucket holds 0 (R77). -/
  buckets : List Nat := []
  /-- end of the bucket that holds the last admitted shot (or the reset fill) (R79). DESIGN CHOICE (log 15): value at reset. -/
  lastAdmit : Nat := 0
  /-- release instant of the block that holds, if any (R79). -/
  release : Option Nat := none
  /-- blocks started (R81). -/
  blocks : Nat := 0
  deriving DecidableEq, Repr

/-- One emitter string: code generator, drive, verification, guard (ch. 02, 03). -/
structure StrState where
  /-- instant at which the judgement window of the cell's last scheduled shot ends, and the setpoint to which the stage then moves (R96). DESIGN CHOICE (log 15): value at reset. -/
  moveAt : Option (Nat × Nat) := none
  /-- since when the stage has been at ILIM and below its band (R98). DESIGN CHOICE (log 15): value at reset. -/
  regSince : Option Nat := none
  /-- that state has posted its WARN (R98). DESIGN CHOICE (log 15): value at reset. -/
  regPosted : Bool := false
  /-- recalibrations of the delay line requested (R93). DESIGN CHOICE (log 15): value at reset. -/
  recalReq : Nat := 0
  /-- the code generator's state (R49). DESIGN CHOICE (log 15): value at reset. -/
  lfsr : BitVec 31 := 1
  /-- complement of the seed handed over with it (R50). DESIGN CHOICE (log 15): value at reset. -/
  seedC : BitVec 31 := 0x7FFFFFFE
  /-- the seed that was handed over (R50). DESIGN CHOICE (log 15): value at reset. -/
  seed : BitVec 31 := 1
  /-- the seed failed its complement check and no new seed has taken effect (R45 R512). -/
  seedBad : Bool := false
  /-- generator steps since the seed was handed over (R512). DESIGN CHOICE (log 15): value at reset. -/
  seedSteps : Nat := 0
  /-- the previous nominal instant that gate 2 compares with (R45). -/
  lastTnom : Option Nat := none
  /-- number k of the next scheduled ranging shot (R56). -/
  shotK : Nat := 0
  /-- declared cells whose shots or sheaves are still live, newest first (R61). -/
  runs : List CellRun := []
  /-- gate counters 1 to 5 (gate 4 is not counted and stays 0) (R45). -/
  gates : List Nat := [0, 0, 0, 0, 0]
  /-- SCHED_UNDERRUN count (R89). -/
  underruns : Nat := 0
  /-- service state (R102 R108). -/
  mode : StrMode := .inService
  /-- STRING_REVERIFY moved it to UNVERIFIED and it has not returned to service (R105 R291). -/
  fromFault : Bool := false
  /-- fault cause code 1 to 8, 0 while not faulted (R104). -/
  cause : Nat := 0
  /-- reading of the ranging clock at which the verification age was last 0 (the age is the clock less this) (R106). DESIGN CHOICE (log 15): value at reset. -/
  verAt : Nat := 0
  /-- the active set has an entry with EN = 1 for the string (R106). -/
  aged : Bool := false
  /-- instants of the GOOD judgements of the trailing 100 ms, newest first (R107). -/
  goods : List Nat := []
  /-- results of the last eight judged ranging shots, newest first (0 GOOD 1 SHORT 2 OPEN 3 DIVERT) (R102). -/
  hist : List Nat := []
  /-- counts GOOD, SHORT, OPEN, DIVERT, unjudged (R399). -/
  judg : List Nat := [0, 0, 0, 0, 0]
  /-- setpoint the stage regulates to, 20 mV units, 0 = none (R96). DESIGN CHOICE (log 15): value at reset. -/
  target : Nat := 0
  /-- the over-voltage comparator holds RES_GATE_Snn low (R97). -/
  overV : Bool := false
  /-- since when (R97). DESIGN CHOICE (log 15): value at reset. -/
  overVSince : Nat := 0
  /-- RES_GATE_Snn is held low by a RES_OVERVOLT or GATE_STUCK fault (R103 R104). -/
  gateHeld : Bool := false
  /-- consecutive FIRE_SKEW counts (R93). -/
  skewRun : Nat := 0
  /-- FIRE_SKEW count (R93). -/
  skewCount : Nat := 0
  /-- the bucketed windows 10 us, 1 ms, 100 ms, 10 s (R76 R77). -/
  guard : List GuardW := [{}, {}, {}, {}]
  /-- the budget table failed its complement check: every limit is 0 (R83). -/
  tableBad : Bool := false
  /-- a budget table has loaded its reset fill since the guard clear (R85). -/
  filled : Bool := false
  /-- corrected CH_REF stamps of the last assigned events, newest first, 1/16 LSB (R156). -/
  dl : List Int := []
  /-- events assigned since the string was last faulted or RANGING entered (R156). -/
  dlCount : Nat := 0
  /-- D_L has moved more than 200 ps from its calibration value (R158). -/
  dlMoved : Bool := false
  /-- admitted shots counted for NO_LIGHT (R157). -/
  refShots : Nat := 0
  /-- photon estimates of assigned CH_REF events since the last re-plan, summed (R506). -/
  slopeN : Nat := 0
  /-- charge of their shots, nJ, summed (R506). -/
  slopeQ : Nat := 0
  /-- of these, shots with an assigned CH_REF event (R157). -/
  refHits : Nat := 0
  deriving DecidableEq, Repr

/-- The schedule sequencer (ch. 02). -/
structure Seq where
  /-- schedule variant in use (R70). DESIGN CHOICE (log 15): value at reset. -/
  variant : Nat := 0
  /-- ageing variant the Steward has selected (R70 R72). -/
  ageing : Option Nat := none
  /-- thermal level sampled 1 us before the boundary (R71). DESIGN CHOICE (log 15): value at reset. -/
  thermAtSample : Nat := 0
  /-- number of the present Furrow (R304). DESIGN CHOICE (log 15): value at reset. -/
  furrow : Nat := 0
  /-- Furrows declared since the fast axis first locked after boot (R304). -/
  furrows : Nat := 0
  /-- Furrow direction (R304). DESIGN CHOICE (log 15): value at reset. -/
  dir : Bool := false
  /-- the cell that is declared next; none until a Furrow boundary (R118). -/
  nextCell : Option Nat := none
  /-- cells declared so far (R118). The model's own field (log 16). -/
  cellNo : Nat := 0
  /-- instant of the last cell declaration (R118 R383). DESIGN CHOICE (log 15): value at reset. -/
  lastDecl : Nat := 0
  /-- instant of the last Furrow boundary (R118 R383). DESIGN CHOICE (log 15): value at reset. -/
  lastBoundary : Nat := 0
  /-- PLAN_BASE of the plan in force (R49 R52). DESIGN CHOICE (log 15): value at reset. -/
  planBase : BitVec 31 := 0
  /-- PLAN_STRIDE of the plan in force (R49 R52). DESIGN CHOICE (log 15): value at reset. -/
  planStride : Nat := 0
  /-- PLAN_EPOCH of the plan in force (R49 R52). -/
  planEpoch : Nat := 0
  /-- the plan in force came from a Drover domain (R52 R399). -/
  planDomain : Bool := false
  /-- the generators have been seeded since reset (R50 R51). -/
  seeded : Bool := false
  /-- entry complement failures in this Furrow (R89). -/
  badInFurrow : Nat := 0
  /-- the Steward is reloading the set from its source (R89). -/
  reloading : Bool := false
  /-- a Furrow boundary has come since RANGING was entered; shots fire from it (R547 R549). -/
  fireFrom : Bool := false
  /-- time spent in RANGING or DEGRADED with ARM_EN high and the fast axis locked, the clock of the verification ages (R106 R547). DESIGN CHOICE (log 15): value at reset. -/
  rangingClk : Nat := 0
  /-- instant of the last guard clear, origin of the bucket boundaries (R77). -/
  guardT0 : Nat := 0
  /-- index of the current bucket of each window since the clear (R77). -/
  guardIdx : List Nat := [0, 0, 0, 0]
  deriving DecidableEq, Repr

/-- The satellite setpoint bus (R109 to R115). -/
structure Satbus where
  /-- instant at which the last frame's reset began (R109 R129). DESIGN CHOICE (log 15): value at reset. -/
  startAt : Nat := 0
  /-- instant at which the last frame ends (R110 R129). DESIGN CHOICE (log 15): value at reset. -/
  busyTill : Nat := 0
  /-- SEQ of the next frame (R111). DESIGN CHOICE (log 15): value at reset. -/
  seqNo : BitVec 8 := 0
  /-- frames sent (R399). -/
  frames : Nat := 0
  /-- SATBUS_BREAK count (R114). -/
  breaks : Nat := 0
  /-- consecutive breaks (R114). -/
  breakRun : Nat := 0
  /-- end of the frame whose echo is awaited (R114). -/
  endAt : Option Nat := none
  /-- start of the last frame (R113). DESIGN CHOICE (log 15): value at reset. -/
  lastSent : Nat := 0
  deriving DecidableEq, Repr

/-- Fast axis, slow axis, encoder and shot synchronisation (R116 to R126). -/
structure Steer where
  /-- consecutive half-periods that meet the lock conditions (R117). DESIGN CHOICE (log 15): value at reset. -/
  lockRun : Nat := 0
  /-- instant up to which half-periods have been judged (R117). DESIGN CHOICE (log 15): value at reset. -/
  halfAt : Nat := 0
  /-- drive DAC value, at most DRV_MAX (R116 R127). DESIGN CHOICE (log 15): value at reset. -/
  driveLevel : Nat := 0
  /-- last trim of the drive frequency (R123). DESIGN CHOICE (log 15): value at reset. -/
  trimAt : Option Nat := none
  /-- the fast axis is driven (R116). -/
  running : Bool := false
  /-- the fast axis is locked (SCAN_LOCK) (R117). -/
  locked : Bool := false
  /-- start of the acquisition in progress (R122). DESIGN CHOICE (log 15): value at reset. -/
  acqStart : Nat := 0
  /-- failed restarts in a row (R122). -/
  restarts : Nat := 0
  /-- the acquisition in progress is no restart: the first after entry to ARMED or an APPLY, or the one after loss of lock (R122). -/
  firstAcq : Bool := false
  /-- issued slow-axis steps (R124). DESIGN CHOICE (log 15): value at reset. -/
  stepCount : BitVec 32 := 0
  /-- SLOW_DIR (R124). DESIGN CHOICE (log 15): value at reset. -/
  slowDir : Bool := false
  /-- PWM duty of SLOW_STEP; the speed loop's law is not stated, so the value is free after any update (R124). DESIGN CHOICE (log 15): value at reset. -/
  slowDuty : Nat := 0
  /-- Furrows since SLOW_DIR was last reversed (R124). DESIGN CHOICE (log 15): value at reset. -/
  frameCount : Nat := 0
  /-- the slow-axis-unlocked condition holds (R125). -/
  slowErr : Bool := false
  /-- last slow-axis position (R125 R126). DESIGN CHOICE (log 15): value at reset. -/
  slowPos : BitVec 32 := 0
  /-- start of the last SSI read (R126). -/
  ssiStart : Option Nat := none
  /-- device time of the last SHOT_SYNC_IN edge (R123). DESIGN CHOICE (log 15): value at reset. -/
  syncTime : BitVec 64 := 0
  /-- its offset from the nearest Furrow boundary (R123). DESIGN CHOICE (log 15): value at reset. -/
  syncOfs : Int := 0
  /-- edges received (R123). -/
  syncCount : Nat := 0
  /-- the drive frequency is held because no edge arrives (R123). -/
  syncLost : Bool := false
  /-- instant of the last edge, or of the start of waiting (R123). DESIGN CHOICE (log 15): value at reset. -/
  syncLast : Nat := 0
  /-- fast-axis drive frequency, 0 while parked (R116 R123). DESIGN CHOICE (log 15): value at reset. -/
  driveFreq : Rat := 0
  deriving DecidableEq, Repr

/-- One entry of a candidate log (R205); the candidate number and the weight are the model's own bookkeeping. -/
structure LogEnt where
  /-- the stamp rounded to 1 LSB (R205). -/
  t : Nat := 0
  /-- the reference shot (its timestamp F in LSB stands for its slot) (R205). -/
  refShot : Nat := 0
  /-- photon estimate (R205). -/
  n : Nat := 0
  /-- HT flag (R205). -/
  ht : Bool := false
  /-- the candidate's weight in this sheaf (R171). -/
  w : Nat := 0
  deriving DecidableEq, Repr

/-- One entry of an alert store (R181). -/
structure AlertEnt where
  /-- weight (R181). -/
  weight : Nat := 0
  /-- shot count (R181). -/
  count : Nat := 0
  /-- index q of the last shot that contributed (R181). -/
  lastQ : Option Nat := none
  /-- it was read with an uncorrectable error; no alert is raised from it (R288). -/
  bad : Bool := false
  deriving DecidableEq, Repr

/-- An outstanding alert (R185 to R189). -/
structure Raised where
  /-- ALERT_DROVER of the Thresher descriptor that its sheaf opened with (R196). -/
  drover : Bool := false
  /-- alert ID (R185). -/
  id : BitVec 32 := 0
  /-- zone number (R187). -/
  zone : Nat := 0
  /-- channel (R187). -/
  ch : Nat := 0
  /-- string of the zone (R187). -/
  str : Nat := 0
  /-- its sheaf's cell (R187). -/
  cellNo : Nat := 0
  /-- cell (R187). -/
  cell : Nat := 0
  /-- Furrow number (R187). -/
  furrow : Nat := 0
  /-- alert bin (R187). -/
  bin : Nat := 0
  /-- the alert bin's centre (R187 R189). -/
  centre : Nat := 0
  /-- CONF_TOL bins (R189). -/
  tol : Nat := 0
  /-- RMIN_MM of the zone (R189). -/
  rmin : Nat := 0
  /-- RMAX_MM of the zone (R189). -/
  rmax : Nat := 0
  /-- ALERT_EXCL of the program (R189). -/
  excl : BitVec 8 := 0
  /-- entry weight at the raise (R187). -/
  weight : Nat := 0
  /-- shot count at the raise (R187). -/
  count : Nat := 0
  /-- device time of the raise (R187). -/
  time : BitVec 64 := 0
  deriving DecidableEq, Repr

/-- Phase of a channel-sheaf (R202 to R217). -/
inductive SheafPh where
  /-- open; pairs are added. -/
  | accumulating
  /-- from t_proc until processing ends. -/
  | processing
  /-- its record is formed and waits for t_win. -/
  | ready
  deriving DecidableEq, Repr

/-- One channel-sheaf (ch. 05, 06), or the place of a NO_ILLUM or STALE record (R306). -/
structure Sheaf where
  /-- its cell (R62). -/
  cellNo : Nat := 0
  /-- its string, 0 when none (R62). -/
  str : Nat := 0
  /-- no string lists the channel in the cell (R65). -/
  nostr : Bool := false
  /-- 0 NORMAL, 1 NO_ILLUM, 2 STALE (R306). -/
  kind : Nat := 0
  /-- angle cell (R304). -/
  cell : Nat := 0
  /-- Furrow number (R304). -/
  furrow : Nat := 0
  /-- Furrow direction (R304). -/
  dir : Bool := false
  /-- schedule variant (R304). -/
  variant : Nat := 0
  /-- slow-axis position at t_cell (R304). -/
  slowPos : BitVec 32 := 0
  /-- t_cell (R301). -/
  tCell : Nat := 0
  /-- phase (R202). -/
  ph : SheafPh := .accumulating
  /-- coarse slot, none = slot miss or released (R202). -/
  slot : Option Nat := none
  /-- no slot was free (R202). -/
  miss : Bool := false
  /-- coincidence level (R148). -/
  k : Nat := 1
  /-- depth N (R62). -/
  n : Nat := 0
  /-- T_SPACE (R43). -/
  tSpace : Nat := 0
  /-- nominal instant of shot 0 (R202). -/
  tOpen : Nat := 0
  /-- nominal instant of shot N-1 (R202). -/
  tNomLast : Nat := 0
  /-- t_cell of the channel's second later sheaf, if declared by t_win (R203). -/
  c2At : Option Nat := none
  /-- later sheaves of the channel whose cells have been declared (R203). -/
  later : Nat := 0
  /-- TIME latched at shot 0 (R304). -/
  time : BitVec 64 := 0
  /-- coarse histogram (R201). -/
  bins : Tab Nat := ⟨0, []⟩
  /-- a bin saturated (R201). -/
  sat : Bool := false
  /-- candidate log, newest first (R205). -/
  log : List LogEnt := []
  /-- logged candidates (R205). -/
  logLen : Nat := 0
  /-- total candidate weight (R177). -/
  wTot : Nat := 0
  /-- candidate numbers given out (R166). -/
  cands : Nat := 0
  /-- flags gathered while open (R305). -/
  flags : BitVec 32 := 0
  /-- an engine error: it closes without returns (R282 R296). -/
  noRet : Bool := false
  /-- half of the slice's alert store that serves it (R181). The model's own field (log 90). -/
  half : Nat := 0
  /-- a coarse bin was read with an uncorrectable error and taken as 0 (R288 R311). -/
  coarseBad : Bool := false
  /-- fine bins read with an uncorrectable error: pass and word (R288). The model's own field (log 90). -/
  fineBad : List (Nat × Nat) := []
  /-- alert-store entries of its half, by zone * 65536 + bin (R181). -/
  alerts : Tab AlertEnt := ⟨{}, []⟩
  /-- its half has been cleared for a later sheaf (R181 R234). -/
  alertCleared : Bool := false
  /-- zones that have raised (or tried to raise) an alert for it (R184). -/
  zonesDone : List Nat := []
  /-- header and program block of the Thresher descriptor it opened with (R196). -/
  thr : Bytes := []
  /-- alert zones that apply to it: number and value (R181 R182). -/
  zones : List (Nat × Bytes) := []
  /-- D_CELL_MIN of the set in force at its opening (R203). -/
  dCellMin : Nat := 0
  /-- reduction program block it opened with (R233). -/
  red : Bytes := []
  /-- program number (R62). -/
  prog : Nat := 0
  /-- PW code (R61). -/
  pw : Nat := 0
  /-- start of processing (R206). DESIGN CHOICE (log 15): value at reset. -/
  tProc : Nat := 0
  /-- instant at which processing time ran out (R214). -/
  tStop : Option Nat := none
  /-- shots that fired, latched at t_proc (R48). -/
  fired : Nat := 0
  /-- gates mask, latched at t_proc (R304). -/
  gates : Nat := 0
  /-- the entry has DITH = 0 (R167). -/
  undith : Bool := false
  /-- (shot index q, fire-monitor timestamp) of its fired shots, latched at t_proc (R208). -/
  shotF : List (Nat × Nat) := []
  /-- coarse peaks (bin, P) in the order tried (R207). -/
  peaks : List (Nat × Nat) := []
  /-- start of the counting span (R147). DESIGN CHOICE (log 15): value at reset. -/
  spanStart : Nat := 0
  /-- counting span; none = until the cell ends (R147). -/
  spanLen : Option Nat := none
  /-- its number of intervals (R221). -/
  spanN : Nat := 1
  /-- count C of its counting span (R147). -/
  count : Nat := 0
  /-- events of each interval of the span (R221). -/
  ivals : Tab Nat := ⟨0, []⟩
  /-- pile-up count (R222). -/
  pile : Nat := 0
  /-- the channel-sheaf's own estimate, once complete (R147). -/
  lam : Option Rat := none
  /-- D_L in use (R144). DESIGN CHOICE (log 15): value at reset. -/
  dlUse : Int := 0
  /-- SKEW_TRIM in use (R144). DESIGN CHOICE (log 15): value at reset. -/
  skewUse : Int := 0
  /-- the interpolated calibration set of the channel that it uses throughout (R144 R498). DESIGN CHOICE (log 15): value at reset. -/
  use : CalUse := {}
  /-- the calibration values of its string (R498). DESIGN CHOICE (log 15): value at reset. -/
  strUse : CalUse := {}
  /-- its number among the channel's sheaves since the last apply (R223). -/
  sheafNo : Nat := 0
  /-- instant at which it closed: the end of its processing or t_win, whichever is later (R36 R217). DESIGN CHOICE (log 15): value at reset. -/
  closedAt : Nat := 0
  /-- the formed record (phase ready) (R304). -/
  record : Bytes := []
  /-- dump records formed with it (R223). -/
  dumps : List Bytes := []
  deriving DecidableEq, Repr

/-- A candidate on its way to a Thresher slice (R145). -/
structure Cand where
  /-- channel (R145). -/
  ch : Nat := 0
  /-- string whose slice takes it (R164). -/
  str : Nat := 0
  /-- fire-monitor timestamp of the reference shot (stands for its slot) (R165). -/
  fRef : Nat := 0
  /-- corrected time in 1/16 LSB (R143). -/
  tCorr : Nat := 0
  /-- LT edge (R203). -/
  tEdge : Nat := 0
  /-- photon estimate (R135). -/
  n : Nat := 0
  /-- HT flag (R136). -/
  ht : Bool := false
  /-- stamped by TDC-B (R145). -/
  laneB : Bool := false
  deriving DecidableEq, Repr

/-- The pairs of one candidate with one sheaf, on their way to the engines (R165, R169). -/
structure CandPair where
  /-- the sheaf's cell (R165). -/
  cellNo : Nat := 0
  /-- its string (R165). -/
  str : Nat := 0
  /-- LT edge of the candidate (R203). -/
  tEdge : Nat := 0
  /-- weight (R171). -/
  w : Nat := 0
  /-- what the candidate log takes (R205). -/
  ent : LogEnt := {}
  /-- (shot index q, range r in 1/16 LSB) of each pair (R165). -/
  qr : List (Nat × Nat) := []
  deriving DecidableEq, Repr

/-- One receive channel, CH000 to CH511 and CH_REF as number 512 (ch. 04 to 06). -/
structure ChanState where
  /-- coincidence level last latched, 0 = none yet (R148). DESIGN CHOICE (log 15): value at reset. -/
  k : Nat := 0
  /-- the next channel-sheaf is the first after entry to RANGING (R148). -/
  fresh : Bool := true
  /-- program of the last channel-sheaf (R148). -/
  lastProg : Option Nat := none
  /-- last completed estimate since ARMED was entered (R147 R149). -/
  lam : Option Rat := none
  /-- the estimate before it (R148). -/
  lamPrev : Option Rat := none
  /-- instant at which the event queue has drained (R138). DESIGN CHOICE (log 15): value at reset. -/
  evqBusy : Nat := 0
  /-- instant at which the comparator re-arms (R137). DESIGN CHOICE (log 15): value at reset. -/
  rearmAt : Nat := 0
  /-- calibration values formed at the channel's last sheaf boundary; none = no boundary yet (R144 R498). DESIGN CHOICE (log 15): value at reset. -/
  use : Option CalUse := none
  /-- instant from which the channel may pass its next candidate (R146). DESIGN CHOICE (log 15): value at reset. -/
  candFrom : Nat := 0
  /-- instant at which the channel's engines have taken the pairs delivered so far (R169). DESIGN CHOICE (log 15): value at reset. -/
  engFrom : Nat := 0
  /-- candidates waiting for the slice, oldest first (R146). -/
  candq : List Cand := []
  /-- pairs on their way to the engines, oldest first (R169). -/
  pairq : List CandPair := []
  /-- channel-sheaves not yet released, oldest first (R202). -/
  sheaves : List Sheaf := []
  /-- cell instance of the last channel-sheaf opened (R202). The model's own field (log 16). -/
  lastCell : Nat := 0
  /-- channel-sheaves since the last apply (R223). -/
  sheafCount : Nat := 0
  /-- last NORMAL record, empty = none (R306). -/
  lastNormal : Bytes := []
  /-- INPUT_OVERLOAD (R131). -/
  overload : Bool := false
  /-- TDC-A judged failed (R161). -/
  laneAFail : Bool := false
  /-- TDC-B judged failed (R161). -/
  laneBFail : Bool := false
  /-- TDC-B stamps in service (spare-lane flag) (R161). -/
  onLaneB : Bool := false
  /-- consecutive passes with the A - B difference out of limit (R161). -/
  abRun : Nat := 0
  /-- EVT_OVF (R138). -/
  evtOvf : Nat := 0
  /-- CAND_DROP (R146). -/
  candDrop : Nat := 0
  /-- REF_AMBIG (CH_REF) (R156). -/
  refAmbig : Nat := 0
  /-- LOG_OVF (R205). -/
  logOvf : Nat := 0
  /-- LATE_PAIR (R206). -/
  latePair : Nat := 0
  /-- close-truncated sheaves (R214). -/
  closeTrunc : Nat := 0
  /-- histogram-saturated sheaves (R201). -/
  histSat : Nat := 0
  /-- slot misses (R202). -/
  slotMiss : Nat := 0
  /-- flags for the channel's next record (event overflow, candidate drop, ...) (R305). -/
  pending : BitVec 32 := 0
  /-- cause that made the channel dead, 0 = alive (R284 R289). -/
  dead : Nat := 0
  /-- cause with which it is dead from its next sheaf boundary, 0 = none (R282 R284 R325). -/
  dying : Nat := 0
  /-- an engine error shows in the next NORMAL record (R325). -/
  errPend : Bool := false
  /-- half of the alert store that the next lit sheaf takes (R181). The model's own field (log 90). -/
  half : Nat := 0
  deriving DecidableEq, Repr

/-- One detector bias group (R149 to R155). -/
structure BiasGroup where
  /-- BIAS_TRIMg code in force (R149). -/
  code : Nat := 0
  /-- its R149 target before the rate limit (R149). DESIGN CHOICE (log 15): value at reset. -/
  target : Nat := 0
  /-- instant of the last change of the code (R149). DESIGN CHOICE (log 15): value at reset. -/
  changed : Nat := 0
  /-- vbd is computed at -40 C (R151). -/
  uncertain : Bool := false
  /-- the HK_TEMP result was OPEN at the last boundary (R151). -/
  tempOpen : Bool := false
  /-- a target has been computed since ARMED was entered (R149 R154). -/
  aimed : Bool := false
  /-- latched copy of STBY_CODE of the hardware path (R153). DESIGN CHOICE (log 15): value at reset. -/
  stby : Nat := 0
  /-- ageing correction of the working copy of VBD25 (R162 R508). -/
  vbdAdj : Int := 0
  /-- a dark-count pass holds the group's bias (R160). -/
  deferred : Bool := false
  deriving DecidableEq, Repr

/-- Receive front end common state (ch. 04). -/
structure Rx where
  /-- the channels (R137). -/
  chans : Tab ChanState := ⟨{}, []⟩
  /-- the bias groups (R149). -/
  groups : List BiasGroup := [{}, {}, {}, {}]
  /-- start of CH_REF's counting span, the present cell (R147 R156). The model's own field (log 75). -/
  refFrom : Option Nat := none
  /-- events of CH_REF in that span (R147 R156). The model's own field (log 75). -/
  refCount : Nat := 0
  /-- spans of CH_REF that have ended, oldest first: end, length, count (R147). The model's own field (log 75). -/
  refSpans : List (Nat × Nat × Nat) := []
  /-- the DET_BIAS condition holds (R155). -/
  hvBad : Bool := false
  deriving DecidableEq, Repr

/-- Counters of one Thresher slice (R399 THRESH_STATUS). -/
structure SliceCtr where
  /-- CANDS (R194). -/
  cands : Nat := 0
  /-- PAIRS (R194). -/
  pairs : Nat := 0
  /-- ALIAS_REJ (R175). -/
  aliasRej : Nat := 0
  /-- ALERTS (R187). -/
  alerts : Nat := 0
  /-- CONFIRMED (R189). -/
  confirmed : Nat := 0
  /-- RETRACTED (R190). -/
  retracted : Nat := 0
  /-- ALERT_OVF (R186). -/
  ovf : Nat := 0
  /-- instant from which the slice can accept its next candidate (R169). DESIGN CHOICE (log 15): value at reset. -/
  takeFrom : Nat := 0
  deriving DecidableEq, Repr

/-- One stripe's capture trigger unit (R227 to R230). -/
structure TrigUnit where
  /-- end of a time hold-off (R228). -/
  endAt : Option Nat := none
  /-- candidates left of a counted hold-off (R228). -/
  candsLeft : Nat := 0
  /-- cell that the request count belongs to (R229). DESIGN CHOICE (log 15): value at reset. -/
  cellNo : Nat := 0
  /-- requests raised in that cell (R229). -/
  inCell : Nat := 0
  /-- instant of the last request, for the tie of one engine cycle (R227). -/
  lastReq : Option Nat := none
  /-- requests raised (R231). -/
  requests : Nat := 0
  /-- HOLDOFF_REJECT (R228). -/
  holdRej : Nat := 0
  /-- TRIG_CAP (R229). -/
  trigCap : Nat := 0
  deriving DecidableEq, Repr

/-- The Thresher and its alerts (ch. 05). -/
structure Thresh where
  /-- shortest low time of ALERT_N for its last assertion (R188 R196). DESIGN CHOICE (log 15): value at reset. -/
  pinMin : Nat := 0
  /-- alerts whose retraction record waits in the alert queue (R193 R197). -/
  retracting : List Raised := []
  /-- slice counters (R194). -/
  slices : Tab SliceCtr := ⟨{}, []⟩
  /-- next alert sequence number (R185). -/
  alertSeq : BitVec 16 := 0
  /-- outstanding alerts, oldest first (R186). -/
  outstanding : List Raised := []
  /-- ALERT_N is low since; none = released (R188). -/
  pinSince : Option Nat := none
  /-- alert and retraction records waiting for delivery, oldest first (R187 R349). -/
  alertQ : List Bytes := []
  /-- trigger units (R227). -/
  units : Tab TrigUnit := ⟨{}, []⟩
  deriving DecidableEq, Repr

/-- Converter mode (ch. 07 Modes; MODE codes of R315), and the two states outside it. -/
inductive GwMode where
  /-- EN = 0: powered down. -/
  | off
  /-- START. -/
  | start
  /-- NORMAL. -/
  | normal
  /-- TEST. -/
  | test
  /-- RECOVERY. -/
  | recovery
  /-- dead: accepts no request (R242). -/
  | dead
  deriving DecidableEq, Repr

/-- What a change of a converter's stream was (R251). -/
inductive SEvKind where
  /-- the converter was enabled (`val` 1) or powered down (`val` 0). -/
  | enable
  /-- the crosspoint switched to channel `val`. -/
  | chan
  /-- the gain changed to step `val` (0 x1, 1 x4, 2 x16). -/
  | gain
  /-- a saturation switch inside a window changed the gain to step `val`. -/
  | sat
  /-- the filter changed; `val` is 8 x its taps + its set number. -/
  | filt
  /-- the converter's mode changed to MODE code `val`. -/
  | mode
  /-- a calibration source was connected (`val` 1) or removed (`val` 0). -/
  | cal
  /-- the test DAC was connected, playing pattern `val` - 1, or removed (`val` 0). -/
  | test
  /-- GAIN or LT of the stream's channel changed at an apply (R164). -/
  | tia
  /-- the slices in the interleave positions changed: `val` holds them, three bits each (R235). -/
  | pos
  deriving DecidableEq, Repr

/-- One change of a converter's stream, from which sample validity follows (R251). -/
structure SEv where
  /-- first sample affected (R251). -/
  smp : Nat := 0
  /-- kind (R251). -/
  kind : SEvKind := .enable
  /-- new value (R251). -/
  val : Nat := 0
  /-- the filter set's block, where the filter changed (R264). -/
  data : Bytes := []
  deriving DecidableEq, Repr

/-- One capture request of a converter (R254 to R260). -/
structure Capture where
  /-- channel (R254). -/
  ch : Nat := 0
  /-- profile number (R254). -/
  prof : Nat := 0
  /-- profile block it was accepted with (R266). -/
  profB : Bytes := []
  /-- 0 trigger unit, 1 CAPREQ, 2 host (R315). -/
  src : Nat := 0
  /-- trigger instant; none while a CAPREQ waits for its first fired shot (R260). -/
  tTrig : Option Nat := none
  /-- cell of the request (R258). -/
  cellNo : Nat := 0
  /-- string (R260). -/
  str : Nat := 0
  /-- cell (R315). -/
  cell : Nat := 0
  /-- Furrow (R315). -/
  furrow : Nat := 0
  /-- direction (R315). -/
  dir : Bool := false
  /-- device time of t_trig (R301). -/
  time : BitVec 64 := 0
  /-- GCS tag (R315). -/
  tag : Nat := 0
  /-- its last sample has been taken (R247). -/
  closed : Bool := false
  /-- clock phase that the fallback would measure, a free value (R262). -/
  phase : Nat := 0
  /-- instant of acceptance (R247). -/
  accAt : Nat := 0
  /-- instant at which it became the running capture (R255 R256). -/
  runAt : Nat := 0
  /-- calibration values of the converter for it, formed while no window was open (R498). -/
  use : CalUse := {}
  /-- calibration values of its channel at its trigger (R144 R498). -/
  tapUse : CalUse := {}
  deriving DecidableEq, Repr

/-- A request on its way to a converter in the present engine cycle (R254). -/
structure GwReq where
  /-- converter (R254). -/
  gw : Nat := 0
  /-- what it asks for (R254). -/
  cap : Capture := {}
  /-- a CAPREQ that names no channel in use (R258). -/
  noCh : Bool := false
  /-- engine cycle of its arrival (R254). The model's own field (log 80). -/
  cyc : Nat := 0
  /-- the GLEAN_FORCE that raised it (R254). The model's own field (log 80). -/
  sub : Option Nat := none
  deriving DecidableEq, Repr

/-- One Gleaner converter (ch. 07). -/
structure GwState where
  /-- mode (R243). -/
  mode : GwMode := .off
  /-- the stream's channel (R255). DESIGN CHOICE (log 15): value at reset. -/
  ch : Nat := 0
  /-- gain mode in force (R247). DESIGN CHOICE (log 15): value at reset. -/
  gainMode : Nat := 0
  /-- gain step 0 x1, 1 x4, 2 x16 (R246). DESIGN CHOICE (log 15): value at reset. -/
  gain : Nat := 0
  /-- filter set (R255). DESIGN CHOICE (log 15): value at reset. -/
  filt : Nat := 0
  /-- block of the filter set in force (R264 R266). DESIGN CHOICE (log 15): value at reset. -/
  filtB : Bytes := []
  /-- up-range pending (R247). -/
  pendUp : Bool := false
  /-- down-range pending (R247). -/
  pendDown : Bool := false
  /-- the running capture (R254). -/
  running : Option Capture := none
  /-- waiting requests, oldest first (R254). -/
  waiting : List Capture := []
  /-- calibration values last formed for a capture; none = none yet (R498 R512). DESIGN CHOICE (log 15): value at reset. -/
  use : Option CalUse := none
  /-- changes of the stream, newest first (R251). -/
  hist : List SEv := []
  /-- slice in each interleave position (R238). -/
  pos : List Nat := [0, 1, 2, 3]
  /-- the spare slice (R238). -/
  spare : Option Nat := some 4
  /-- slices judged failed (R241). -/
  failed : List Nat := []
  /-- position of a failed slice in service that waits for a swap point (R241). -/
  mustRepl : Option Nat := none
  /-- position relieved next (R238). -/
  nextPos : Nat := 0
  /-- since when a swap is due (R239 R240). -/
  dueSince : Option Nat := none
  /-- trigger-unit requests are refused with CALGAP (R240). -/
  calgap : Bool := false
  /-- slices that have completed a calibration since START (R242). -/
  calDone : List Nat := []
  /-- the spare's calibration against the test DAC is not complete (R238). DESIGN CHOICE (log 15): value at reset. -/
  calPend : Bool := true
  /-- slice that a converter without a spare calibrates in the present CAL cell (R242). -/
  fgSlice : Option Nat := none
  /-- last instant at which a capture window was open (R239). DESIGN CHOICE (log 15): value at reset. -/
  closedAt : Nat := 0
  /-- start of the running CALROT interval (R238). DESIGN CHOICE (log 15): value at reset. -/
  rotAt : Nat := 0
  /-- successive agreement failures as (slice, partner), newest first (R241). -/
  agreeFails : List (Nat × Nat) := []
  /-- rest settings of the active descriptor wait until the captures are read out (R255 R266). DESIGN CHOICE (log 15): value at reset. -/
  restCh : Nat := 0
  /-- they wait (R266). -/
  restPend : Bool := false
  /-- an apply has disabled the converter; its captures are read out first (R266). -/
  offPend : Bool := false
  /-- test pattern that plays or waits for the captures ahead (R244). -/
  testPat : Option Nat := none
  /-- CAPTURES (R258). -/
  captures : Nat := 0
  /-- CAP_OVERRUN (R258). -/
  overrun : Nat := 0
  /-- CAP_NOSPACE (R258). -/
  noSpace : Nat := 0
  /-- CAP_REFUSED by reason DISABLED DEAD TEST CALGAP OFFCH CHBUSY NOCH (R258). -/
  refused : List Nat := [0, 0, 0, 0, 0, 0, 0]
  /-- CAP_NOFIRE (R258). -/
  noFire : Nat := 0
  /-- captures placed by FALLBACK (R264). -/
  fallback : Nat := 0
  /-- captures placed UNMEASURED (R264). -/
  unmeasured : Nat := 0
  /-- swaps (R264). -/
  swaps : Nat := 0
  /-- swap aborts (R264). -/
  swapAborts : Nat := 0
  deriving DecidableEq, Repr

/-- State of a physical engine (R270). -/
inductive EngSt where
  /-- ACTIVE. -/
  | active
  /-- SUSPECT. -/
  | suspect
  /-- IDLE. -/
  | idle
  /-- TESTING. -/
  | testing
  /-- SHADOW. -/
  | shadow
  /-- AUDIT. -/
  | audit
  /-- RETIRED. -/
  | retired
  deriving DecidableEq, Repr

/-- One physical engine (R268 to R281, R295). -/
structure Engine where
  /-- state (spares E1024 to E1087 start IDLE) (R270). -/
  st : EngSt := .active
  /-- cause code 1 to 8, 0 none (R274). -/
  cause : Nat := 0
  /-- LS_CE LS_UE TRAPS SHADOW_RUNS AUDITS_PASSED MISMATCHES GATE_TIMEOUTS (R295). -/
  cnt : List Nat := [0, 0, 0, 0, 0, 0, 0]
  /-- it became SUSPECT once before in this boot (R281). -/
  suspectedBefore : Bool := false
  /-- IDLE, but not among the spares (partner of a dead channel) (R282). -/
  unspared : Bool := false
  /-- instant at which it became SUSPECT (R276). DESIGN CHOICE (log 15): value at reset. -/
  suspAt : Nat := 0
  /-- corrected local-store errors of the last second, newest first (R274). -/
  ceAt : List Nat := []
  /-- end of the running offline test (R281). DESIGN CHOICE (log 15): value at reset. -/
  testEnd : Nat := 0
  deriving DecidableEq, Repr

/-- A shadow run or an audit of one position (R275 to R280). -/
structure EngRun where
  /-- position (R276). -/
  pos : Nat := 0
  /-- spare beside it (R276). -/
  spare : Nat := 0
  /-- it is an audit (R275). -/
  audit : Bool := false
  /-- end of the passed self-test; none while it runs (R276 R277). -/
  testOk : Option Nat := none
  /-- the gate found a difference (R277). -/
  mismatch : Bool := false
  /-- shadowed sheaves released (R278). -/
  released : Nat := 0
  deriving DecidableEq, Repr

/-- One repair log entry (R293). -/
structure RepairEnt where
  /-- KIND (R293). -/
  kind : Nat := 0
  /-- CAUSE (R293). -/
  cause : Nat := 0
  /-- OBJECT (R293). -/
  object : Nat := 0
  /-- SUBST (R293). -/
  subst : Nat := 0xFFFF
  /-- RESTORED (R293). -/
  restored : Bool := false
  /-- TIME (R293). -/
  time : BitVec 64 := 0
  deriving DecidableEq, Repr

/-- Engines, spares and the repair log (ch. 08). -/
structure Repair where
  /-- engines (R268). -/
  engines : Tab Engine := ⟨{}, (List.range 64).map fun i => (1024 + i, { st := .idle })⟩
  /-- engine map: none at a position p means E(p) (R269). -/
  map : Tab (Option Nat) := ⟨none, []⟩
  /-- runs in progress (R277). -/
  runs : List EngRun := []
  /-- SUSPECT positions without a spare, in the order they became SUSPECT (R276). -/
  suspects : List Nat := []
  /-- next position each group audits (R275). -/
  nextAudit : List Nat := [0, 256, 512, 768]
  /-- instant of each group's last audit start (R275). DESIGN CHOICE (log 15): value at reset. -/
  lastAudit : List Nat := [0, 0, 0, 0]
  /-- banks retired in favour of a spare (R287). -/
  banks : List Nat := []
  /-- bank being copied and the start of the copy (R287). -/
  bankCopy : Option (Nat × Nat) := none
  /-- spare banks left (R287 R289). -/
  spareBanks : Nat := 4
  /-- condition that brought the spare bank in: 1 an uncorrectable error, 2 or 3 corrected errors (R287 R293). DESIGN CHOICE (log 15): value at reset. -/
  bankCause : Nat := 1
  /-- banks that wait for the copier, oldest first, each with its condition (R287). -/
  bankQ : List (Nat × Nat) := []
  /-- spare rows and columns left to each macro by its soft repair registers (R286 R289). -/
  rowcol : Tab (Nat × Nat) := ⟨(4, 2), []⟩
  /-- repair log in the flash (R292). -/
  log : List RepairEnt := []
  /-- log entries that fail their complement check at the next boot (R293). -/
  logBad : List Nat := []
  /-- repairs that wait to be written (R292). -/
  logQ : List RepairEnt := []
  /-- LOG_FULL (R292). -/
  logFull : Bool := false
  /-- microcode version running (R272). DESIGN CHOICE (log 15): value at reset. -/
  mcRun : Nat := 0
  /-- microcode version of the next boot (R272). DESIGN CHOICE (log 15): value at reset. -/
  mcNew : Nat := 0
  deriving DecidableEq, Repr

/-- The stream and its status records (R322 to R324, R350). -/
structure Stream where
  /-- the stream is open (R322). -/
  opened : Bool := false
  /-- a close of PATH 0 or 1 waits for sheaves and captures in processing (R323 R324). -/
  closing : Option Nat := none
  /-- instant of the last status record (R322). DESIGN CHOICE (log 15): value at reset. -/
  lastStatus : Nat := 0
  /-- sheaves abandoned (R323 R234). -/
  sheavesLost : Nat := 0
  /-- captures abandoned (R323 R267). -/
  capsLost : Nat := 0
  /-- the DEAD, FAULTED, UNVERIFIED, BLOCKED, THERM, VARIANT values of the last status record (R322). -/
  lastMasks : List Nat := []
  deriving DecidableEq, Repr

/-- What a command in flight waits for after it has started. -/
inductive WaitK where
  /-- nothing: it is not waiting. -/
  | none
  /-- APPLY armed for the next Furrow boundary (R382). -/
  | applyFurrow
  /-- APPLY armed for the next cell declaration (R382). -/
  | applyCell
  /-- STATE_SET to ARMED or HOLD waits for the boundary (R375). -/
  | toState
  /-- STATE_SET to RANGING waits for lock, bias and arming (R375). -/
  | ranging
  /-- STATE_SET to HOLD has left its state and waits for the final record (R375). -/
  | closing
  /-- TIME_SET waits for the next PPS_IN edge (R399). -/
  | pps
  /-- REC_STOP waits for its commit (R459). -/
  | recStop
  /-- REBOOT waits for the stream and the recording to stop (R399). -/
  | reboot
  /-- FW_HANDOVER waits for a CONFIG_STORE or FW_COMMIT in flight (R392). -/
  | flash
  /-- FW_HANDOVER runs its drain (R392). -/
  | drain
  /-- FW_HANDOVER waits for the boundary (R392). -/
  | swap
  /-- a Baler job waits on its destination (R446). -/
  | baler
  /-- GLEAN_FORCE waits for the end of the engine cycle in which its request arrives (R254). -/
  | force
  deriving DecidableEq, Repr

/-- A completion before it is written (R365). -/
structure Completion where
  /-- STATUS (R365). -/
  status : Nat := 0
  /-- RESP_BYTES (R365). -/
  respBytes : Nat := 0
  /-- RESULT (R365). -/
  result : Bytes := []
  /-- the response bytes that are written at RESP_ADDR (R363). -/
  resp : Bytes := []
  deriving DecidableEq, Repr

/-- A submitted command (R361, R367 to R372). -/
structure InFlight where
  /-- submission number (the order of R367) (R367). The model's own field (log 4). -/
  sub : Nat := 0
  /-- it came from a mailbox slot (R367). -/
  mbx : Bool := false
  /-- its ring 0 to 3, or its slot 0 to 7 (R367). -/
  src : Nat := 0
  /-- its 64 bytes (R361). -/
  desc : Bytes := []
  /-- engine cycle, plus 1, of its submission (R367 R400). DESIGN CHOICE (log 15): value at reset. -/
  cyc : Nat := 0
  /-- it has started (R369). -/
  started : Bool := false
  /-- it has committed (R393). -/
  committed : Bool := false
  /-- what it waits for (R375 R382 R392). -/
  wait : WaitK := .none
  /-- since when it waits (R375 R399). DESIGN CHOICE (log 15): value at reset. -/
  since : Nat := 0
  /-- the waiting command's own parameter (target state, drain end, time) (R375 R392 R399). DESIGN CHOICE (log 15): value at reset. -/
  arg : Nat := 0
  /-- it has finished; its completion waits for its group order (R369). -/
  done : Option Completion := none
  /-- abandoned at a handover drain (R392 R393). -/
  abandoned : Bool := false
  /-- its completion is discarded (host reset) (R357). -/
  discard : Bool := false
  deriving DecidableEq, Repr

/-- One command ring and its completion ring (R340 to R344, R366). -/
structure CmdRing where
  /-- CQ_BASE (R342). -/
  cqBase : BitVec 64 := 0
  /-- CPL_BASE (R342). -/
  cplBase : BitVec 64 := 0
  /-- SIZE_LOG2 (R342). -/
  sizeLog2 : Nat := 4
  /-- EN (R342). -/
  en : Bool := false
  /-- VEC_EN (R342). -/
  vecEn : Bool := false
  /-- CQ_HEAD (R342). -/
  cqHead : Nat := 0
  /-- CQ_TAIL (R342). -/
  cqTail : Nat := 0
  /-- CPL_TAIL (R342). -/
  cplTail : Nat := 0
  /-- CPL_HEAD_M (R342). -/
  cplHead : Nat := 0
  /-- PHASE of the present pass (R366). -/
  phase : Bool := true
  /-- DB_ERR (R341). -/
  dbErr : Bool := false
  /-- FETCH_ERR (R344). -/
  fetchErr : Bool := false
  /-- engine cycle, plus 1, in which EN was last cleared (R360). The model's own field (log 72). -/
  offAt : Nat := 0
  deriving DecidableEq, Repr

/-- Command intake: rings, mailbox, commands in flight (ch. 10, 11). -/
structure Cmds where
  /-- command rings (R342). -/
  rings : List CmdRing := [{}, {}, {}, {}]
  /-- mailbox slots, missing = zeros (R338). DESIGN CHOICE (log 15): value at reset. -/
  slots : List Bytes := []
  /-- MBX_BUSY (R337). -/
  busy : BitVec 8 := 0
  /-- MBX_DONE (R337). -/
  done : BitVec 8 := 0
  /-- slots handed over that wait for room or for intake to resume (R368). -/
  queuedSlots : List Nat := []
  /-- commands in flight in submission order (R368). -/
  inflight : List InFlight := []
  /-- next submission number (R367). The model's own field (log 4). -/
  nextSub : Nat := 0
  /-- fetching and mailbox acceptance are paused by a handover (R392). -/
  paused : Bool := false
  /-- the ring from which the next ring to serve is looked for (R367). DESIGN CHOICE (log 15): value at reset. -/
  turn : Nat := 0
  /-- only the commands of R378 are accepted (R378 R542). -/
  romOnly : Bool := false
  deriving DecidableEq, Repr

/-- One stream ring (R345 to R351). -/
structure StreamRing where
  /-- BASE (R346). -/
  base : BitVec 64 := 0
  /-- SIZE_LOG2 (R346). -/
  sizeLog2 : Nat := 16
  /-- EN (R346). -/
  en : Bool := false
  /-- VEC_EN (R346). -/
  vecEn : Bool := false
  /-- DISCARD_HELD (R346). -/
  discardHeld : Bool := false
  /-- TYPE_MASK (R346). -/
  typeMask : BitVec 8 := 0
  /-- COALESCE (R346). -/
  coalesce : Nat := 0
  /-- BATCH_LOG2 (R346). -/
  batchLog2 : Nat := 12
  /-- BLOCK_MASK (R346). -/
  blockMask : BitVec 32 := 0
  /-- write-back address (R346). -/
  wb : BitVec 64 := 0
  /-- committed consumer count (R346). -/
  cons : BitVec 64 := 0
  /-- CONS_LO as last written (R346). -/
  consLo : BitVec 32 := 0
  /-- CONS_HI staged (R346). -/
  consHi : BitVec 32 := 0
  /-- producer count (R345). -/
  prod : BitVec 64 := 0
  /-- PROD_HI latch (R346). -/
  prodHi : BitVec 32 := 0
  /-- FULL (R351). -/
  full : Bool := false
  /-- CONS_ERR (R346). -/
  consErr : Bool := false
  /-- HELD_DROP (R441 R346). -/
  heldDrop : Bool := false
  /-- the ring takes part in the open stream (R350). -/
  opened : Bool := false
  /-- the ring has received its opening status record (OPEN) (R346 R350). -/
  gotOpen : Bool := false
  /-- records gathered, oldest first (R348). -/
  batch : List Bytes := []
  /-- arrival of the batch's oldest record (R348). DESIGN CHOICE (log 15): value at reset. -/
  batchSince : Nat := 0
  /-- records that wait in the Silo for this ring, oldest first (R351). -/
  held : List Bytes := []
  /-- alert and retraction records that wait for this ring while it is disabled (R349 R359). -/
  heldAlerts : List Bytes := []
  /-- records written since the stream opened (R323). -/
  records : Nat := 0
  deriving DecidableEq, Repr

/-- MSI-X table and PBA of one function (R329, R352). -/
structure Msix where
  /-- message addresses (R352). PRESUMED (log 13): value at reset. -/
  addr : Tab (BitVec 64) := ⟨0, []⟩
  /-- message data (R352). PRESUMED (log 13): value at reset. -/
  data : Tab (BitVec 32) := ⟨0, []⟩
  /-- vector mask bits (R352). PRESUMED (log 13): value at reset. -/
  masked : Tab Bool := ⟨true, []⟩
  /-- pending bits (R352). PRESUMED (log 13): value at reset. -/
  pba : BitVec 64 := 0
  deriving DecidableEq, Repr

/-- One physical function (R332, R333, R357, R360). -/
structure Fn where
  /-- its MSI-X table (R333). -/
  msix : Msix := {}
  /-- in D3hot (R332). -/
  d3 : Bool := false
  /-- Bus Master Enable (R360). PRESUMED (log 13): value at reset. -/
  bme : Bool := false
  /-- Max Payload Size in bytes (R329 R331). PRESUMED (log 13): value at reset. -/
  mps : Nat := 128
  /-- Max Read Request Size in bytes (R329 R343). PRESUMED (log 13): value at reset. -/
  mrrs : Nat := 512
  /-- the Command register but for Bus Master Enable (R333). PRESUMED (log 13): value at reset. -/
  cmd : BitVec 16 := 0
  /-- BAR0 with BAR1, and BAR2 with BAR3 (R333). PRESUMED (log 13): value at reset. -/
  bars : List (BitVec 64) := [0, 0]
  /-- Interrupt Line, which the host keeps beside Interrupt Pin (R330). PRESUMED (log 13): value at reset. -/
  intLine : BitVec 8 := 0
  /-- Extended Tag Field Enable (R329). PRESUMED (log 13): value at reset. -/
  extTag : Bool := false
  /-- error reporting enables of Device Control (R329). PRESUMED (log 13): value at reset. -/
  errEn : BitVec 4 := 0
  /-- Link Control (R329). PRESUMED (log 13): value at reset. -/
  linkCtl : BitVec 16 := 0
  /-- MSI-X Enable (R329). PRESUMED (log 13): value at reset. -/
  msixEn : Bool := false
  /-- MSI-X Function Mask (R329). PRESUMED (log 13): value at reset. -/
  msixMask : Bool := false
  /-- Uncorrectable Error Mask (R329). PRESUMED (log 13): value at reset. -/
  aerUMask : BitVec 32 := 0
  /-- Uncorrectable Error Severity (R329). PRESUMED (log 13): value at reset. -/
  aerUSev : BitVec 32 := 0x00462030
  /-- Correctable Error Mask (R329). PRESUMED (log 13): value at reset. -/
  aerCMask : BitVec 32 := 0x00002000
  /-- ECRC Generation Enable (R329). PRESUMED (log 13): value at reset. -/
  ecrcGen : Bool := false
  /-- ECRC Check Enable (R329). PRESUMED (log 13): value at reset. -/
  ecrcChk : Bool := false
  deriving DecidableEq, Repr

/-- PF0 BAR0 registers that are not elsewhere (R335, R337, R354). -/
structure Pf0 where
  /-- HOLD_ON_RESET (R335). -/
  holdOnReset : Bool := false
  /-- WWA (R335). -/
  wwa : Bool := false
  /-- WWA_CNT (R335). -/
  wwaCnt : BitVec 16 := 0
  /-- WWA_OFS (R335). -/
  wwaOfs : BitVec 26 := 0
  /-- WWA_BAR (R335). -/
  wwaBar : BitVec 2 := 0
  /-- TIME_HI latch (R335). -/
  timeHi : BitVec 32 := 0
  /-- INT_PEND (R335). -/
  intPend : BitVec 11 := 0
  /-- engine cycle, plus 1, of the last increments of WWA_CNT (R13). The model's own field (log 72). -/
  wwaCyc : Nat := 0
  /-- increments of WWA_CNT in that cycle (R13). The model's own field (log 72). -/
  wwaInc : Nat := 0
  deriving DecidableEq, Repr

/-- The privileged page (R354, R355). -/
structure Priv where
  /-- a privileged session is open (R354 R387). -/
  opened : Bool := false
  /-- last privileged command or page access (R387). DESIGN CHOICE (log 15): value at reset. -/
  lastUse : Nat := 0
  /-- DENY_CNT (R354). -/
  denyCnt : BitVec 16 := 0
  /-- engine cycle, plus 1, of the last increments of DENY_CNT (R13). The model's own field (log 72). -/
  denyCyc : Nat := 0
  /-- increments of DENY_CNT in that cycle (R13). The model's own field (log 72). -/
  denyInc : Nat := 0
  /-- FREEZE (R354). -/
  freeze : Bool := false
  /-- SAMPLE_EN (R354). -/
  sampleEn : Bool := false
  /-- SAMPLE_SEL (R354). -/
  sampleSel : Nat := 0
  /-- PRESET (R354). -/
  preset : BitVec 64 := 0
  /-- SAMPLE_WR (R354). -/
  sampleWr : BitVec 8 := 0
  /-- SAMPLE_OVF (R354). -/
  sampleOvf : Bool := false
  /-- SAMPLE_RD (R354). -/
  sampleRd : BitVec 8 := 0
  /-- samples written since the slots up to SAMPLE_RD were read, at most 256: it tells a full ring from an empty one (R354 R355). The model's own field (log 73). -/
  sampleUnread : Nat := 0
  /-- counters whose overflow has reloaded them and whose sample record is still to be written, oldest first (R355). -/
  samplePend : List Nat := []
  /-- performance counters (R354 R356). -/
  cnt : Tab (BitVec 64) := ⟨0, []⟩
  /-- high words latched by low-word reads (R354). DESIGN CHOICE (log 15): value at reset. -/
  cntHi : Tab (BitVec 32) := ⟨0, []⟩
  /-- shadows (R354). -/
  shd : Tab (BitVec 64) := ⟨0, []⟩
  /-- sample records, [] = zeros (R354 R355). -/
  samples : Tab Bytes := ⟨[], []⟩
  deriving DecidableEq, Repr

/-- Session authentication (R385 to R387). -/
structure Sess where
  /-- the valid nonce (R385). -/
  nonce : Option Bytes := none
  /-- instant of its challenge (R385). DESIGN CHOICE (log 15): value at reset. -/
  nonceAt : Nat := 0
  /-- instants of the failed opens, newest first (R386). -/
  fails : List Nat := []
  /-- start of the 60 s lockout (R386). -/
  lockout : Option Nat := none
  deriving DecidableEq, Repr

/-- Device state word and what surrounds it (R319, R374 to R377). -/
structure Dev where
  /-- STATE_W (R319 R335). -/
  word : BitVec 32 := 0x00000001
  /-- STATE_WC (R319 R335). -/
  wordC : BitVec 32 := 0xFFFFFFFE
  /-- REASONS (R321 R335). -/
  reasons : BitVec 32 := 0
  /-- AUTO_RESUME policy as loaded or set (R376). DESIGN CHOICE (log 15): value at reset. -/
  autoResume : Bool := false
  /-- TIME_SOURCE (R417). -/
  timeSource : Nat := 0
  /-- the SAFE latch (R377). -/
  safeLatch : Bool := false
  /-- entry to SAFE (R377). DESIGN CHOICE (log 15): value at reset. -/
  safeAt : Nat := 0
  /-- this SAFE excludes automatic recovery (R377). -/
  safeNoAuto : Bool := false
  /-- an automatic recovery is pending (R377). -/
  autoPend : Bool := false
  /-- instant of the reset of a completed REBOOT (R399). -/
  rebootAt : Option Nat := none
  /-- an automatic request to enter RANGING waits since this instant (R376). -/
  autoRanging : Option Nat := none
  /-- STAGE (R335 R540). -/
  stage : BitVec 8 := 0
  /-- CODE (R335 R542). -/
  code : BitVec 16 := 0
  /-- MBX_READY (R335 R540). -/
  mbxReady : Bool := false
  /-- a set has been applied since boot (R384 R547). -/
  applied : Bool := false
  /-- no SYS PLL lock since power-on from OFF (R526). -/
  coldStart : Bool := true
  deriving DecidableEq, Repr

/-- Levels of pins and lines that hold a level between steps (R558 and the owning rules). -/
structure Pins where
  /-- ARM_EN level (R558). -/
  armEn : Bool := false
  /-- ARM_EN has been high for 1 ms and a Furrow boundary has come since (R89). -/
  armOk : Bool := false
  /-- instant at which ARM_EN last rose; none while low (R89). -/
  armHighAt : Option Nat := none
  /-- instant at which ARM_EN last fell (R559). DESIGN CHOICE (log 15): value at reset. -/
  armFell : Nat := 0
  /-- arming as it stood when ARM_EN last fell, which a low too short to gate leaves (R559). -/
  armKept : Option (Bool × Option Nat × Bool) := none
  /-- SHOT_SYNC_OUT is high until then (R559 R571). -/
  syncOutTill : Nat := 0
  /-- ARM_EN has been high for 1 ms; firing resumes at the next Furrow boundary (R89). -/
  armStable : Bool := false
  /-- FAULT_N level (R517). -/
  faultN : Bool := true
  /-- ALERT_N level (R188). -/
  alertN : Bool := true
  /-- THERM_N level (R486). -/
  thermN : Bool := true
  /-- DET_HV_EN level (R152). -/
  detHvEn : Bool := false
  /-- a pad gate holds every RES_GATE_Snn low (reset, trip) (R27). -/
  resGate : Bool := true
  /-- a pad gate holds SATBUS low (reset, trip) (R27). -/
  satGate : Bool := true
  /-- a pad gate holds every FIRE_Snn low (reset, trip, clock loss, hardware safe state) (R27). -/
  fireGate : Bool := true
  /-- POR_N level (R527). -/
  porN : Bool := true
  /-- PERST_N level (R357). DESIGN CHOICE (log 15): value at reset. -/
  perstN : Bool := false
  /-- REFCLK_PCIE is present (R31). DESIGN CHOICE (log 15): value at reset. -/
  refPcie : Bool := true
  /-- REFCLK_SDS0 and REFCLK_SDS1 are present (R32). DESIGN CHOICE (log 15): value at reset. -/
  refSds : List Bool := [true, true]
  /-- REFCLK_PCIE2 is present (R33). DESIGN CHOICE (log 15): value at reset. -/
  refPcie2 : Bool := true
  /-- REC_PERST_N level, low from reset until REC_START and again from REC_STOP (R562). -/
  recPerstN : Bool := false
  deriving DecidableEq, Repr

/-- Instructions of the JTAG port (R567). -/
inductive JtagIr where
  /-- BYPASS -/
  | bypass
  /-- IDCODE -/
  | idcode
  /-- SAMPLE/PRELOAD -/
  | sample
  /-- EXTEST -/
  | extest
  /-- HIGHZ -/
  | highz
  /-- CLAMP -/
  | clamp
  deriving DecidableEq, Repr

/-- The JTAG port (R566 to R568). -/
structure Jtag where
  /-- TRST_N level; its pull-down holds the boundary-scan logic in reset (R566). -/
  trstN : Bool := false
  /-- instruction register (R567). PRESUMED (log 68): value at reset. -/
  ir : JtagIr := .idcode
  /-- data register that shifts, the bit nearest TDO first (R567). DESIGN CHOICE (log 15): value at reset. -/
  dr : List Bool := []
  /-- update latches of the boundary cells, by cell number; a missing one is 0 (R567 R568). DESIGN CHOICE (log 15): value at reset. -/
  latch : List Bool := []
  deriving DecidableEq, Repr

/-- One error record with its handling state (R514, R518). -/
structure ErrRec where
  /-- its slot (R389). -/
  slot : Nat := 0
  /-- SEQ (R518). -/
  seqNo : Nat := 0
  /-- CODE (R518). -/
  code : Nat := 0
  /-- severity (R513). -/
  sev : Nat := 0
  deriving DecidableEq, Repr

/-- Error ring and error handling (R389, R513 to R517). -/
structure Err where
  /-- ring slots, [] = zeros (R354 R389). -/
  slots : Tab Bytes := ⟨[], []⟩
  /-- ERR_WR (R335 R389). -/
  wr : BitVec 8 := 0
  /-- ERR_RD (R335 R389). -/
  rd : BitVec 8 := 0
  /-- LAST_SEV (R335 R389). -/
  lastSev : Nat := 0
  /-- ERR_OVF (R335 R389). -/
  ovf : Bool := false
  /-- errors posted since boot (R518). -/
  nextSeq : Nat := 0
  /-- records that wait unhandled, by slot, oldest first (R514). -/
  unhandled : List ErrRec := []
  /-- records in handling, the one being handled first, suspended ones behind it (R514). -/
  handling : List ErrRec := []
  /-- instants of the last FATALs, newest first (R377 R515). -/
  fatals : List Nat := []
  /-- codes of FATALs posted in the running step whose entry to SAFE its end performs; empty between steps (R513). The model's own field (log 21). -/
  fatalDue : List Nat := []
  /-- INFO records discarded and codes lost (R516). -/
  discarded : Nat := 0
  /-- integrity faults per kind (row of R512) (R511). -/
  integrity : Tab Nat := ⟨0, []⟩
  deriving DecidableEq, Repr

/-- The ten configuration parts of a set, as stage payloads, value and complement; [] = never staged (R379). -/
structure Parts where
  /-- parts 1 to 10 (R379). -/
  p : List Bytes := [[], [], [], [], [], [], [], [], [], []]
  deriving DecidableEq, Repr

/-- Active and staged sets (R379 to R384). -/
structure Cfg where
  /-- the active set, as hardware holds it (R379). -/
  active : Parts := {}
  /-- the active set in the Silo, from which a field is reloaded (R379 R512). -/
  silo : Parts := {}
  /-- the staged set (R379). -/
  staged : Parts := {}
  /-- the staged set's validated mark (R381). -/
  validated : Bool := false
  /-- status of the last VALIDATE (R399). DESIGN CHOICE (log 15): value at reset. -/
  lastStatus : Nat := 0
  deriving DecidableEq, Repr

/-- One serial lane (R401 to R408, R423). -/
structure LaneSt where
  /-- 0 in service, 1 out of service, 2 training, 3 loopback (R411). -/
  state : Nat := 1
  /-- loopback mode (R408). -/
  loop : Nat := 0
  /-- loopback bits checked (R408). -/
  bits : Nat := 0
  /-- loopback errors found (R408). -/
  errs : Nat := 0
  /-- taken out by LANE_SERVICE (R407). -/
  outBy : Bool := false
  /-- TX_PRESET in use (R404). DESIGN CHOICE (log 15): value at reset. -/
  preset : Nat := 0
  /-- last relock attempt (R423). DESIGN CHOICE (log 15): value at reset. -/
  relockAt : Nat := 0
  /-- relocked; carries IDLE codewords until the rejoin (R423). -/
  relocked : Bool := false
  /-- the transmit precoder's last value (R402). DESIGN CHOICE (log 15): value at reset. -/
  txP : Nat := 0
  /-- the last value received (R402). DESIGN CHOICE (log 15): value at reset. -/
  rxP : Nat := 0
  /-- the received pair is inverted, as training detected (R401). DESIGN CHOICE (log 15): value at reset. -/
  inv : Bool := false
  /-- consecutive codewords without error since it relocked (R423). -/
  clean : Nat := 0
  /-- symbol errors attributed to it and corrected in the last 1 ms: instant and number, newest first (R423). -/
  symErr : List (Nat × Nat) := []
  /-- what the partner's updates have added to the preset's pre-cursor, main and post-cursor; missing = 0 (R404). -/
  txEq : List Int := []
  /-- CTLE setting (R404). DESIGN CHOICE (log 15): value at reset. -/
  ctle : Nat := 0
  /-- FFE taps, missing = 0 (R404). DESIGN CHOICE (log 15): value at reset. -/
  ffe : List Int := []
  /-- DFE tap (R404). DESIGN CHOICE (log 15): value at reset. -/
  dfe : Int := 0
  /-- receive adaptation target in use; the spec gives no scale (R405 R506). DESIGN CHOICE (log 15): value at reset. -/
  adapt : Nat := 0
  deriving DecidableEq, Repr

/-- State of a Drover port. -/
inductive PortSt where
  /-- DOWN. -/
  | down
  /-- TRAINING. -/
  | training
  /-- TWO_LANE. -/
  | two
  /-- ONE_LANE. -/
  | one
  deriving DecidableEq, Repr

/-- A Drover frame kept for retransmission (R409, R412). -/
structure Frame where
  /-- CLASS (R409). -/
  cls : Nat := 0
  /-- SEQ (R409). -/
  seqNo : Nat := 0
  /-- FIRST (R409). -/
  first : Nat := 63
  /-- USED (R409). -/
  used : Nat := 0
  /-- body, missing = zeros (R409). -/
  body : Bytes := []
  deriving DecidableEq, Repr

/-- One Drover port (ch. 12). -/
structure Port where
  /-- state (R404 R423). -/
  st : PortSt := .down
  /-- start of the training attempt (R404). DESIGN CHOICE (log 15): value at reset. -/
  stepAt : Nat := 0
  /-- consecutive uncorrectable codewords (R423). -/
  ueRun : Nat := 0
  /-- LINK_TOO_LONG holds it down until the next APPLY of the Drover descriptor (R405). -/
  tooLong : Bool := false
  /-- measured one-way link delay d (R417 R418). DESIGN CHOICE (log 15): value at reset. -/
  delay : Rat := 0
  /-- lanes swapped, as training detected (R401). DESIGN CHOICE (log 15): value at reset. -/
  swapped : Bool := false
  /-- last SEQ sent (R409). DESIGN CHOICE (log 15): value at reset. -/
  txSeq : Nat := 0
  /-- last SEQ received in order (R409). DESIGN CHOICE (log 15): value at reset. -/
  rxSeq : Nat := 0
  /-- NAK is set in the next outgoing frame (R412). -/
  nak : Bool := false
  /-- unacknowledged frames, oldest first (R412). -/
  kept : List Frame := []
  /-- frames at the end of `kept` still to be resent (R412). -/
  resend : Nat := 0
  /-- last advance of ACK (R412). DESIGN CHOICE (log 15): value at reset. -/
  ackAt : Nat := 0
  /-- records queued per class, oldest first (R410 R424). -/
  txq : Tab (List Bytes) := ⟨[], []⟩
  /-- rest of the record that is being sent per class (R410). -/
  part : Tab Bytes := ⟨[], []⟩
  /-- record being received per class (R410). -/
  rxPart : Tab Bytes := ⟨[], []⟩
  /-- CONTROL messages received and not yet acted on, oldest first: 32 bytes and the 8-byte time of arrival (R411 R418). -/
  ctlIn : List Bytes := []
  /-- CONTROL messages waiting to be sent, oldest first (R411). -/
  ctlOut : List Bytes := []
  /-- records that wait in the Silo's Drover region, oldest first (R424 R440). -/
  spill : List Bytes := []
  /-- shed level (R424). -/
  shed : Nat := 0
  /-- since when the queue is above 75 % (R424). -/
  hiSince : Option Nat := none
  /-- since when the queue is below 25 % (R424). -/
  loSince : Option Nat := none
  /-- since when both lanes are in service (R426). -/
  bothSince : Option Nat := none
  /-- rejoin agreed (R423). -/
  rejoin : Option (Nat × Nat) := none
  /-- sequence of the last SYNC (R411). DESIGN CHOICE (log 15): value at reset. -/
  syncSeq : Nat := 0
  /-- T1 of the exchange in progress (R418). -/
  t1 : Nat := 0
  /-- T2 (R418). -/
  t2 : Nat := 0
  /-- T3 (R418). -/
  t3 : Nat := 0
  /-- device ID of the partner (R411). DESIGN CHOICE (log 15): value at reset. -/
  peerDev : Nat := 0xFFFF
  /-- DOMAIN of the partner's HELLO (R411). DESIGN CHOICE (log 15): value at reset. -/
  peerDomain : Nat := 0
  /-- last HELLO sent (R411). DESIGN CHOICE (log 15): value at reset. -/
  helloAt : Nat := 0
  /-- last SYNC sent (R418). DESIGN CHOICE (log 15): value at reset. -/
  syncAt : Nat := 0
  /-- HELLO has been exchanged (R404). -/
  helloRx : Bool := false
  /-- CONTROL messages whose complement failed (R411). -/
  msgBad : Nat := 0
  deriving DecidableEq, Repr

/-- A domain member known at the root (R415, R416, R421). -/
structure Member where
  /-- device ID (R415). -/
  id : Nat := 0
  /-- hops (R411). -/
  hops : Nat := 0
  /-- PATH_NS (R415). -/
  pathNs : Nat := 0
  /-- acknowledged epoch (R421). -/
  ackEpoch : Nat := 0
  /-- last JOIN report (R416). -/
  lastReport : Nat := 0
  /-- port it was heard on (R414). -/
  port : Nat := 0
  deriving DecidableEq, Repr

/-- Join state of a member (DROVER_STATUS). -/
inductive JoinSt where
  /-- SEARCH. -/
  | search
  /-- JOINING. -/
  | joining
  /-- JOINED. -/
  | joined
  /-- REFUSED. -/
  | refused
  /-- HOLDOVER. -/
  | holdover
  deriving DecidableEq, Repr

/-- A code plan with its activation (R421). -/
structure PlanSt where
  /-- PLAN_BASE (R421). -/
  base : BitVec 31 := 0
  /-- PLAN_STRIDE (R421). -/
  stride : Nat := 0
  /-- PLAN_EPOCH (R421). -/
  epoch : Nat := 0
  /-- activation time (R421). -/
  act : BitVec 64 := 0
  deriving DecidableEq, Repr

/-- The Drover link (ch. 12). -/
structure Drover where
  /-- lanes (R401). -/
  lanes : List LaneSt := [{}, {}, {}, {}, {}, {}, {}, {}]
  /-- ports (R401). -/
  ports : List Port := [{}, {}, {}, {}]
  /-- join state (R415). -/
  join : JoinSt := .search
  /-- RESULT of the last refusal (R415). -/
  refusedBy : Nat := 0
  /-- ROOT of the last TOPO (R411). DESIGN CHOICE (log 15): value at reset. -/
  root : Nat := 0xFFFF
  /-- hops to the root (R411). DESIGN CHOICE (log 15): value at reset. -/
  hops : Nat := 0
  /-- PATH_NS (R415). DESIGN CHOICE (log 15): value at reset. -/
  pathNs : Nat := 0
  /-- last TOPO heard or sent (R415). DESIGN CHOICE (log 15): value at reset. -/
  topoAt : Nat := 0
  /-- epoch in force of the last TOPO (R411). DESIGN CHOICE (log 15): value at reset. -/
  topoEpoch : Nat := 0
  /-- device time of the previous TOPO (R411). DESIGN CHOICE (log 15): value at reset. -/
  prevTopo : BitVec 64 := 0
  /-- last JOIN sent (R411 R415). DESIGN CHOICE (log 15): value at reset. -/
  joinAt : Nat := 0
  /-- the ring member's upward port is RING_SEC (R426). -/
  upSec : Bool := false
  /-- start of the 200 us wait (R426). -/
  reroute : Option Nat := none
  /-- domain plan in force or received (R421 R422). -/
  domPlan : Option PlanSt := none
  /-- the bitwise complement held beside it (R421). -/
  domPlanC : Option PlanSt := none
  /-- plan whose activation has not passed, or that waits for its Furrow boundary (R421). -/
  pendPlan : Option PlanSt := none
  /-- the bitwise complement held beside it (R421). -/
  pendPlanC : Option PlanSt := none
  /-- last periodic PLAN (R421). DESIGN CHOICE (log 15): value at reset. -/
  planAt : Nat := 0
  /-- late adoptions (R422). -/
  late : Nat := 0
  /-- the member reseeds at its next Furrow boundary after admission (R422). -/
  reseedDue : Bool := false
  /-- members known at the root (R416). -/
  members : List Member := []
  /-- last offset o (R418). -/
  lastOfs : Rat := 0
  /-- the next exchange is the first after joining (R418). -/
  firstSync : Bool := true
  deriving DecidableEq, Repr

/-- Device time and its discipline (R417, R526). -/
structure Time where
  /-- device time in units of 1/5,120,000,000,000 ns (exact under ppb rates) (R417). DESIGN CHOICE (log 15): value at reset. -/
  units : Nat := 0
  /-- present rate offset, whatever disciplines it (R417). DESIGN CHOICE (log 15): value at reset. -/
  ppb : Int := 0
  /-- end of a TIME_SLEW (R417). -/
  slewEnd : Option Nat := none
  /-- last accepted PPS_IN edge (R417). -/
  lastPps : Option Nat := none
  /-- PPS lost has been posted (R417). -/
  ppsLost : Bool := false
  /-- instant at which the present time source took effect (R417). DESIGN CHOICE (log 15): value at reset. -/
  srcAt : Nat := 0
  /-- last TIME_SET, TIME_SLEW or TIME_STALE (R417). DESIGN CHOICE (log 15): value at reset. -/
  lastHostSet : Nat := 0
  /-- the SYS PLLs are locked (R526). -/
  running : Bool := false
  deriving DecidableEq, Repr

/-- Burst queues and DDR5 regions (R435 to R441). -/
structure Silo where
  /-- DDR5 capacity of each channel found at training; both channels are equal (R437). DESIGN CHOICE (log 15): value at reset. -/
  perCh : Nat := 0
  /-- regions are placed (R438). -/
  ready : Bool := false
  /-- region sizes in bytes, 0 STEWARD to 5 SCRATCH (R438). DESIGN CHOICE (log 15): value at reset. -/
  regions : List Nat := [0, 0, 0, 0, 0, 0]
  /-- reserved part of the waveform share (R435). -/
  waveQ : Nat := 0
  /-- DUMP_DROP (R435). -/
  dumpDrop : Nat := 0
  /-- the WM_WAVE level holds: STREAM, DROVER share of ports 0 to 3, RECORD (R440). -/
  wmWave : List Bool := [false, false, false, false, false, false]
  /-- the WM_DUMP level holds (R440). -/
  wmDump : List Bool := [false, false, false, false, false, false]
  /-- records not stored or discarded (R440). -/
  notStored : Nat := 0
  /-- records lost to uncorrectable errors (R437). -/
  heldDrop : Nat := 0
  /-- corrected words (R437). -/
  ceCount : Nat := 0
  /-- SCRATCH bytes that differ from 0, addresses strictly rising (R438 R445). DESIGN CHOICE (log 12): value at reset. -/
  scratch : List Host.Cell := []
  deriving DecidableEq, Repr

/-- A Baler job stopped with a token, or waiting on its destination (R445 to R447). -/
structure BalerJob where
  /-- job descriptor (R445). -/
  desc : Bytes := []
  /-- input consumed (R446). -/
  bytesIn : Nat := 0
  /-- output produced (R446). -/
  bytesOut : Nat := 0
  /-- generation number of its token (R447). -/
  gen : Nat := 0
  /-- instant at which it stopped (R447). -/
  stopAt : Nat := 0
  /-- decoded bytes of a record not yet complete (DST 2) (R445). -/
  tail : Bytes := []
  /-- host input read when the job last started, from block `base` on (R446). -/
  input : Bytes := []
  /-- BYTES_IN at that start (R446). -/
  base : Nat := 0
  /-- offset of the first record start that lies in the input not yet chunked (DST 3 and 4) (R452 R453). -/
  skip : Nat := 0
  deriving DecidableEq, Repr

/-- Saved Baler states (R447). -/
structure Baler where
  /-- saved states (R447). -/
  saved : Tab (Option BalerJob) := ⟨none, []⟩
  /-- next generation number (R447). DESIGN CHOICE (log 15): value at reset. -/
  nextGen : Nat := 0
  /-- jobs that wait on their destination, by submission number (R446). -/
  running : List (Nat × BalerJob) := []
  deriving DecidableEq, Repr

/-- Recording state (R460). -/
inductive RecSt where
  /-- IDLE. -/
  | idle
  /-- RUNNING. -/
  | running
  /-- STOPPING. -/
  | stopping
  /-- FULL. -/
  | full
  /-- FAULT. -/
  | fault
  deriving DecidableEq, Repr

/-- Phase of a commit (R455). -/
inductive CommitPh where
  /-- no commit in progress. -/
  | none
  /-- waits for every write of the extent. -/
  | writes
  /-- waits for Flush. -/
  | flush
  /-- waits for the commit record's write. -/
  | record
  deriving DecidableEq, Repr

/-- A chunk being formed or waiting for the drive (R452). -/
structure Chunk where
  /-- CHUNK_SEQ (R452). -/
  seqNo : Nat := 0
  /-- block codes, block 0 first (R452). -/
  sizes : List Nat := []
  /-- coded blocks back to back (R452). -/
  data : Bytes := []
  /-- FIRST (R452). -/
  first : Nat := 0xFFFF
  /-- TIME (R452). -/
  time : BitVec 64 := 0
  deriving DecidableEq, Repr

/-- The recording sequencer (R448 to R462). -/
structure Rec where
  /-- state (R460). -/
  st : RecSt := .idle
  /-- namespace (R460). DESIGN CHOICE (log 15): value at reset. -/
  ns : Nat := 0
  /-- NS_LBAS (R450). DESIGN CHOICE (log 15): value at reset. -/
  nsLbas : Nat := 0
  /-- the drive reports a volatile write cache (R455). DESIGN CHOICE (log 15): value at reset. -/
  vwc : Bool := false
  /-- next LBA written (R454). DESIGN CHOICE (log 15): value at reset. -/
  nextLba : Nat := 0
  /-- EXT_LBA of the open extent (R454). DESIGN CHOICE (log 15): value at reset. -/
  extLba : Nat := 0
  /-- OLDEST_LBA (R454). DESIGN CHOICE (log 15): value at reset. -/
  oldest : Nat := 0
  /-- first LBAs of the extents not overwritten, oldest first (R461). -/
  extents : List Nat := []
  /-- WRAPS (R454). -/
  wraps : Nat := 0
  /-- COMMIT_SEQ of the next commit (R454). DESIGN CHOICE (log 15): value at reset. -/
  commitSeq : Nat := 0
  /-- last committed COMMIT_SEQ (R459). -/
  lastCommit : Option Nat := none
  /-- last commit (R455). DESIGN CHOICE (log 15): value at reset. -/
  commitAt : Nat := 0
  /-- commit phase (R455). -/
  phase : CommitPh := .none
  /-- REASON of the commit in progress (R454). -/
  reason : Nat := 0
  /-- NVMe writes outstanding (R455). -/
  writes : Nat := 0
  /-- the commands outstanding, oldest first: kind (0 Write, 1 Write with FUA, 2 Flush), LBA, data (R455 R461). -/
  outst : List (Nat × Nat × Bytes) := []
  /-- entries of the I/O queues (R449). DESIGN CHOICE (log 15): value at reset. -/
  ioEntries : Nat := 0
  /-- the failed command has been retried (R461). -/
  retried : Bool := false
  /-- bytes of the block being filled (R451). -/
  input : Bytes := []
  /-- record starts in `input`: offset and TIME (R452). -/
  starts : List (Nat × Nat) := []
  /-- MIRROR chunks received that wait for the drive, oldest first (R453). -/
  mirQ : List Bytes := []
  /-- records entered in RECORD and not yet cut, oldest first (R451 R457). -/
  pend : List Bytes := []
  /-- chunk being formed (R452). -/
  chunk : Chunk := {}
  /-- next CHUNK_SEQ per SRC_DEV (R452). -/
  chunkSeq : Tab Nat := ⟨0, []⟩
  /-- chunks in the open extent (R454). -/
  chunks : Nat := 0
  /-- chunk bytes written since the last commit (R454 R455). -/
  extBytes : Nat := 0
  /-- decoded bytes of the open extent (R454). -/
  bytesInExt : Nat := 0
  /-- TIME_FIRST (R454). -/
  tFirst : Option (BitVec 64) := none
  /-- TIME_LAST (R454). -/
  tLast : BitVec 64 := 0
  /-- gap events in the open extent (R456). -/
  gaps : Nat := 0
  /-- RECORDS_GAPPED (R454). -/
  gapped : Nat := 0
  /-- a gap is in progress (R456). -/
  inGap : Bool := false
  /-- bytes in (R460). -/
  bytesIn : Nat := 0
  /-- bytes written (R460). -/
  bytesOut : Nat := 0
  /-- gaps (R460). -/
  gapTotal : Nat := 0
  /-- blocks coded at ratio 4, at ratio 2, stored raw (R460). -/
  blocks : List Nat := [0, 0, 0]
  /-- last critical warning (R449 R460). DESIGN CHOICE (log 15): value at reset. -/
  warn : BitVec 8 := 0
  /-- last drive temperature (R460). DESIGN CHOICE (log 15): value at reset. -/
  temp : Nat := 0
  /-- last SMART read (R449). DESIGN CHOICE (log 15): value at reset. -/
  smartAt : Nat := 0
  /-- MIRROR chunks discarded (R453 R467). -/
  mirBad : Nat := 0
  deriving DecidableEq, Repr

/-- One housekeeping channel (ch. 14). -/
structure HkChan where
  /-- current result (R477). DESIGN CHOICE (log 15): value at reset. -/
  value : Int := 0
  /-- tag of the current result (R477). DESIGN CHOICE (log 15): value at reset. -/
  tag : BitVec 32 := 0
  /-- a settled result exists (false = UNSETTLED) (R477). -/
  valid : Bool := false
  /-- the current result is OPEN (R477 R479). -/
  isOpen : Bool := false
  /-- last valid value (R478). -/
  lastGood : Option Int := none
  /-- thermal role armed (R487). -/
  armed : Bool := false
  /-- gain code in force (R474). DESIGN CHOICE (log 15): value at reset. -/
  gain : Nat := 0
  /-- results since the last filter reset (R473). -/
  since : Nat := 0
  /-- consecutive settled results below 40 % (R474). -/
  lowRun : Nat := 0
  /-- results for which a detector trip still marks OPEN (R479). -/
  tripRun : Nat := 0
  /-- SEQ (R477). -/
  seqNo : Nat := 0
  /-- device time of the current result (R492). DESIGN CHOICE (log 15): value at reset. -/
  time : BitVec 64 := 0
  /-- OPEN count (R492). -/
  opens : Nat := 0
  /-- gain-step count (R492). -/
  steps : Nat := 0
  deriving DecidableEq, Repr

/-- One on-die sensor (R484, R485). -/
structure Sensor where
  /-- last reading in 0.0625 degC (R484). DESIGN CHOICE (log 15): value at reset. -/
  value : Int := 0
  /-- its converter has detected an open or shorted diode (R485). -/
  failed : Bool := false
  /-- minimum since POR_N (R492). DESIGN CHOICE (log 15): value at reset. -/
  min : Int := 0
  /-- maximum since POR_N (R492). DESIGN CHOICE (log 15): value at reset. -/
  max : Int := 0
  /-- it has been sampled since POR_N (R492). -/
  seen : Bool := false
  deriving DecidableEq, Repr

/-- Housekeeping and thermal management (ch. 14). -/
structure Hk where
  /-- a housekeeping descriptor has applied since RESET (R470). -/
  applied : Bool := false
  /-- the housekeeping configuration in force, which survives THERMAL_OFF (R491 R544). -/
  cfg : Bytes := []
  /-- channels (R477). -/
  chans : Tab HkChan := ⟨{}, []⟩
  /-- on-die sensors (R484). -/
  sensors : Tab Sensor := ⟨{}, []⟩
  /-- channel being visited (R475). DESIGN CHOICE (log 15): value at reset. -/
  visit : Nat := 0
  /-- results delivered in the visit (R475). -/
  inVisit : Nat := 0
  /-- end of the last conversion or calibration slot, or the start of the scan (R473 R475). DESIGN CHOICE (log 15): value at reset. -/
  convAt : Nat := 0
  /-- HK pins that carry VBIAS (R470). -/
  vbias : BitVec 16 := 0
  /-- HK pin that excitation source A drives (R470 R475). -/
  excA : Option Nat := none
  /-- HK pin that excitation source B drives (R470 R475). -/
  excB : Option Nat := none
  /-- HK pin on which the burn-out current flows (R470 R479). -/
  burn : Option Nat := none
  /-- levels of HKALERT0 to HKALERT7 (R470 R483). -/
  alertPin : BitVec 8 := 0
  /-- HKPWM pins that POL inverts (R482). -/
  pwmInv : BitVec 4 := 0
  /-- of the 24 MHz counter of each PWM output, the counts high and the counts in a period before POL; (0, 0) = a steady low (R482). -/
  pwmCnt : List (Nat × Nat) := [(0, 0), (0, 0), (0, 0), (0, 0)]
  /-- device time of the last calibration slot (R476 R492). DESIGN CHOICE (log 15): value at reset. -/
  calSlot : BitVec 64 := 0
  /-- instant of the last calibration slot (R476). DESIGN CHOICE (log 15): value at reset. -/
  calAt : Nat := 0
  /-- source A measured, relative to its nominal current (R469). DESIGN CHOICE (log 15): value at reset. -/
  iA : Rat := 1
  /-- source B measured, relative to its nominal current (R469). DESIGN CHOICE (log 15): value at reset. -/
  iB : Rat := 1
  /-- measured converter offset (R476). DESIGN CHOICE (log 15): value at reset. -/
  ofs : Rat := 0
  /-- measured converter gain (R476). DESIGN CHOICE (log 15): value at reset. -/
  gainErr : Rat := 1
  /-- PWM duties driven (R482). DESIGN CHOICE (log 15): value at reset. -/
  pwm : List Rat := [0, 0, 0, 0]
  /-- frequencies of the PWM outputs, 0 = a steady level (R482). DESIGN CHOICE (log 15): value at reset. -/
  pwmHz : List Rat := [0, 0, 0, 0]
  /-- alert outputs asserted (R483). -/
  alert : List Bool := [false, false, false, false, false, false, false, false]
  /-- thermal level 0 to 3 (R486). -/
  level : Nat := 0
  /-- Steward clock in MHz (R488). -/
  stwMHz : Nat := 800
  /-- levels held before the present one, newest first, each with the instant at which it ended (R71). The model's own field (log 72). -/
  levelLog : List (Nat × Nat) := []
  /-- per level 1 to 3, since when every sensor is below the level's threshold less 3 degC (R486). -/
  belowSince : List (Option Nat) := [none, none, none]
  /-- TRIPS (R490). -/
  trips : Nat := 0
  /-- source of the last trip (R490). DESIGN CHOICE (log 15): value at reset. -/
  tripSrc : Nat := 63
  /-- the last trip came from an OPEN channel (R490). -/
  tripOpen : Bool := false
  /-- t_trip (R489). DESIGN CHOICE (log 15): value at reset. -/
  tripAt : Nat := 0
  /-- a THERMAL_TRIP record is due at the next boot (R529). -/
  tripRec : Bool := false
  /-- since when both restart conditions hold (R491). -/
  coolSince : Option Nat := none
  /-- 2 ms after the trip: pairs and DDR5 held in reset (R489). -/
  frozen : Bool := false
  deriving DecidableEq, Repr

/-- A calibration pass of a stripe, scheduled or in progress (R500). -/
structure CalPass where
  /-- pass number (R500). -/
  pass : Nat := 0
  /-- stripe (R500). -/
  stripe : Nat := 0
  /-- in progress (R159). -/
  inProg : Bool := false
  deriving DecidableEq, Repr

/-- Calibration store and passes (ch. 15). -/
structure Cal where
  /-- the working copy of the six sets as loaded, value and complement; [] = none (R497 R499). -/
  sets : List Bytes := []
  /-- what field passes have added to each coefficient, by key (R501). The model's own field (log 20). -/
  delta : Tab Int := ⟨0, []⟩
  /-- SLOPE baselines (R506). DESIGN CHOICE (log 15): value at reset. -/
  slope : Tab Rat := ⟨0, []⟩
  /-- SERDES baselines (R506). DESIGN CHOICE (log 15): value at reset. -/
  serdesBase : Tab Int := ⟨0, []⟩
  /-- scheduled passes, oldest first (R500). -/
  passes : List CalPass := []
  /-- end of each stripe's last pass (R500). DESIGN CHOICE (log 15): value at reset. -/
  lastPass : Tab Nat := ⟨0, []⟩
  /-- sum of the group's two TDC-region sensors at each stripe's last pass, 1/16 degC each (R500). DESIGN CHOICE (log 15): value at reset. -/
  lastTemp : Tab Int := ⟨0, []⟩
  /-- breakdown at 25 degC per group from the last dark-count pass; unlisted = no pass yet (R500 R506). DESIGN CHOICE (log 15): value at reset. -/
  vbd : Tab Int := ⟨0, []⟩
  /-- last 10-minute schedule (R500). DESIGN CHOICE (log 15): value at reset. -/
  schedAt : Nat := 0
  /-- rejected passes (R503). -/
  rejects : Nat := 0
  /-- generation of the newer store copy (R505). DESIGN CHOICE (log 15): value at reset. -/
  gen : Nat := 0
  /-- coefficients or ledger have changed since the store was written (R505). -/
  dirty : Bool := false
  /-- last store write (R505). DESIGN CHOICE (log 15): value at reset. -/
  storeAt : Nat := 0
  /-- a store write is due after this CAL_LOAD (R505). -/
  loadDue : Option Nat := none
  /-- engine-clock time in ARMED, RANGING or DEGRADED since the last re-plan (R507). -/
  replanT : Nat := 0
  /-- ageing level L (R509). -/
  level : Nat := 0
  /-- (monitor, object) for which AGEING_LIMIT has been posted in this boot (R508). -/
  limited : List (Nat × Nat) := []
  /-- margin ledger per monitor, oldest first (R510). -/
  ledger : Tab (List Bytes) := ⟨[], []⟩
  /-- last eye-margin reading (R405). DESIGN CHOICE (log 15): value at reset. -/
  eyeAt : Nat := 0
  deriving DecidableEq, Repr

/-- One Steward pair (R391 to R397, R541). -/
structure StwPair where
  /-- it passed its self-test and is not failed (R397 R541). -/
  avail : Bool := false
  /-- the verified image that it holds, [] = none (R391). -/
  image : Bytes := []
  /-- it is loading or reloading (R391). -/
  loading : Bool := false
  deriving DecidableEq, Repr

/-- Steward pairs and firmware handover (R391 to R398). -/
structure Fw where
  /-- pairs (R391). -/
  pairs : List StwPair := [{}, {}]
  /-- ACTIVE_PAIR (R335). -/
  active : Nat := 0
  /-- STANDBY_OK (R335). -/
  standbyOk : Bool := false
  /-- the active pair runs its boot ROM (R378). -/
  rom : Bool := true
  /-- last handover outcome: 0 none, 1 completed, 2 abandoned (R399). DESIGN CHOICE (log 15): value at reset. -/
  outcome : Nat := 0
  /-- commands abandoned by the handover in progress (R392). -/
  abandoned : Nat := 0
  /-- pairs that failed at stage 0x04, unavailable until POR_N (R541). -/
  bootFailed : List Bool := [false, false]
  /-- the reset active pair reloads and owes RESUBMIT completions (R396). -/
  reloadSubs : Bool := false
  deriving DecidableEq, Repr

/-- The configuration flash (R530 to R533). -/
structure Flash where
  /-- flash size S (R530). DESIGN CHOICE (log 2): value at reset. -/
  size : Nat := 0x4000000
  /-- firmware slots A and B, [] = blank (R531). DESIGN CHOICE (log 2): value at reset. -/
  fw : List Bytes := [[], []]
  /-- policy area: two copies of the record and its complement, [] = blank (R531). DESIGN CHOICE (log 2): value at reset. -/
  policy : List Bytes := [[], []]
  /-- provisioning block, [] = blank (R535). DESIGN CHOICE (log 2): value at reset. -/
  prov : Bytes := []
  /-- configuration images A and B, [] = blank (R531 R532). DESIGN CHOICE (log 2): value at reset. -/
  img : List Bytes := [[], []]
  /-- header of each calibration store copy, [] = blank (R505). DESIGN CHOICE (log 2): value at reset. -/
  calCopies : List Bytes := [[], []]
  /-- sets of each copy (R505). -/
  calSets : List (List Bytes) := [[], []]
  /-- field changes of each copy (R505). -/
  calDelta : List (Tab Int) := [⟨0, []⟩, ⟨0, []⟩]
  /-- SLOPE baselines of each copy (R505 R506). -/
  calSlope : List (Tab Rat) := [⟨0, []⟩, ⟨0, []⟩]
  /-- SERDES baselines of each copy (R505 R506). -/
  calSerdes : List (Tab Int) := [⟨0, []⟩, ⟨0, []⟩]
  /-- ageing level of each copy (R505). -/
  calLevel : List Nat := [0, 0]
  /-- margin ledger of each copy (R505). -/
  calLedger : List (Tab (List Bytes)) := [⟨[], []⟩, ⟨[], []⟩]
  deriving DecidableEq, Repr

/-- The OTP (R534). -/
structure Otp where
  /-- firmware-key hashes, [] = blank (R534). DESIGN CHOICE (log 2): value at reset. -/
  fwHash : List Bytes := [[], [], [], []]
  /-- schedule-key hashes (R534). DESIGN CHOICE (log 2): value at reset. -/
  schedHash : List Bytes := [[], [], [], []]
  /-- session-key hashes (R534). DESIGN CHOICE (log 2): value at reset. -/
  sessHash : List Bytes := [[], [], [], []]
  /-- residual skew of the pulser tree per channel, 1/16 LSB (R159 R534). DESIGN CHOICE (log 2): value at reset. -/
  treeSkew : Tab Int := ⟨0, []⟩
  /-- unusable slots (kind * 4 + slot) (R534 R535). -/
  badHash : List Nat := []
  /-- subsystem IDs, none = unprovisioned (R333 R534). DESIGN CHOICE (log 2): value at reset. -/
  ssvid : Option (BitVec 32) := none
  /-- SCHED_REVOKED (R528). DESIGN CHOICE (log 2): value at reset. -/
  schedRev : BitVec 4 := 0
  /-- SESS_REVOKED (R528). DESIGN CHOICE (log 2): value at reset. -/
  sessRev : BitVec 4 := 0
  /-- PROV_LOCK (R528). DESIGN CHOICE (log 2): value at reset. -/
  provLock : Bool := false
  /-- FW_CTR (R528). DESIGN CHOICE (log 2): value at reset. -/
  fwCtr : Nat := 0
  /-- SCHED_CTR (R528). DESIGN CHOICE (log 2): value at reset. -/
  schedCtr : Nat := 0
  deriving DecidableEq, Repr

/-- Supplies, reset cause and clocks (R521 to R529). -/
structure Power where
  /-- SRC of RST_CAUSE, as the bit number (R528). DESIGN CHOICE (log 15): value at reset. -/
  src : Nat := 0
  /-- RAIL (R528). -/
  rail : BitVec 3 := 7
  /-- KIND (R528). -/
  kind : BitVec 3 := 7
  /-- FW_IMG (R528). -/
  fwImg : Bool := false
  /-- FW_FALLBACK (R528). -/
  fwFallback : Bool := false
  /-- CFG_IMG (R528). -/
  cfgImg : Bool := false
  /-- CFG_FALLBACK (R528). -/
  cfgFallback : Bool := false
  /-- FLASH_SINGLE (R528). -/
  flashSingle : Bool := false
  /-- a fuse programmed in this boot failed its read-back (R535). -/
  fuseBad : Bool := false
  /-- last retry of the PLL lock in this wait (R525). -/
  pllTryAt : Option Nat := none
  /-- PROV_ACTED (R528). -/
  provActed : Bool := false
  /-- BOOTS (R528). -/
  boots : BitVec 8 := 0
  /-- instant at which POR_N rises again (R527). DESIGN CHOICE (log 15): value at reset. -/
  porRise : Nat := 0
  /-- since when every rail is within tolerance (R523). DESIGN CHOICE (log 15): value at reset. -/
  okSince : Nat := 0
  /-- cause that the next entry to BOOT records (R528). DESIGN CHOICE (log 15): value at reset. -/
  nextSrc : Nat := 0
  /-- a CLOCK_LOSS record is due at the next boot (R529). -/
  clkArg : Option Nat := none
  /-- lock retries (R525). -/
  pllRetry : Nat := 0
  /-- the SYS PLLs are locked (R525). -/
  pllLocked : Bool := false
  /-- the clock monitor is armed (R525). -/
  clkMon : Bool := false
  /-- device time at the reset, in the units of Time (R526). DESIGN CHOICE (log 15): value at reset. -/
  resetTime : Nat := 0
  /-- end of the last boot's stage 0x08 (R541). DESIGN CHOICE (log 15): value at reset. -/
  bootAt : Nat := 0
  deriving DecidableEq, Repr

/-- What the block drives outward, for the model's own record of its outputs. -/
inductive EmitK where
  /-- a posted write of `fn` at address `a`. -/
  | write
  /-- an MSI-X message of `fn`, vector `a`. -/
  | msg
  /-- a read's answer: `a` the offset. -/
  | read
  /-- a Drover frame on port `fn`. -/
  | frame
  /-- the levels that lane `fn` sends for one codeword, as signed bytes. -/
  | lane
  /-- a SATBUS frame (its share words, then the echo word). -/
  | satbus
  /-- a FIRE_Snn pulse: `fn` the string, `a` the width in ps. -/
  | fire
  /-- a SHOT_SYNC_OUT pulse. -/
  | syncOut
  /-- an NVMe command: `fn` the kind (0 Write, 1 Write with FUA, 2 Flush, 3 shutdown notification, 4 the journal ring is zeroed, 5 CC.EN set, 6 I/O queues created, 7 Read, 8 Get Log Page SMART / Health), `a` the LBA or the queue entries. -/
  | nvme
  /-- BIAS_TRIMg is loaded by the standby path: `fn` the group, `a` the code. -/
  | bias
  deriving DecidableEq, Repr

/-- One output of the block, newest first in `State.out`; the model's own record of what left the device. -/
structure Emit where
  /-- what (R331). The model's own field (log 8). -/
  kind : EmitK := .write
  /-- function, port or string (R331). The model's own field (log 8). -/
  fn : Nat := 0
  /-- address, vector or width (R331). The model's own field (log 8). -/
  a : Nat := 0
  /-- data (R331). The model's own field (log 8). -/
  bytes : Bytes := []
  deriving DecidableEq, Repr

/-- Host writes and messages of one function that wait because the function cannot be a bus master or the link is down (R332, R359, R360), oldest first. -/
structure DeferredOut where
  /-- what waits, oldest first (R360). -/
  q : List Emit := []
  deriving DecidableEq, Repr

/-- What happened in an engine cycle, where a rule depends on two events of one cycle (R13, R353). -/
structure Cycle where
  /-- engine cycle, plus 1, in which the hardware last set each W1C bit (R13). The model's own field (log 72). -/
  w1c : Tab Nat := ⟨0, []⟩
  /-- engine cycle, plus 1, of the last message of each vector, 64 for each function (R353). The model's own field (log 72). -/
  msg : Tab Nat := ⟨0, []⟩
  deriving DecidableEq, Repr

/-- The whole block: everything the specification gives the JLN-5120, and the model's own time, free-value counter, output log and command queue. -/
structure State where
  /-- identity block (R5). -/
  ident : Ident := {}
  /-- host link (R20). -/
  link : Link := {}
  /-- schedule sequencer (R43). -/
  seq : Seq := {}
  /-- emitter strings S00 to S31 (R43). -/
  strs : Tab StrState := ⟨{}, []⟩
  /-- SATBUS (R109). -/
  satbus : Satbus := {}
  /-- steering (R116). -/
  steer : Steer := {}
  /-- receive front end and channel-sheaves (R129). -/
  rx : Rx := {}
  /-- Thresher (R164). -/
  thresh : Thresh := {}
  /-- Gleaner converters (R235). -/
  gw : Tab GwState := ⟨{}, []⟩
  /-- capture requests of the present engine cycle, in the order raised (R254). -/
  glq : List GwReq := []
  /-- engines and repair (R268). -/
  repair : Repair := {}
  /-- stream (R322). -/
  stream : Stream := {}
  /-- command intake (R340). -/
  cmds : Cmds := {}
  /-- stream rings (R345). -/
  srings : Tab StreamRing := ⟨{}, []⟩
  /-- PF0 (R333). -/
  fn0 : Fn := {}
  /-- PF1 (R333). -/
  fn1 : Fn := {}
  /-- PF0 writes that wait (R360). -/
  defer0 : DeferredOut := {}
  /-- PF1 writes that wait (R360). -/
  defer1 : DeferredOut := {}
  /-- events of one engine cycle (R13). -/
  cyc : Cycle := {}
  /-- PF0 BAR0 registers (R335). -/
  pf0 : Pf0 := {}
  /-- privileged page (R354). -/
  priv : Priv := {}
  /-- session authentication (R385). -/
  sess : Sess := {}
  /-- device state (R374). -/
  dev : Dev := {}
  /-- pins (R558). DESIGN CHOICE (log 11): value at reset. -/
  pins : Pins := {}
  /-- errors (R513). -/
  err : Err := {}
  /-- configuration sets (R379). -/
  cfg : Cfg := {}
  /-- Drover (R401). -/
  drover : Drover := {}
  /-- device time (R417). -/
  time : Time := {}
  /-- Silo (R435). -/
  silo : Silo := {}
  /-- Baler (R445). -/
  baler : Baler := {}
  /-- recording (R448). -/
  recd : Rec := {}
  /-- housekeeping (R468). -/
  hk : Hk := {}
  /-- calibration and ageing (R497). -/
  cal : Cal := {}
  /-- firmware pairs (R391). -/
  fw : Fw := {}
  /-- flash (R530). -/
  flash : Flash := {}
  /-- JTAG port (R567). -/
  jtag : Jtag := {}
  /-- OTP (R534). -/
  otp : Otp := {}
  /-- supplies and resets (R521). -/
  power : Power := {}
  /-- elapsed time in ticks of 1/5120 ns (R1). The model's own field (log 1). -/
  now : Nat := 0
  /-- number of free values used so far (R1). The model's own field (log 7). -/
  free : Nat := 0
  /-- the log of what the block drove outward, newest first (R331). The model's own field (log 8). -/
  out : List Emit := []
  /-- commands waiting, first in first out (R1). The model's own field (log 3). -/
  pending : List Instr := []
  deriving DecidableEq, Repr
/-- What stops a step. -/
inductive Fault where
  /-- raised by the rows that write a register of a function (REGISTER_WRITE, MBX_DB, CMD_TAIL, CPL_HEAD, and the writes of the CONTROL registers of the rings): the host wrote 1 to a reserved register bit, and R12 of 00_scope gives that write no defined effect;
  safe, since the model stops where the device would go on in a way that no rule states (log 6) -/
  | reservedBitWritten
  deriving DecidableEq, Repr

/-- What the model declines to run. -/
inductive Refusal where
  /-- raised by an arm of `exec` whose command has no meaning in the model; safe, since the model stops -/
  | notModelled (mnemonic : String)
  deriving DecidableEq, Repr

/-- The block right after a power-on reset (R335, R527 of the specification): STATE is RESET, the queue is empty, nothing is staged,
and every value that no rule states is the one its field's docstring marks. -/
def State.reset : State := {}

end Sys2Proof.Machine
end

