-- ==== Sys2Proof/Machine/Ops.lean ====
section
/-! DEFINITION. The operations every family shares: time, free values, the block's outputs, messages, the device state word, errors. -/

namespace Sys2Proof.Machine

/-- Ticks in a nanosecond (log 1). -/
def ns (n : Nat) : Nat := n * 5120
/-- Ticks in a microsecond. -/
def us (n : Nat) : Nat := n * 5120000
/-- Ticks in a millisecond. -/
def ms (n : Nat) : Nat := n * 5120000000
/-- Ticks in a second. -/
def sec (n : Nat) : Nat := n * 5120000000000
/-- Ticks in `n` picoseconds, a multiple of 25 (R44) or of 15.625 (R12 of the timing chapters) kept exact where it matters. -/
def ps (n : Nat) : Nat := n * 5120 / 1000

/-- The engine-clock edge at or after an instant: the engine clock runs at 1 GHz (R118). -/
def engineEdge (t : Nat) : Nat := (t + 5119) / 5120 * 5120
/-- A fast edge's timestamp: whole units of 15.625 ps, as the TDC interpolator gives it (R29). -/
def tdcStamp (t : Nat) : Nat := t / 80 * 80

/-- A number's successor value from the stream of free values (log 7). -/
def freeNat (s : State) : Nat := Config.freeValue s.free

/-- The state after one free value has been used. -/
def State.useFree (s : State) : State := { s with free := s.free + 1 }

/-- Device time in whole nanoseconds, truncated (R301). -/
def State.deviceTime (s : State) : DWord := BitVec.ofNat 64 (s.time.units / 5120000000000)

/-- Device time at instant `t`, near the present, at the present rate (R301). -/
def State.timeAt (s : State) (t : Nat) : DWord :=
  let rate : Int := if s.time.running then 1000000000 + s.time.ppb else 0
  BitVec.ofNat 64 (((s.time.units : Int) + ((t : Int) - s.now) * rate).toNat / 5120000000000)

/-- The code of the present device state (R319). -/
def State.code (s : State) : Nat := s.dev.word.toNat % 16

/-- Whether the device state is one of `l`. -/
def State.isIn (s : State) (l : List Nat) : Bool := l.contains s.code

/-- RANGING or DEGRADED. -/
def State.ranges (s : State) : Bool := s.isIn [5, 6]

/-- ARMED, RANGING or DEGRADED. -/
def State.armedUp (s : State) : Bool := s.isIn [4, 5, 6]

/-- HOLD, ARMED, RANGING, DEGRADED or SAFE: the states in which commands run outside boot. -/
def State.holdUp (s : State) : Bool := s.isIn [3, 4, 5, 6, 7]

/-! Numbers of the host interface's performance counters in the order of R356 (log 58). -/

/-- Bytes that function `fn` writes. -/
def cntWrites (fn : Nat) : Nat := 320 + fn
/-- MSI-X messages. -/
def cntMsg : Nat := 324
/-- Cycles in which a completion ring is full. -/
def cntCplFull : Nat := 325
/-- Cycles in which a stream ring is FULL. -/
def cntRingFull : Nat := 326

/-- Performance counter `i` goes up by `n`, unless FREEZE holds or it is reserved (R354, R356); in sampling mode an overflow of the selected counter
reloads it with the preset, and its sample is due (R355). -/
def State.count (s : State) (i n : Nat) : State :=
  if s.priv.freeze || i ≥ 448 then s
  else
    let v := (s.priv.cnt.get i).toNat + n
    if s.priv.sampleEn && i == s.priv.sampleSel && v ≥ 2 ^ 64 then
      { s with priv := { s.priv with cnt := s.priv.cnt.set i s.priv.preset, samplePend := s.priv.samplePend ++ [i] } }
    else { s with priv := { s.priv with cnt := s.priv.cnt.set i (BitVec.ofNat 64 v) } }

/-- A performance counter goes up by `n` where `b` holds. -/
def State.countIf (s : State) (b : Bool) (i n : Nat) : State := if b then s.count i n else s

/-- Ring `r` has no free completion entry (R342). -/
def CmdRing.cplFull (q : CmdRing) : Bool := (q.cplTail + 1) % 2 ^ q.sizeLog2 == q.cplHead

/-- `dt` ticks pass: device time runs at its present rate while the SYS PLLs are locked (R417, R526), the ranging clock of R106 runs with ARM_EN high and the fast axis locked in
RANGING and DEGRADED, the re-plan timer of R507 in ARMED, RANGING and DEGRADED, and the engine cycles with a full ring are counted (R356). -/
def State.advance (s : State) (dt : Nat) : State :=
  let n := (s.now + dt) / 5120 - s.now / 5120
  let t := { s with
    now := s.now + dt
    time := { s.time with units := if s.time.running then s.time.units + dt * (1000000000 + s.time.ppb).toNat else s.time.units }
    seq := { s.seq with rangingClk := if s.ranges && s.pins.armEn && s.steer.locked then s.seq.rangingClk + dt else s.seq.rangingClk }
    cal := { s.cal with replanT := if s.armedUp then s.cal.replanT + dt else s.cal.replanT } }
  (t.countIf (s.cmds.rings.any fun q => q.en && q.cplFull) cntCplFull n).countIf (s.srings.cells.any fun (c : Nat × StreamRing) => c.2.full) cntRingFull n

/-- The state with string `i` changed. -/
def State.mapStr (s : State) (i : Nat) (f : StrState → StrState) : State := { s with strs := s.strs.upd i f }
/-- The state with channel `c` changed. -/
def State.mapCh (s : State) (c : Nat) (f : ChanState → ChanState) : State := { s with rx := { s.rx with chans := s.rx.chans.upd c f } }
/-- The state with converter `a` changed. -/
def State.mapGw (s : State) (a : Nat) (f : GwState → GwState) : State := { s with gw := s.gw.upd a f }
/-- The state with bias group `g` changed. -/
def State.mapGroup (s : State) (g : Nat) (f : BiasGroup → BiasGroup) : State := { s with rx := { s.rx with groups := updAt s.rx.groups g f } }
/-- The state with stream ring `r` changed. -/
def State.mapRing (s : State) (r : Nat) (f : StreamRing → StreamRing) : State := { s with srings := s.srings.upd r f }
/-- The state with Drover port `p` changed. -/
def State.mapPort (s : State) (p : Nat) (f : Port → Port) : State := { s with drover := { s.drover with ports := updAt s.drover.ports p f } }
/-- The state with serial lane `l` changed. -/
def State.mapLane (s : State) (l : Nat) (f : LaneSt → LaneSt) : State := { s with drover := { s.drover with lanes := updAt s.drover.lanes l f } }
/-- The state with engine `e` changed. -/
def State.mapEngine (s : State) (e : Nat) (f : Engine → Engine) : State := { s with repair := { s.repair with engines := s.repair.engines.upd e f } }
/-- The state with command ring `r` changed. -/
def State.mapCmdRing (s : State) (r : Nat) (f : CmdRing → CmdRing) : State := { s with cmds := { s.cmds with rings := updAt s.cmds.rings r f } }
/-- The state with housekeeping channel `c` changed. -/
def State.mapHk (s : State) (c : Nat) (f : HkChan → HkChan) : State := { s with hk := { s.hk with chans := s.hk.chans.upd c f } }
/-- String `i`. -/
def State.str (s : State) (i : Nat) : StrState := s.strs.get i
/-- Channel `c`; CH_REF is number 512. -/
def State.ch (s : State) (c : Nat) : ChanState := s.rx.chans.get c
/-- Drover port `p`. -/
def State.port (s : State) (p : Nat) : Port := s.drover.ports.getD p {}
/-- Serial lane `l`. -/
def State.lane (s : State) (l : Nat) : LaneSt := s.drover.lanes.getD l {}
/-- Bias group `g`. -/
def State.group (s : State) (g : Nat) : BiasGroup := s.rx.groups.getD g {}
/-- Physical function `fn`. -/
def State.func (s : State) (fn : Nat) : Fn := if fn = 0 then s.fn0 else s.fn1

/-- The state with physical function `fn` changed. -/
def State.mapFn (s : State) (fn : Nat) (f : Fn → Fn) : State :=
  if fn = 0 then { s with fn0 := f s.fn0 } else { s with fn1 := f s.fn1 }

/-- The state with `f` applied for each listed number in turn. -/
def State.each (s : State) (l : List Nat) (f : Nat → State → State) : State := l.foldl (fun t i => f i t) s

/-! Fuses (R528, R534, R538, R539). -/

/-- A slot's hash: once programmed it stands. -/
def burnHash (old new : List Bytes) : List Bytes := (List.range 4).map fun k => if (old.getD k []).isEmpty then new.getD k [] else old.getD k []

/-- The OTP after a step that leaves it as `new`: fuses are only ever blown, and each counter has 64 of them (R528, R534, R538). -/
def Otp.burn (old new : Otp) : Otp :=
  { fwHash := burnHash old.fwHash new.fwHash, schedHash := burnHash old.schedHash new.schedHash, sessHash := burnHash old.sessHash new.sessHash
    badHash := new.badHash, treeSkew := old.treeSkew
    ssvid := match old.ssvid with | some v => some v | none => new.ssvid
    schedRev := old.schedRev ||| new.schedRev, sessRev := old.sessRev ||| new.sessRev, provLock := old.provLock || new.provLock
    fwCtr := min 64 (max old.fwCtr new.fwCtr), schedCtr := min 64 (max old.schedCtr new.schedCtr) }

/-! Configuration parts (R379). -/

/-- Part `n` (1 to 10) of a set, as staged: value image, then complement. -/
def Parts.get (p : Parts) (n : Nat) : Bytes := p.p.getD (n - 1) []
/-- The set with part `n` replaced. -/
def Parts.put (p : Parts) (n : Nat) (b : Bytes) : Parts := { p := updAt p.p (n - 1) fun _ => b }
/-- The value half of part `n` of the active set. -/
def State.part (s : State) (n : Nat) : Bytes := let b := s.cfg.active.get n; b.take (b.length / 2)
/-- A field of part `n` of the active set: `w` bits at bit `lo` of the 32-bit word at offset `i`. -/
def State.pf (s : State) (n i lo w : Nat) : Nat := fieldOf (s.part n) i lo w

/-- The stepping is A0 (R9). -/
def State.isA0 (s : State) : Bool := s.ident.stepping == 0
/-- The part is a JLN-5120-AQ (R2). -/
def State.isAQ (s : State) : Bool := s.ident.variant == 1

/-- DEV_ID of the active Drover descriptor, 0xFFFF while none is active (R298, R430 of 12_lanes_drover). -/
def State.devId (s : State) : Nat := if (s.part 10).isEmpty then 0xFFFF else s.pf 10 0x08 0 16

/-! Outputs of the block (log 8). -/

/-- The state with one more output in its log. -/
def State.emit (s : State) (k : EmitK) (fn a : Nat) (b : Bytes) : State := { s with out := ⟨k, fn, a, b⟩ :: s.out }

/-- Function `fn` can issue requests now: link up, not in D3hot, Bus Master Enable set (R332, R360). -/
def State.canWrite (s : State) (fn : Nat) : Bool := s.link.up && !(s.func fn).d3 && (s.func fn).bme

/-- The posted writes that carry `b` to host address `a`: none crosses a 4 KB boundary or exceeds `mps` (R331). -/
def splitWrites (mps : Nat) : Nat → Nat → Bytes → List (Nat × Bytes)
  | 0, _, _ => []
  | fuel + 1, a, b =>
    if b.isEmpty then [] else
    let n := min mps (4096 - a % 4096)
    (a, b.take n) :: splitWrites mps fuel (a + n) (b.drop n)

/-- What waits for function `fn`. -/
def State.deferred (s : State) (fn : Nat) : List Emit := if fn = 0 then s.defer0.q else s.defer1.q

/-- The state with `e` waiting for function `fn`, behind what waits already. -/
def State.putOff (s : State) (fn : Nat) (e : Emit) : State :=
  if fn = 0 then { s with defer0 := { q := s.defer0.q ++ [e] } } else { s with defer1 := { q := s.defer1.q ++ [e] } }

/-- Function `fn` sends `e` now, or it waits until the function can issue requests (R331, R332, R357, R360). -/
def State.issue (s : State) (fn : Nat) (e : Emit) : State :=
  if s.canWrite fn && (s.deferred fn).isEmpty then { s with out := e :: s.out } else s.putOff fn e

/-- What waits for function `fn` goes out, in order, when it can issue requests again. -/
def State.flushFn (s : State) (fn : Nat) : State :=
  if s.canWrite fn then
    if fn = 0 then { s with out := s.defer0.q.reverse ++ s.out, defer0 := {} }
    else { s with out := s.defer1.q.reverse ++ s.out, defer1 := {} }
  else s

/-- What waits for function `fn` is withheld for good (an FLR or a reset of the function, R359). -/
def State.dropFn (s : State) (fn : Nat) : State := if fn = 0 then { s with defer0 := {} } else { s with defer1 := {} }

/-! Events of one engine cycle (R13, R353). -/

/-- The number of the present engine cycle of 1 ns, plus 1, so that 0 names none (log 72). -/
def State.cycle (s : State) : Nat := s.now / 5120 + 1

/-- The hardware sets the W1C bit with key `k` now (R13; keys in log 72). -/
def State.mark (s : State) (k : Nat) : State := { s with cyc := { s.cyc with w1c := s.cyc.w1c.set k s.cycle } }

/-- The hardware set the W1C bit with key `k` in the present engine cycle, so that a write of 1 leaves it set (R13). -/
def State.isFresh (s : State) (k : Nat) : Bool := s.cyc.w1c.get k == s.cycle

/-- The new value of the W1C bit with key `k`, now `b`, when the host writes `w` to it (R11, R13). -/
def State.w1c (s : State) (k : Nat) (b w : Bool) : Bool := b && (!w || s.isFresh k)

/-- The keys of the W1C bits (log 72): INT_PEND bit v is v. -/
def keyWwa : Nat := 16
/-- ERR_OVF. -/
def keyErrOvf : Nat := 17
/-- SAMPLE_OVF. -/
def keySampleOvf : Nat := 18
/-- MBX_DONE bit `k`. -/
def keyMbxDone (k : Nat) : Nat := 24 + k
/-- DB_ERR of command ring `r`. -/
def keyDbErr (r : Nat) : Nat := 32 + 2 * r
/-- FETCH_ERR of command ring `r`. -/
def keyFetchErr (r : Nat) : Nat := 33 + 2 * r
/-- CONS_ERR of stream ring `r`. -/
def keyConsErr (r : Nat) : Nat := 64 + 2 * r
/-- HELD_DROP of stream ring `r`. -/
def keyHeldDrop (r : Nat) : Nat := 65 + 2 * r

/-- The message of vector `v` of function `fn`, as its table entry gives it (R352). -/
def State.msgOf (s : State) (fn v : Nat) : Emit :=
  let m := (s.func fn).msix
  ⟨.msg, fn, v, le 8 (m.addr.get v).toNat ++ le 4 (m.data.get v).toNat⟩

/-- `e` is taken out of what has not yet left, or of the newest outputs. -/
def State.takeBack (s : State) (e : Emit) : State :=
  if s.out.contains e then { s with out := s.out.erase e }
  else if e.fn = 0 then { s with defer0 := { q := s.defer0.q.erase e } } else { s with defer1 := { q := s.defer1.q.erase e } }

/-- The message of vector `v` goes out behind what it announces; causes of one engine cycle share one message, which follows the last of
them (R353). -/
def State.message (s : State) (fn v : Nat) : State :=
  let k := 64 * fn + v
  let e := s.msgOf fn v
  let again := s.cyc.msg.get k == s.cycle
  let s := if again then s.takeBack e else s.count cntMsg 1
  ({ s with cyc := { s.cyc with msg := s.cyc.msg.set k s.cycle } }).issue fn e

/-- A vector of a function sends nothing now: MSI-X is off, or the function or the vector is masked (R352; MSI-X Enable and Function Mask as
the bus standard gives them, log 13). -/
def Fn.vecMasked (f : Fn) (v : Nat) : Bool := !f.msixEn || f.msixMask || f.msix.masked.get v

/-- Vector `v` of function `fn` is raised: on PF0 its INT_PEND bit; masked, its PBA bit; else its message (R335, R352). -/
def State.raise (s : State) (fn v : Nat) : State :=
  let s := if fn = 0 then { s.mark v with pf0 := { s.pf0 with intPend := s.pf0.intPend ||| BitVec.ofNat 11 (2 ^ v) } } else s
  if (s.func fn).vecMasked v then s.mapFn fn fun f => { f with msix := { f.msix with pba := f.msix.pba ||| BitVec.ofNat 64 (2 ^ v) } }
  else s.message fn v

/-- The vectors of a function that pend and are no longer masked send their messages (R352). -/
def State.sendPending (s : State) (fn : Nat) : State :=
  s.each ((List.range 64).filter fun v => (s.func fn).msix.pba.getLsbD v && !(s.func fn).vecMasked v) fun v t =>
    (t.mapFn fn fun f => { f with msix := { f.msix with pba := f.msix.pba &&& ~~~ BitVec.ofNat 64 (2 ^ v) } }).message fn v

/-- The newest pulse of string `i` among the outputs cut to `ps` picoseconds. -/
def cutPulse (i ps : Nat) : List Emit → List Emit
  | [] => []
  | e :: rest => if e.kind == .fire && e.fn == i then { e with a := min e.a ps } :: rest else e :: cutPulse i ps rest

/-- Width of a pulse in ticks (R90). -/
def pulseTicks (pw : Nat) : Nat := (2000 + 500 * pw) * 5120 / 1000
/-- The shot of string `i` whose pulse is high now. -/
def State.pulse (s : State) (i : Nat) : Option Shot :=
  (s.str i).runs.findSome? fun r => r.shots.find? fun h => h.st == .fired && decide (h.f * 80 ≤ s.now) && decide (s.now < h.f * 80 + pulseTicks h.pw)
/-- Pulses that are high are cut short at once: a pad gate has closed, within the 20 ns that it may take (R27, R559, R571; log 101). -/
def State.cutPulses (s : State) : State :=
  s.each (List.range 32) fun i t => match t.pulse i with
    | some h => { t with out := cutPulse i ((t.now - h.f * 80) * 1000 / 5120) t.out }
    | none => t

/-- Function `fn` writes `b` to host memory at `a`. -/
def State.hostWrite (s : State) (fn a : Nat) (b : Bytes) : State :=
  ((splitWrites (s.func fn).mps b.length a b).foldl (fun t (x : Nat × Bytes) => t.issue fn ⟨.write, fn, x.1, x.2⟩) s).count (cntWrites fn) b.length

/-! The device state word (R319). -/

/-- The state word and its complement set together. -/
def State.setWord (s : State) (w : Word) : State := { s with dev := { s.dev with word := w, wordC := ~~~ w } }

/-- The word of a transition to state `c` with cause `cause` (R319). -/
def nextWord (w : Word) (c cause : Nat) : Word :=
  BitVec.ofNat 32 (pack [(0, c), (4, w.toNat % 16), (8, (bits w.toNat 8 8 + 1) % 256), (16, cause % 65536)])

/-- The device changes to state `c` (R319, R374); PF0 vector 1 is raised (R352). The pad gate of RES_GATE_Snn and SATBUS, which the thermal trip closes, is open
from HOLD to SAFE (R27, R489). -/
def State.goto (s : State) (c cause : Nat) : State :=
  let up : Bool := [3, 4, 5, 6, 7].contains c
  let s := { s with pins := { s.pins with resGate := !up, satGate := !up } }
  (s.setWord (nextWord s.dev.word c cause)).raise 0 1

/-! Errors (R389, R513 to R518). -/

/-- Severity of an error code (R519). -/
def sevOf (code : Nat) : Nat :=
  if [0x1002, 0x1003, 0x1004, 0x1005, 0x1008, 0x2004, 0x2009, 0x200D, 0x3009].contains code then 3
  else if [0x1006, 0x1007, 0x2002, 0x2003, 0x2005, 0x2008, 0x200B, 0x200F, 0x3002, 0x3005, 0x3008, 0x4005, 0x4006, 0x4007, 0x4008,
    0x4009, 0x5001, 0x5002, 0x5003, 0x5007, 0x6004].contains code then 2
  else if [0x1009, 0x3004, 0x3007, 0x4001, 0x4003, 0x4004, 0x6003, 0x7002].contains code then 0
  else 1

/-- The 48 bytes of an error record (R518). -/
def errRecord (code sev : Nat) (preempt hw : Bool) (state seqNo related : Nat) (time : DWord) (kind obj : Nat) (args : List Nat) : Bytes :=
  let b := le 4 (pack [(0, code), (16, sev), (18, b2n preempt), (19, b2n hw), (20, state)])
    ++ le 2 seqNo ++ le 2 related ++ le 8 time.toNat ++ le 2 kind ++ le 2 obj
    ++ (padTo 6 0 args).flatMap (fun a => le 4 a)
  b ++ le 4 (crc32c b).toNat

/-- Slot numbers of the records that are not yet handled. -/
def Err.openSlots (e : Err) : List Nat := (e.unhandled ++ e.handling).map (·.slot)

/-- The ring slots from `rd` up to `wr`, oldest first. -/
def ringSlots (rd wr : Nat) : List Nat := (List.range ((wr + 256 - rd) % 256)).map fun i => (rd + i) % 256

/-- The record with severity `sev` takes its place in the order of handling (R514); `rest` tells the other fields. INFO ends when written;
a FATAL in SAFE after handling has ended needs none (R515). -/
def Err.accept (e : Err) (state : Nat) (r : ErrRec) : Err :=
  if r.sev = 0 then e
  else if r.sev = 3 && state == 7 && !(e.handling.any (·.sev == 3)) then e
  else match e.handling with
    | [] => { e with handling := [r] }
    | h :: _ => if h.sev < r.sev then { e with handling := r :: e.handling } else { e with unhandled := e.unhandled ++ [r] }

/-- The record `r` with bytes `b` is written to slot `i` (R389). -/
def State.writeErr (s : State) (i : Nat) (b : Bytes) (r : ErrRec) : State :=
  let e := { s.err with
    slots := s.err.slots.set i (fit 64 b), lastSev := r.sev
    handling := s.err.handling.filter (·.slot != i), unhandled := s.err.unhandled.filter (·.slot != i) }
  let e := e.accept s.code { r with slot := i }
  let e := if r.sev = 3 then { e with fatals := s.now :: e.fatals.take 2, fatalDue := e.fatalDue ++ [r.code] } else e
  ({ s with err := e }).raise 0 3

/-- The slot that ERR_RING_FULL is written over: the newest handled record in the ring, else the newest unhandled record of the lowest
severity present, with the flag that tells the second case (R516). -/
def Err.victim (e : Err) : Nat × Bool :=
  let slots := (ringSlots e.rd.toNat e.wr.toNat).reverse
  match slots.find? fun i => !(e.openSlots.contains i) with
  | some i => (i, false)
  | none =>
    let rs := e.unhandled ++ e.handling
    let low := minOf 3 (rs.map (·.sev))
    ((slots.find? fun i => rs.any fun r => r.slot == i && r.sev == low).getD 0, true)

/-- An error of severity `sev` is posted (R389, R514, R516, R518). -/
def State.postSev (s : State) (sev : Nat) (hw : Bool) (code kind obj : Nat) (args : List Nat) : State :=
  let e := s.err
  let related := match e.handling with | [] => 0xFFFF | h :: _ => h.seqNo
  let pre (v : Nat) := match e.handling with | [] => false | h :: _ => decide (h.sev < v)
  let mk (c v k o : Nat) (a : List Nat) := errRecord c v (pre v) hw s.code (e.nextSeq % 65536) related s.deviceTime k o a
  let s1 := { s with err := { e with nextSeq := e.nextSeq + 1 } }
  let next := e.wr + 1
  if next != e.rd then
    let t := s1.writeErr e.wr.toNat (mk code sev kind obj args) ⟨0, e.nextSeq % 65536, code, sev⟩
    { t with err := { t.err with wr := next } }
  else if !(e.openSlots.contains e.rd.toNat) then
    let t := s1.writeErr e.wr.toNat (mk code sev kind obj args) ⟨0, e.nextSeq % 65536, code, sev⟩
    { t.mark keyErrOvf with err := { t.err with wr := next, rd := e.rd + 1, ovf := true } }
  else if sev = 0 then { s1 with err := { s1.err with discarded := s1.err.discarded + 1 } }
  else
    let v := e.victim
    let t := s1.writeErr v.1 (mk 0x1008 3 0 0 [code]) ⟨0, e.nextSeq % 65536, 0x1008, 3⟩
    { t.mark keyErrOvf with err := { t.err with ovf := true, discarded := t.err.discarded + b2n v.2 } }

/-- An error is posted with the severity that R519 gives its code. -/
def State.postAs (s : State) (hw : Bool) (code kind obj : Nat) (args : List Nat) : State := s.postSev (sevOf code) hw code kind obj args

/-- A record of an event before the reset is written at boot: HW set, not handled, no transition (R517, R529). -/
def State.postBoot (s : State) (code kind obj : Nat) (args : List Nat) : State :=
  let e := s.err
  let b := errRecord code (sevOf code) false true s.code (e.nextSeq % 65536) 0xFFFF s.deviceTime kind obj args
  ({ s with err := { e with slots := e.slots.set e.wr.toNat (fit 64 b), lastSev := sevOf code, wr := e.wr + 1, nextSeq := e.nextSeq + 1 } }).raise 0 3

/-- An error is posted by the firmware. -/
def State.post (s : State) (code kind obj : Nat) (args : List Nat := []) : State := s.postAs false code kind obj args

/-- An error is posted by a hardware path (the HW bit of R518). -/
def State.postHw (s : State) (code kind obj : Nat) (args : List Nat := []) : State := s.postAs true code kind obj args

/-- One integrity fault of kind `k`, the row of R512's table, is counted (R511). -/
def State.integrityFault (s : State) (k : Nat) : State := { s with err := { s.err with integrity := s.err.integrity.upd k (· + 1) } }

end Sys2Proof.Machine
end

