-- ==== Sys2Proof/Machine/ConfigSpace.lean ====
section
/-! DEFINITION. What the configuration space of the two functions reads (R6, R7, R328 to R330, R333). R333 gives the header and R329 the list of features; the layout of
the registers is that of the PCI Express Base Specification 4.0, which R329 names, and the places of the capability structures are the model's (log 62). -/

namespace Sys2Proof.Machine

/-- Device ID of function `fn` (R7). -/
def deviceId (fn : Nat) : Nat := if fn = 0 then 0x5120 else 0x5121

/-- Address bits of BAR pair `i` of function `fn` that the host may write: 4 MB and 64 MB on PF0, 1 MB on PF1; 0 where the pair is not implemented (R333). -/
def barBits (fn i : Nat) : Nat :=
  if fn = 0 then (if i = 0 then 2 ^ 64 - 2 ^ 22 else 2 ^ 64 - 2 ^ 26) else if i = 0 then 2 ^ 64 - 2 ^ 20 else 0

/-- BAR pair `i` as it reads: a 64-bit, non-prefetchable memory BAR, or 0 where it is not implemented (R333). -/
def Fn.bar (f : Fn) (fn i : Nat) : Nat := if barBits fn i = 0 then 0 else (f.bars.getD i 0).toNat + 4

/-- Code of a payload or request size: 0 for 128 bytes, 1 for 256, and so on. -/
def sizeCode (n : Nat) : Nat := Nat.log2 (n / 128)

/-- The configuration header (R6, R7, R330, R333): BIST, the I/O and expansion ROM registers and Interrupt Pin read 0. -/
def State.cfgHeader (s : State) (fn ofs : Nat) : Nat :=
  let f := s.func fn
  match ofs with
  | 0x00 => pack [(0, Config.vendorId.toNat), (16, deviceId fn)]
  | 0x04 => pack [(0, f.cmd.toNat ||| 4 * b2n f.bme), (20, 1)]
  | 0x08 => pack [(0, s.ident.stepping.toNat), (8, 0x118000)]
  | 0x0C => if fn = 0 then 0x800000 else 0
  | 0x10 => f.bar fn 0 % 2 ^ 32
  | 0x14 => f.bar fn 0 / 2 ^ 32
  | 0x18 => f.bar fn 1 % 2 ^ 32
  | 0x1C => f.bar fn 1 / 2 ^ 32
  | 0x2C => match s.otp.ssvid with | some v => v.toNat | none => 0
  | 0x34 => 0x40
  | 0x3C => f.intLine.toNat
  | _ => 0

/-- The capabilities within the first 256 bytes: Power Management with D0 and D3hot and no PME, PCI Express, MSI-X with 64 entries (R329, R330, R332, R333). The
fields of every feature that R330 lists read as absent. -/
def State.cfgCaps (s : State) (fn ofs : Nat) : Nat :=
  let f := s.func fn
  match ofs with
  | 0x40 => 0x00035001
  | 0x44 => pack [(0, if f.d3 then 3 else 0), (3, 1)]
  | 0x50 => 0x0002B010
  | 0x54 => pack [(0, 2), (5, 1), (15, 1), (28, 1)]
  | 0x58 => pack [(0, f.errEn.toNat), (5, sizeCode f.mps), (8, b2n f.extTag), (12, sizeCode f.mrrs)]
  | 0x5C => pack [(0, 4), (4, 8), (22, 1)]
  | 0x60 => pack [(0, f.linkCtl.toNat), (16, s.link.gen), (20, s.link.width)]
  | 0x7C => 0x1E
  | 0x80 => 4
  | 0xB0 => pack [(0, 0x11), (16, 63), (30, b2n f.msixMask), (31, b2n f.msixEn)]
  | 0xB4 => if fn = 0 then 0x20000 else 0x80000
  | 0xB8 => if fn = 0 then 0x21000 else 0x81000
  | _ => 0

/-- The extended capabilities: Advanced Error Reporting with ECRC, Device Serial Number (R5), and on PF0, which carries the link's registers, Secondary PCI Express,
Physical Layer 16.0 GT/s and Lane Margining at the Receiver (R329). -/
def State.cfgExt (s : State) (fn ofs : Nat) : Nat :=
  let f := s.func fn
  match ofs with
  | 0x100 => 0x14820001
  | 0x108 => f.aerUMask.toNat
  | 0x10C => f.aerUSev.toNat
  | 0x114 => f.aerCMask.toNat
  | 0x118 => pack [(5, 1), (6, b2n f.ecrcGen), (7, 1), (8, b2n f.ecrcChk)]
  | 0x148 => pack [(0, 3), (16, 1), (20, if fn = 0 then 0x158 else 0)]
  | 0x14C => s.ident.serial.toNat % 2 ^ 32
  | 0x150 => s.ident.serial.toNat / 2 ^ 32
  | 0x158 => if fn = 0 then 0x17810019 else 0
  | 0x178 => if fn = 0 then 0x1A010026 else 0
  | 0x1A0 => if fn = 0 then 0x00010027 else 0
  | _ => 0

/-- The word at an offset of the configuration space of function `fn`. -/
def State.cfgWord (s : State) (fn ofs : Nat) : Nat :=
  if ofs < 0x40 then s.cfgHeader fn ofs else if ofs < 0x100 then s.cfgCaps fn ofs else s.cfgExt fn ofs

end Sys2Proof.Machine
end

