-- ==== Sys2Proof/Machine/Baler.lean ====
section
/-! DEFINITION. The Baler's block code: greedy coder and decoder (R442 to R444 of 13_silo_baler_recording). -/

namespace Sys2Proof.Machine

/-! The decoder of R442. -/

/-- A decoder's position in a coded block: bits not yet read, as a number, how many there are, and the bytes decoded so far, last first. -/
structure Unpack where
  /-- bits not yet read, the next in bit 0 -/
  rest : Nat
  /-- how many bits are left of the block -/
  left : Nat
  /-- decoded bytes, last first -/
  done : Bytes
  /-- how many bytes are decoded -/
  pos : Nat

/-- The next `n` bits, if the block still holds them. -/
def Unpack.getBits (u : Unpack) (n : Nat) : Option (Nat × Unpack) :=
  if u.left < n then none else some (u.rest % 2 ^ n, { u with rest := u.rest / 2 ^ n, left := u.left - n })

/-- `n` bytes copied from `d` back, one at a time, so that the copy may overlap itself. -/
def copyBack (d : Nat) : Nat → Bytes → Bytes
  | 0, l => l
  | n + 1, l => copyBack d n (l.getD (d - 1) 0 :: l)

/-- One literal or match (R442); none when the block is invalid. -/
def Unpack.token (u : Unpack) : Option Unpack :=
  (u.getBits 1).bind fun x =>
    if x.1 = 0 then (x.2.getBits 8).map fun y => { y.2 with done := BitVec.ofNat 8 y.1 :: y.2.done, pos := y.2.pos + 1 }
    else (x.2.getBits 9).bind fun d => (d.2.getBits 4).bind fun l =>
      let n := l.1 + 3
      if d.1 = 0 || d.1 > u.pos || u.pos + n > 512 then none
      else some { l.2 with done := copyBack d.1 n l.2.done, pos := u.pos + n }

/-- Tokens until 512 bytes are decoded. -/
def unpackLoop : Nat → Unpack → Option Unpack
  | 0, u => some u
  | fuel + 1, u => if u.pos ≥ 512 then some u else u.token.bind (unpackLoop fuel)

/-- The 512 bytes that a coded block decodes to, or none when it is invalid (R442). -/
def decodeBlock (b : Bytes) : Option Bytes :=
  (unpackLoop 512 ⟨leVal b, 8 * b.length, [], 0⟩).bind fun u => if u.pos = 512 && u.rest = 0 then some u.done.reverse else none

/-! The coder of R443. -/

/-- How many of the first `n` bytes of two strings agree. -/
def agree : Nat → Bytes → Bytes → Nat
  | 0, _, _ => 0
  | n + 1, a :: as, b :: bs => if a = b then agree n as bs + 1 else 0
  | _, _, _ => 0

/-- The best match of `rest` among the distances left: `past` is what lies further back, nearest first, `near` the bytes within distance `d`,
oldest first; the nearest of the longest wins (R443). -/
def bestMatch (rest : Bytes) : Bytes → Bytes → Nat → Nat × Nat → Nat × Nat
  | [], _, _, best => best
  | b :: past, near, d, best =>
    let near := b :: near
    let n := agree 18 rest (near ++ rest)
    bestMatch rest past near (d + 1) (if n > best.1 then (n, d + 1) else best)

/-- The coded bits of `rest` after `past` (nearest first), as tokens of (value, width) in order (R443). -/
def codeTokens : Nat → Bytes → Bytes → List (Nat × Nat)
  | 0, _, _ => []
  | _, _, [] => []
  | fuel + 1, past, b :: rest =>
    let m := bestMatch (b :: rest) (past.take 511) [] 0 (0, 0)
    if m.1 ≥ 3 then
      (pack [(0, 1), (1, m.2), (10, m.1 - 3)], 14) :: codeTokens fuel (((b :: rest).take m.1).reverse ++ past) ((b :: rest).drop m.1)
    else (pack [(1, b.toNat)], 9) :: codeTokens fuel (b :: past) rest

/-- Tokens packed from bit 0 upward. -/
def packTokens : List (Nat × Nat) → Nat
  | [] => 0
  | (v, w) :: rest => v + 2 ^ w * packTokens rest

/-- A 512-byte block coded to `r` bytes, or none when it does not fit (NOSHRINK, R443). -/
def encodeBlock (r : Nat) (b : Bytes) : Option Bytes :=
  let t := codeTokens 512 [] (fit 512 b)
  if (t.map (·.2)).sum > 8 * r then none else some (le r (packTokens t))

/-- A block of the recording input at REC_RATIO: its code of R452 (1 = 128 B, 2 = 256 B, 3 = 512 B) and its stored bytes (R451). -/
def storeBlock (ratio : Nat) (b : Bytes) : Nat × Bytes :=
  match (if ratio = 2 then encodeBlock 128 b else none) with
  | some c => (1, c)
  | none => match encodeBlock 256 b with
    | some c => (2, c)
    | none => (3, fit 512 b)

/-- 2-bit codes packed four to a byte, the first lowest (R452). -/
def packCodes : List Nat → Bytes
  | a :: b :: c :: d :: rest => BitVec.ofNat 8 (a + 4 * b + 16 * c + 64 * d) :: packCodes rest
  | [] => []
  | l => [BitVec.ofNat 8 (l.getD 0 0 + 4 * l.getD 1 0 + 16 * l.getD 2 0)]

/-- A chunk: two header LBAs and the data LBAs, with its CRC (R452). -/
def chunkBytes (dev seqNo : Nat) (codes : List Nat) (data : Bytes) (first time : Nat) : Bytes :=
  let lbas := ceilDiv data.length 4096
  let a := le 4 0x4B48434A ++ le 2 dev ++ le 2 lbas ++ le 8 seqNo ++ le 2 codes.length ++ le 2 first
  let b := le 8 time ++ fit (8192 - 32) (packCodes codes)
  let d := fit (4096 * lbas) data
  a ++ le 4 (crc32c (a ++ le 4 0 ++ b ++ d)).toNat ++ b ++ d

/-- The CRC of a received chunk holds (R452, R453). -/
def chunkOk (c : Bytes) : Bool := num c 0x14 4 == (crc32c (c.take 0x14 ++ le 4 0 ++ c.drop 0x18)).toNat
/-- Length of a chunk from its header (R452). -/
def chunkLen (c : Bytes) : Nat := 4096 * (2 + num c 6 2)

end Sys2Proof.Machine
end

