-- ==== Sys2Proof/Machine/Records.lean ====
section
/-! DEFINITION. The bytes of every output record (09_record_formats, R297 to R323). -/

namespace Sys2Proof.Machine

/-- A whole record: the common header of R298 with the CRC of R300, then `body`, a multiple of 16 bytes. -/
def mkRecord (type dev : Nat) (time : Nat) (body : Bytes) : Bytes :=
  let w0 := le 4 (pack [(0, type), (4, (16 + body.length) / 16), (16, dev)])
  let rest := le 8 time ++ body
  w0 ++ le 4 (crc32c (w0 ++ rest)).toNat ++ rest

/-- TYPE of a record (R298). -/
def recType (r : Bytes) : Nat := byteAt r 0 % 16
/-- DEV of a record (R298). -/
def recDev (r : Bytes) : Nat := num r 2 2
/-- TIME of a record (R298). -/
def recTime (r : Bytes) : Nat := num r 8 8
/-- Whether a record's CRC holds (R300). -/
def recOk (r : Bytes) : Bool := num r 4 4 == (crc32c (r.take 4 ++ r.drop 8)).toNat

/-- A record whose fields have changed, with the CRC that they ask for (R300). -/
def reseal (r : Bytes) : Bytes := r.take 4 ++ le 4 (crc32c (r.take 4 ++ r.drop 8)).toNat ++ r.drop 8

/-- A flag set on a sheaf. -/
def Sheaf.flag (h : Sheaf) (b : Nat) : Sheaf := { h with flags := h.flags ||| BitVec.ofNat 32 (2 ^ b) }
/-- A flag on a channel-sheaf; where its record is formed and waits for t_win, on the record too, which keeps a valid CRC (R300, R304). -/
def Sheaf.flagNow (h : Sheaf) (b : Nat) : Sheaf :=
  let h := h.flag b
  if h.ph == .ready then { h with record := reseal (splice h.record 0x28 (le 4 h.flags.toNat)) } else h

/-- The channel a record belongs to, where its TYPE has one (R304, R311, R315, R316, R317). -/
def recChannel (r : Bytes) : Option Nat :=
  match recType r with
  | 1 | 6 | 7 => some (fieldOf r 0x10 0 9)
  | 2 => some (fieldOf r 0x14 8 9)
  | 3 => some (fieldOf r 0x14 8 9)
  | 8 => some (fieldOf r 0x10 5 9)
  | _ => none

/-- The fields of the common and sheaf headers that a sheaf record and its dumps share (R304). -/
structure SheafHead where
  /-- channel -/
  ch : Nat := 0
  /-- string, 0 when none -/
  str : Nat := 0
  /-- no string of the map lists the channel -/
  nostr : Bool := false
  /-- Furrow direction -/
  dir : Bool := false
  /-- angle cell -/
  cell : Nat := 0
  /-- Furrow number -/
  furrow : Nat := 0
  /-- slow-axis position -/
  slowPos : Nat := 0
  /-- depth N -/
  n : Nat := 0
  /-- shots fired F -/
  fired : Nat := 0
  /-- gates mask -/
  gates : Nat := 0
  /-- reduction program -/
  prog : Nat := 0
  /-- coincidence level -/
  k : Nat := 0
  /-- range span in mm -/
  span : Nat := 0
  /-- schedule variant -/
  variant : Nat := 0
  /-- record status: 0 NORMAL, 1 NO_ILLUM, 2 STALE -/
  status : Nat := 0
  /-- ambient estimate in 10,000 events/s -/
  amb : Nat := 0
  /-- interference score -/
  score : Nat := 0
  /-- FLAGS word (R305) -/
  flags : Nat := 0
  /-- DEAD_MASK -/
  deadMask : Nat := 0

/-- Bytes 0x10 to 0x1F of a sheaf record (R304), which its dumps copy (R311). -/
def sheafFront (h : SheafHead) : Bytes :=
  le 4 (pack [(0, h.ch), (9, h.str), (14, b2n h.nostr), (15, b2n h.dir), (16, h.cell)])
  ++ le 4 h.furrow ++ le 4 h.slowPos
  ++ le 4 (pack [(0, h.n), (9, h.fired), (18, h.gates), (23, h.prog), (29, h.k)])

/-- A sheaf record (R303, R304): `ext` is the extension block or empty, `rets` the return records, `confs` the alerts confirmed. -/
def sheafRecord (dev time : Nat) (h : SheafHead) (ext : Bytes) (rets : List Bytes) (nconf : Nat) (confs : Bytes) : Bytes :=
  mkRecord 1 dev time (sheafFront h
    ++ le 4 (pack [(0, h.span), (22, rets.length), (26, h.variant), (29, b2n !ext.isEmpty), (30, h.status)])
    ++ le 4 (pack [(0, h.amb), (16, h.score), (24, nconf)])
    ++ le 4 h.flags ++ le 4 h.deadMask ++ ext ++ rets.flatten ++ confs)

/-- The extension block (R307). -/
def extBlock (rateMin rateMax ambCount pileup : Nat) : Bytes :=
  le 4 (pack [(0, rateMin), (16, rateMax)]) ++ le 4 ambCount ++ le 4 pileup ++ le 4 0

/-- A return record (R308), with its fields already in their units. -/
def returnRecord (range cls weight shots sigma rho nbar hfrac seff : Nat) : Bytes :=
  le 4 (pack [(0, range), (22, cls)]) ++ le 4 (pack [(0, weight), (16, shots)])
  ++ le 4 (pack [(0, sigma), (8, rho), (16, nbar), (24, hfrac)]) ++ le 4 seff

/-- Confirmation entries, three alerts to an entry, from (ID, return index) pairs in order of raise (R309). The RET nibble of an unused place is 0 as its ID is: DESIGN CHOICE
(log 93), R309 gives the 0 for the ID alone. -/
def confEntries : Nat → List (Nat × Nat) → Bytes
  | 0, _ => []
  | fuel + 1, l =>
    if l.isEmpty then [] else
    let three := padTo 3 (0, 0) (l.take 3)
    three.flatMap (fun p => le 4 p.1)
      ++ le 4 (pack [(0, (three.getD 0 (0, 0)).2), (4, (three.getD 1 (0, 0)).2), (8, (three.getD 2 (0, 0)).2), (12, min 3 l.length)])
      ++ confEntries fuel (l.drop 3)

/-- A coarse dump (R311, R312). -/
def coarseDump (dev time : Nat) (front : Bytes) (sat herr : Bool) (bins : List Nat) : Bytes :=
  mkRecord 6 dev time (front ++ le 4 (pack [(3, b2n sat), (4, b2n herr)]) ++ le 4 2500 ++ le 8 0
    ++ (padTo 2500 0 bins).flatMap (fun v => le 2 v) ++ le 8 0)

/-- One fine histogram of a fine dump (R313). -/
structure FineHist where
  /-- origin in 62.5 ps units -/
  origin : Nat := 0
  /-- the origin was moved by the rebuild of R210 -/
  moved : Bool := false
  /-- it was rebuilt for the dump -/
  forDump : Bool := false
  /-- a bin of it was read with an uncorrectable error -/
  bad : Bool := false
  /-- return index of the primary fine peak, 15 = not reported -/
  retA : Nat := 15
  /-- return index of the second fine peak, 15 = none or not reported -/
  retB : Nat := 15
  /-- its 128 bins -/
  bins : List Nat := []

/-- A fine dump (R311, R313). -/
def fineDump (dev time : Nat) (front : Bytes) (sat herr : Bool) (hs : List FineHist) : Bytes :=
  mkRecord 7 dev time (front ++ le 4 (pack [(0, hs.length), (3, b2n sat), (4, b2n herr)]) ++ le 4 128 ++ le 8 0
    ++ hs.flatMap fun h => le 4 (pack [(0, h.origin), (18, b2n h.moved), (19, b2n h.forDump)])
      ++ le 4 (pack [(0, h.retA), (4, h.retB)]) ++ le 8 0 ++ (padTo 128 0 h.bins).flatMap (fun v => le 2 v))

/-- An alert record (R316). -/
def alertRecord (dev time : Nat) (r : Raised) (dir : Bool) (rangeMm n q sheafT0 : Nat) : Bytes :=
  mkRecord 2 dev time (le 4 r.id.toNat
    ++ le 4 (pack [(0, r.zone), (8, r.ch), (17, r.str), (22, b2n dir)])
    ++ le 4 (pack [(0, r.cell), (16, r.weight)]) ++ le 4 r.furrow
    ++ le 4 (pack [(0, rangeMm), (22, r.count)]) ++ le 4 (pack [(0, n), (9, q)]) ++ le 8 sheafT0)

/-- A retraction record (R317). -/
def retractionRecord (dev time : Nat) (r : Raised) (reason cls rangeMm : Nat) : Bytes :=
  mkRecord 3 dev time (le 4 r.id.toNat
    ++ le 4 (pack [(0, r.zone), (8, r.ch), (17, reason), (19, cls)])
    ++ le 4 r.cell ++ le 4 r.furrow ++ le 4 rangeMm ++ le 4 0 ++ le 8 r.time.toNat)

/-- Mask of the faulted strings (R320). -/
def State.faultedMask (s : State) : Nat := maskOf 32 fun i => (s.str i).mode == .faulted
/-- Mask of the UNVERIFIED strings (R320). -/
def State.unverifiedMask (s : State) : Nat := maskOf 32 fun i => (s.str i).mode == .unverified
/-- Mask of the strings on which a guard block holds (R80, R320). -/
def State.blockedMask (s : State) : Nat := maskOf 32 fun i => (s.str i).guard.any fun w => w.release.isSome
/-- Channel `c` is dead for any cause, DISABLED included: bit `c` mod 8 of its DISABLE byte of the receiver descriptor is judged by
`Rx.disabled` and stored as cause 4 at the apply (R284). -/
def State.deadCh (s : State) (c : Nat) : Bool := (s.ch c).dead != 0
/-- 512-bit mask of the dead channels (R320). -/
def State.deadMask (s : State) : Nat :=
  (s.rx.chans.cells.filter fun p => p.1 < 512 && p.2.dead != 0).foldl (fun a p => a + 2 ^ p.1) 0
/-- Mask of the converters that are dead or disabled (R320). -/
def State.deadGwMask (s : State) : Nat := maskOf 32 fun a => (s.gw.get a).mode == .off || (s.gw.get a).mode == .dead

/-- The values whose changes a status record reports, in the order of WHY bits 0 to 4 (R322). -/
def State.statusView (s : State) : List Nat :=
  [s.dev.word.toNat, s.dev.reasons.toNat, s.deadMask + b2n (s.deadCh 512) * 2 ^ 512 + s.deadGwMask * 2 ^ 513,
   s.faultedMask + s.unverifiedMask * 2 ^ 32 + s.blockedMask * 2 ^ 64, s.hk.level + s.seq.variant * 4]

/-- A status record (R320). -/
def State.statusRecord (s : State) (why : Nat) : Bytes :=
  mkRecord 4 s.devId s.deviceTime.toNat (le 4 s.dev.word.toNat ++ le 4 s.dev.wordC.toNat ++ le 4 s.dev.reasons.toNat
    ++ le 4 (pack [(0, s.hk.level), (2, s.seq.variant), (5, s.fw.active), (6, b2n s.fw.standbyOk), (7, b2n s.pins.armEn),
        (8, b2n s.steer.locked), (16, why)])
    ++ le 4 s.faultedMask ++ le 4 s.unverifiedMask ++ le 4 s.blockedMask ++ le 4 s.deadGwMask ++ le 64 s.deadMask
    ++ le 4 (pack [(0, b2n (s.deadCh 512)), (16, s.seq.planEpoch)]) ++ le 4 (s.thresh.outstanding.length % 65536)
    ++ le 4 s.seq.furrow ++ le 4 0)

/-- The alerts left unresolved when the hardware safe state closes the stream, oldest first: those outstanding, and those whose retraction has not been written (R193, R197,
R325). -/
def State.unresolved (s : State) : List Raised :=
  sortBy (fun a b => decide (a.time.toNat < b.time.toNat)) (s.thresh.retracting ++ s.thresh.outstanding)

/-- A final record for a ring that has received `records` records (R323). -/
def State.finalRecord (s : State) (path records : Nat) : Bytes :=
  let opens := s.unresolved.length
  mkRecord 5 s.devId s.deviceTime.toNat (le 4 s.dev.word.toNat ++ le 4 s.dev.wordC.toNat ++ le 4 path
    ++ le 4 (if path = 2 then pack [(0, opens % 65536), (16, (s.unresolved.head?.map fun r => r.id.toNat % 65536).getD 0)] else 0)
    ++ le 4 s.stream.sheavesLost ++ le 4 (min 65535 s.stream.capsLost) ++ le 4 records ++ le 4 0)

end Sys2Proof.Machine
end

