-- ==== Sys2Proof/Machine/Hold.lean ====
section
/-! DEFINITION. The Silo's regions: fills, watermarks, and how room is made (R424, R435 to R441 of 13_silo_baler_recording). -/

namespace Sys2Proof.Machine

/-- Total length of a list of records. -/
def bytesIn (l : List Bytes) : Nat := (l.map List.length).sum

/-- ROLE of the active Drover descriptor: 0 NONE, 1 ROOT, 2 MEMBER; 0 while none is active (R430). -/
def State.role (s : State) : Nat := s.pf 10 0x08 16 2
/-- PROLE of port `p`: 0 OFF, 1 UP, 2 DOWN, 3 RING_PRI, 4 RING_SEC (R430). -/
def State.prole (s : State) (p : Nat) : Nat := s.pf 10 (0x40 + 16 * p) 0 3
/-- The ports whose role is not OFF. -/
def State.usedPorts (s : State) : List Nat := (List.range 4).filter fun p => s.prole p != 0
/-- The member's upward port: its UP port, else the ring port it uses toward the root (R414, R426). -/
def State.upPort (s : State) : Option Nat :=
  let want := if s.drover.upSec then 4 else 3
  match (List.range 4).find? fun p => s.prole p == 1 with
  | some p => some p
  | none => (List.range 4).find? fun p => s.prole p == want
/-- The device belongs to a Drover domain: it is the root, or a member that is JOINED or in HOLDOVER (R415). -/
def State.belongs (s : State) : Bool :=
  s.role == 1 || (s.role == 2 && (s.drover.join == .joined || s.drover.join == .holdover))

/-- Class of a record or MIRROR chunk on the Drover link (R410); a chunk starts with "J" of its MAGIC. -/
def droverClass (r : Bytes) : Nat :=
  match recType r with
  | 2 | 3 => 1
  | 4 | 5 => 3
  | 1 => 4
  | 6 | 7 => 6
  | 8 => 7
  | _ => 5

/-- Size in bytes of a watched region: 0 STREAM, 1 to 4 the share of DROVER of port `w` - 1, 5 RECORD (R438, R440). -/
def State.regionSize (s : State) (w : Nat) : Nat :=
  if w = 0 then s.silo.regions.getD 2 0
  else if w = 5 then s.silo.regions.getD 4 0
  else s.silo.regions.getD 3 0 / max 1 s.usedPorts.length

/-- The records held for the stream rings, each counted once whatever rings it waits for (R439), with those alert records beyond three
quarters of the alert share (R435). -/
def State.streamHeld (s : State) : List Bytes :=
  ((List.range 32).flatMap fun r => let q := s.srings.get r; q.batch ++ q.held ++ q.heldAlerts).eraseDups ++ s.thresh.alertQ.drop 8192

/-- Bytes held in a watched region. -/
def State.regionFill (s : State) (w : Nat) : Nat :=
  if w = 0 then bytesIn s.streamHeld
  else if w = 5 then bytesIn s.recd.pend + s.recd.chunk.data.length + s.recd.input.length + bytesIn s.recd.mirQ
  else bytesIn (s.port (w - 1)).spill

/-- A watermark level with its 10-point hysteresis (R440). -/
def wmNext (was : Bool) (fill size pct : Nat) : Bool :=
  if fill * 100 ≥ pct * size then true
  else if fill * 100 + 10 * size < pct * size then false else was

/-- The watermark levels of region `w` follow its fill (R440); WM_WAVE and WM_DUMP stand at 0x1C of the Silo descriptor (R464). -/
def State.updWm (s : State) (w : Nat) : State :=
  let fill := s.regionFill w
  let size := s.regionSize w
  { s with silo := { s.silo with
      wmWave := updAt s.silo.wmWave w fun b => wmNext b fill size (s.pf 9 0x1C 0 8)
      wmDump := updAt s.silo.wmDump w fun b => wmNext b fill size (s.pf 9 0x1C 8 8) } }

/-- Whether the watermarks of region `w` keep a new record of class `c` out (R440). -/
def State.wmBars (s : State) (w : Nat) (c : Nat) : Bool :=
  (c == 7 && s.silo.wmWave.getD w false) || ((c == 5 || c == 6) && s.silo.wmDump.getD w false)

/-- Rank in the order of discarding of R441, `none` for a record that is never discarded alone. -/
def discardRank (r : Bytes) : Option Nat :=
  match droverClass r with
  | 7 => some 0
  | 6 | 5 => some 1
  | 4 => if byteAt r 0x27 = 0 then some 2 else none
  | 3 => if recType r = 4 && fieldOf r 0x1C 16 7 = 32 then some 3 else none
  | _ => none

/-- The alert of `l` that is first in order and whose retraction is held too (R441). -/
def alertPair (l : List Bytes) : Option Bytes :=
  l.find? fun a => recType a == 2 && l.any fun b => recType b == 3 && num b 0x10 4 == num a 0x10 4

/-- What R441 discards next from a list of held records, oldest first: one record, or an alert with its retraction. -/
def nextDiscard (l : List Bytes) : List Bytes :=
  let ranked := l.filterMap fun r => (discardRank r).map fun k => (k, r)
  let low := ranked.foldl (fun a p => min a p.1) 9
  match ranked.find? fun p => p.1 == low with
  | some p => [p.2]
  | none =>
    match alertPair l with
    | some a => l.filter fun b => (recType b == 2 || recType b == 3) && num b 0x10 4 == num a 0x10 4
    | none => []

/-- `l` with room made for `n` more bytes in `size`: the list, and what was discarded, or `none` when no room can be made (R441). -/
def makeRoom (size n : Nat) : Nat → List Bytes → List Bytes → Option (List Bytes × List Bytes)
  | 0, _, _ => none
  | fuel + 1, l, gone =>
    if bytesIn l + n ≤ size then some (l, gone)
    else
      let d := nextDiscard l
      if d.isEmpty then none else makeRoom size n fuel (l.filter fun r => !(d.contains r)) (gone ++ d)

/-- Records counted as not stored or discarded (R440). -/
def State.countLost (s : State) (n : Nat) : State := { s with silo := { s.silo with notStored := s.silo.notStored + n } }

/-- The stream ring with the most bytes held among those of `l` that hold something R441 discards. -/
def State.fullestRing (s : State) (l : List Nat) : Option Nat :=
  let c := (l.map fun r => (r, s.srings.get r)).filter fun p => !((nextDiscard (p.2.heldAlerts ++ p.2.held)).isEmpty)
  (c.foldl (fun (b : Option (Nat × Nat)) p =>
    let n := bytesIn p.2.held + bytesIn p.2.heldAlerts
    match b with
    | none => some (p.1, n)
    | some (q, m) => if n > m then some (p.1, n) else some (q, m)) none).map (·.1)

/-- HELD_DROP of ring `r` is set (R346, R441). -/
def State.dropMark (s : State) (r : Nat) : State := (s.mapRing r fun q => { q with heldDrop := true }).mark (keyHeldDrop r)

/-- Room for `n` bytes in STREAM, taken from the fullest rings (R441); the flag tells whether there is room. -/
def State.streamRoom (n : Nat) : Nat → State → State × Bool
  | 0, s => (s, false)
  | fuel + 1, s =>
    if s.regionFill 0 + n ≤ s.regionSize 0 then (s, true)
    else match s.fullestRing (List.range 32) with
      | none => (s, false)
      | some r =>
        let q := s.srings.get r
        let d := nextDiscard (q.heldAlerts ++ q.held)
        State.streamRoom n fuel
          (((s.mapRing r fun q => { q with held := q.held.filter fun b => !(d.contains b),
                                           heldAlerts := q.heldAlerts.filter fun b => !(d.contains b) }).dropMark r).countLost d.length)

/-- Rank of a record in the order of service of R34. -/
def rankOf (rc : Bytes) : Nat :=
  match recType rc with | 2 => 1 | 3 => 1 | 4 => 2 | 5 => 2 | 1 => 3 | 8 => 5 | _ => 4

/-- A record joins others that wait: ahead of those of lower priority released before it, behind all others; a status or final record, and what it
waits for, keeps its place (R34, R350). -/
def insRank (rc : Bytes) : List Bytes → List Bytes
  | [] => [rc]
  | a :: rest => if rankOf rc < rankOf a && (a :: rest).all (fun b => rankOf rc < rankOf b) then rc :: a :: rest else a :: insRank rc rest

/-- The record's place among those that wait for ring `q`: by rank, but in the order of release while the ring is disabled (R34, R350). -/
def StreamRing.queue (q : StreamRing) (rc : Bytes) (l : List Bytes) : List Bytes :=
  if q.en && rankOf rc > 2 then insRank rc l else l ++ [rc]

/-- A record waits for stream ring `r` in STREAM (R351, R440, R441): kept out by a watermark, stored, or refused for want of room, which
posts NO_ROOM. -/
def State.holdFor (s : State) (r : Nat) (rc : Bytes) : State :=
  let s := s.updWm 0
  if s.wmBars 0 (droverClass rc) then (s.dropMark r).countLost 1
  else
    let room := if s.streamHeld.contains rc then (s, true)
      else State.streamRoom rc.length ((List.range 32).foldl (fun a i => a + (s.srings.get i).held.length + (s.srings.get i).heldAlerts.length) 1) s
    if room.2 then
      (room.1.mapRing r fun q => if recType rc == 2 || recType rc == 3 then { q with heldAlerts := q.heldAlerts ++ [rc] }
        else { q with held := q.queue rc q.held }).updWm 0
    else ((room.1.dropMark r).countLost 1).post 0x4008 0 0 [2]

/-- A record waits for port `p` in its share of DROVER (R424, R440, R441). -/
def State.spillTo (s : State) (p : Nat) (rc : Bytes) : State :=
  let s := s.updWm (p + 1)
  if s.wmBars (p + 1) (droverClass rc) then s.countLost 1
  else
    let l := (s.port p).spill
    match makeRoom (s.regionSize (p + 1)) rc.length (l.length + 1) l [] with
    | some (keep, gone) => ((s.mapPort p fun q => { q with spill := keep ++ [rc] }).countLost gone.length).updWm (p + 1)
    | none => (s.countLost 1).post 0x4008 0 0 [3]

/-- Bytes in the transmit queue of a port, the rest of a record being sent included (R424). -/
def Port.queued (q : Port) : Nat := (List.range 8).foldl (fun a c => a + bytesIn (q.txq.get c) + (q.part.get c).length) 0

/-- The queue's stay above 75 % and below 25 % is marked from now on (R424). -/
def Port.mark (now : Nat) (q : Port) : Port :=
  { q with hiSince := if q.queued * 4 > 196608 then some (q.hiSince.getD now) else none
           loSince := if q.queued * 4 < 65536 then some (q.loSince.getD now) else none }

/-- Level from which a class is shed (R424); 9 for a class that never is. -/
def shedFrom (c : Nat) : Nat := if c = 7 then 1 else if c = 6 then 2 else if c = 5 then 3 else 9

/-- A record or chunk enters the transmit queue of port `p`, is shed, or waits in the port's share of DROVER (R424, R425, R435). -/
def State.sendOn (s : State) (p : Nat) (rc : Bytes) : State :=
  let q := s.port p
  let c := droverClass rc
  if q.shed ≥ shedFrom c then s.count (352 + 8 * p + 6) 1
  else if q.st == .down || q.st == .training || !q.spill.isEmpty || q.queued + rc.length > 65536 then s.spillTo p rc
  else s.mapPort p fun q => ({ q with txq := q.txq.upd c (· ++ [rc]) } : Port).mark s.now

/-- A record of this device, or one it relays, goes toward the root (R414). -/
def State.sendUp (s : State) (rc : Bytes) : State :=
  match s.upPort with
  | some p => s.sendOn p rc
  | none => s

/-- Bit of CLASS_EN that lets a member send its own records of a class (R430). -/
def classEnBit (c : Nat) : Nat := match c with | 4 => 0 | 3 => 1 | 6 => 2 | 7 => 3 | _ => 4

/-- An own record, other than an alert or retraction, goes to the Drover link where CLASS_EN sends its class (R414, R415, R430). -/
def State.ownUp (s : State) (rc : Bytes) : State :=
  if s.role == 2 && s.belongs && bit (s.pf 10 0x18 0 5) (classEnBit (droverClass rc)) then s.sendUp rc else s

/-- Whether recording selects a record (R457, R463): recording runs to the drive or MIRROR is on, its TYPE and channel block are selected. -/
def State.recSelects (s : State) (rc : Bytes) : Bool :=
  let dest := s.pf 8 0x0C 8 2
  (((dest % 2 == 1) && s.recd.st == .running) || (dest / 2 == 1 && s.belongs))
    && bit (s.pf 8 0x0C 0 8) (recType rc - 1)
    && (match recChannel rc with | none => true | some c => bit (num (s.part 8) 0x10 4) (c / 16))

/-- A selected record enters RECORD, or falls into a gap (R440, R456, R457). -/
def State.recEnter (s : State) (rc : Bytes) : State :=
  if !s.recSelects rc then s else
  let s := s.updWm 5
  let size := s.regionSize 5
  let fill := s.regionFill 5
  let gapOver := s.recd.inGap && fill * 100 + 10 * size < s.pf 9 0x1C 0 8 * size
  let s := if gapOver then { s with recd := { s.recd with inGap := false } } else s
  if s.wmBars 5 (droverClass rc) then s.countLost 1
  else if s.recd.inGap || fill + rc.length > size then
    { s with recd := { s.recd with
        inGap := true, gapped := s.recd.gapped + 1
        gaps := if s.recd.inGap then s.recd.gaps else s.recd.gaps + 1
        gapTotal := if s.recd.inGap then s.recd.gapTotal else s.recd.gapTotal + 1 } }
  else ({ s with recd := { s.recd with pend := s.recd.pend ++ [rc] } }).updWm 5

end Sys2Proof.Machine
end

