-- ==== Sys2Proof/Machine/RecPipe.lean ====
section
/-! DEFINITION. The recording pipeline: from RECORD through blocks and chunks to the drive and the journal (R450 to R457, R461 of
13_silo_baler_recording). -/

namespace Sys2Proof.Machine

/-- First LBA of the data area (R450). -/
def dataStart : Nat := 4098
/-- LBAs of the data area. -/
def Rec.dataLbas (q : Rec) : Nat := q.nsLbas - dataStart
/-- REC_WRAP of the active output descriptor. -/
def State.recWrap (s : State) : Bool := s.pf 8 0x0C 12 1 == 1
/-- Recording writes to the drive (R460): the sequencer runs, or carries out its last commit. -/
def State.recLocal (s : State) : Bool := s.pf 8 0x0C 8 1 == 1 && (s.recd.st == .running || s.recd.st == .stopping || s.recd.st == .full)

/-- LBAs left before the end of the data area. -/
def Rec.remaining (q : Rec) : Nat := q.nsLbas - q.nextLba
/-- LBAs free before the oldest extent that is not overwritten (R461). -/
def Rec.freeLbas (q : Rec) : Nat :=
  if q.extents.isEmpty && q.oldest = q.nextLba then q.dataLbas else (q.oldest + q.dataLbas - q.nextLba) % max 1 q.dataLbas

/-- Extents that `n` more LBAs would overwrite are given up, oldest first (R454, R461). -/
def Rec.overwrite : Nat → Nat → Rec → Rec
  | 0, _, q => q
  | fuel + 1, n, q =>
    if q.freeLbas ≥ n then q
    else match q.extents with
      | [] => q
      | _ :: rest => Rec.overwrite fuel n { q with extents := rest, oldest := rest.headD q.extLba }

/-- The write commands that carry `b` from `lba`, none longer than 128 KB or across the end of the data area (R448, R450). -/
def cutWrites (dlast : Nat) : Nat → Nat → Bytes → List (Nat × Bytes)
  | 0, _, _ => []
  | fuel + 1, lba, b =>
    if b.isEmpty then [] else
    let lba := if lba ≥ dlast then dataStart else lba
    let n := min 32 (dlast - lba) * 4096
    (lba, b.take n) :: cutWrites dlast fuel (lba + n / 4096) (b.drop n)

/-- A command goes to the drive and is outstanding (R455). -/
def State.issueNvme (s : State) (kind lba : Nat) (b : Bytes) : State :=
  let t := s.emit .nvme kind lba b
  { t with recd := { t.recd with writes := t.recd.writes + 1, outst := t.recd.outst ++ [(kind, lba, b)] } }

/-- A chunk is written to the drive at NEXT_LBA (R450, R455, R461). -/
def State.writeChunk (s : State) (c : Bytes) : State :=
  let n := c.length / 4096
  let q := s.recd
  let q := if s.recWrap then Rec.overwrite q.extents.length n q else q
  let l := cutWrites q.nsLbas (n + 1) q.nextLba c
  let s := l.foldl (fun t x => t.issueNvme 0 x.1 x.2) s
  let past := q.nextLba + n
  let next := if past ≥ q.nsLbas && s.recWrap then past - q.dataLbas else past
  { s with recd := { q with
      nextLba := next, wraps := q.wraps + b2n (past ≥ q.nsLbas && s.recWrap), writes := s.recd.writes, outst := s.recd.outst
      chunks := q.chunks + 1, extBytes := q.extBytes + (c.length - 8192), bytesOut := q.bytesOut + c.length } }

/-- The commit record of the open extent, one LBA (R454). -/
def State.commitRecord (s : State) : Bytes :=
  let q := s.recd
  let b := le 4 0x544D434A ++ le 2 1 ++ le 1 q.reason ++ le 1 0 ++ le 8 q.commitSeq ++ le 8 q.extLba ++ le 8 q.nextLba ++ le 8 q.oldest
    ++ le 4 q.chunks ++ le 4 q.wraps ++ le 8 q.bytesInExt ++ le 8 ((q.tFirst.map (·.toNat)).getD 0) ++ le 8 q.tLast.toNat ++ le 4 q.gaps ++ le 4 q.gapped
  let b := fit 0x7C b
  fit 4096 (b ++ le 4 (crc32c b).toNat)

/-- The commit goes on once nothing is outstanding: Flush on a drive with a volatile write cache, then the commit record with FUA (R455). -/
def State.commitNext (s : State) : State :=
  if s.recd.writes != 0 then s
  else
    let record (t : State) : State :=
      { t with recd := { t.recd with phase := .record } }.issueNvme 1 (2 + t.recd.commitSeq % 4096) t.commitRecord
    match s.recd.phase with
    | .writes =>
      if s.recd.vwc then { s with recd := { s.recd with phase := .flush } }.issueNvme 2 0 []
      else record s
    | .flush => record s
    | _ => s

/-- The chunk being formed is closed: it goes to the drive, to the root as MIRROR data, or both (R452, R453, R463). -/
def State.closeChunk (s : State) : State :=
  let k := s.recd.chunk
  if k.sizes.isEmpty then s
  else
    let dev := s.devId
    let c := chunkBytes dev (s.recd.chunkSeq.get dev) k.sizes k.data k.first k.time.toNat
    let s := { s with recd := { s.recd with chunk := {}, chunkSeq := s.recd.chunkSeq.upd dev fun v => (v + 1) % 2 ^ 64 } }
    let s := if s.recLocal then s.writeChunk c else s
    if s.pf 8 0x0C 9 1 = 1 then s.ownUp c else s

/-- Data LBAs that the chunk being formed may take (R450, R452). -/
def State.chunkCap (s : State) : Nat := if !s.recLocal || s.recWrap then 1022 else min 1022 (s.recd.remaining - 2)
/-- A chunk may be closed now: nothing of the drive's is outstanding. -/
def State.recClear (s : State) : Bool := !s.recLocal || (s.recd.phase == .none && s.recd.writes == 0)

/-- One coded block joins the chunk being formed (R451, R452). -/
def State.addBlock (s : State) (x : Nat × Bytes) : State :=
  let q := s.recd
  let off := q.chunk.sizes.length * 512
  let first := q.starts.find? fun p => decide (p.1 < 512)
  let k := q.chunk
  let k := match (if k.first = 0xFFFF then first else none) with
    | some p => { k with first := (off + p.1) / 16, time := BitVec.ofNat 64 p.2 }
    | none => k
  { s with recd := { q with
      chunk := { k with sizes := k.sizes ++ [x.1], data := k.data ++ x.2 }
      starts := (q.starts.filter fun p => decide (p.1 ≥ 512)).map fun p => (p.1 - 512, p.2)
      input := q.input.drop 512, bytesInExt := q.bytesInExt + 512, bytesIn := q.bytesIn + 512
      blocks := updAt q.blocks (x.1 - 1) (· + 1) } }

/-- A commit starts: the last block is padded, the chunk closed (R451, R455). -/
def State.startCommit (s : State) (reason : Nat) : State :=
  let ratio := s.pf 8 0x0C 10 2
  let s := if s.recd.input.isEmpty then s
    else
      let x := storeBlock ratio (fit 512 s.recd.input)
      let s := if s.recd.chunk.data.length + x.2.length > s.chunkCap * 4096 || s.recd.chunk.sizes.length ≥ 32640 then s.closeChunk else s
      s.addBlock x
  let s := s.closeChunk
  let s := { s with recd := { s.recd with phase := .writes, reason := reason, input := [], starts := [] } }
  s.commitNext

/-- What a closed chunk leads to: the data area is full (R461), or 64 MB have been written since the last commit (R455). -/
def State.afterChunk (s : State) : State :=
  if !(s.recd.st == .running) || !s.recLocal || s.recd.phase != .none then s
  else if !s.recWrap && s.recd.remaining < 3 then
    (({ s with recd := { s.recd with st := .full } }).post 0x5006 0 0).startCommit 0
  else if s.recd.extBytes ≥ 67108864 then s.startCommit 0
  else s

/-- The next step of the pipeline: a MIRROR chunk that waits, a full chunk, a block, or the next record from RECORD (R451, R452, R453). -/
def State.recStep (s : State) : Option State :=
  let q := s.recd
  match (if s.recClear && q.st == .running then q.mirQ else []) with
  | c :: rest =>
    let s := { s with recd := { q with mirQ := rest, bytesInExt := q.bytesInExt + 512 * num c 0x10 2
                                       tFirst := if q.tFirst.isNone && num c 0x18 8 != 0 then some (BitVec.ofNat 64 (num c 0x18 8)) else q.tFirst } }
    some ((s.writeChunk c).afterChunk)
  | [] =>
    if q.input.length ≥ 512 then
      let x := storeBlock (s.pf 8 0x0C 10 2) (q.input.take 512)
      if q.chunk.data.length + x.2.length > s.chunkCap * 4096 || q.chunk.sizes.length ≥ 32640 then
        if s.recClear then some (s.closeChunk.afterChunk) else none
      else some (s.addBlock x)
    else match q.pend with
      | [] => none
      | r :: rest =>
        some { s with recd := { q with
          pend := rest, starts := q.starts ++ [(q.input.length, recTime r)], input := q.input ++ r
          tFirst := if q.tFirst.isNone then some (BitVec.ofNat 64 (recTime r)) else q.tFirst, tLast := BitVec.ofNat 64 (recTime r) } }

/-- The pipeline runs until it must wait. -/
def State.recLoop : Nat → State → State
  | 0, s => s
  | fuel + 1, s => match s.recStep with
    | some t => State.recLoop fuel t
    | none => s

/-- The recording pipeline takes what RECORD holds (R451, R457): while the sequencer runs, or for MIRROR data alone. -/
def State.recPump (s : State) : State :=
  if s.recd.st == .running || (s.pf 8 0x0C 8 2 == 2 && s.belongs) then
    (State.recLoop (s.recd.pend.length + bytesIn s.recd.pend / 256 + s.recd.mirQ.length + 8) s).updWm 5
  else s

/-- A selected record enters RECORD, and the pipeline takes it (R451, R457). -/
def State.recTake (s : State) (rc : Bytes) : State := (s.recEnter rc).recPump

end Sys2Proof.Machine
end

