-- ==== Sys2Proof/Machine/Deliver.lean ====
section
/-! DEFINITION. Stream rings: how records reach host memory, and the stream's status and final records (R322 to R324, R345 to R351). -/

namespace Sys2Proof.Machine

/-- Size of a stream ring in bytes. -/
def StreamRing.size (q : StreamRing) : Nat := 2 ^ q.sizeLog2
/-- Free bytes of a stream ring (R345). -/
def StreamRing.room (q : StreamRing) : Nat := q.size - (q.prod - q.cons).toNat

/-- Whether the masks of a ring take a record (R346): status and final records always. -/
def StreamRing.takes (q : StreamRing) (rc : Bytes) : Bool :=
  let t := recType rc
  if t == 4 || t == 5 then true
  else bit q.typeMask.toNat (t - 1) && (match recChannel rc with | none => true | some c => bit q.blockMask.toNat (c / 16))

/-- Ring `r` delivers now: enabled, and PF1 can issue requests (R332, R357, R360). -/
def State.ringLive (s : State) (r : Nat) : Bool := (s.srings.get r).en && s.canWrite 1

/-- `rc` is this device's status record that opens a ring (R322, R350). -/
def State.opensRing (s : State) (rc : Bytes) : Bool := recType rc == 4 && recDev rc == s.devId && fieldOf rc 0x1C 22 1 == 1

/-- The IDs of the alerts that a sheaf record confirms (R304, R309): its confirmation entries end the record. -/
def confIds (rc : Bytes) : List Nat :=
  let n := if recType rc = 1 then byteAt rc 0x27 else 0
  (List.range n).map fun i => num rc (rc.length - 16 * ((n + 2) / 3) + 16 * (i / 3) + 4 * (i % 3)) 4

/-- A record for ring `r` must wait: an alert that it confirms still waits to be written there (R318). -/
def State.behindAlert (s : State) (r : Nat) (rc : Bytes) : Bool :=
  s.thresh.alertQ.any fun a => recType a == 2 && recDev a == recDev rc && (s.srings.get r).takes a && (confIds rc).contains (num a 0x10 4)

/-- A record is written at the producer count, across the wrap, and counted (R345); OPEN follows the opening status record (R346). -/
def State.ringWrite (s : State) (r : Nat) (rc : Bytes) : State :=
  let q := s.srings.get r
  let off := q.prod.toNat % q.size
  let head := rc.take (q.size - off)
  let tail := rc.drop (q.size - off)
  let s := s.hostWrite 1 (q.base.toNat + off) head
  let s := if tail.isEmpty then s else s.hostWrite 1 q.base.toNat tail
  s.mapRing r fun q => { q with prod := q.prod + BitVec.ofNat 64 rc.length, records := q.records + 1, gotOpen := q.gotOpen || s.opensRing rc }

/-- The write-back of PROD (R345). -/
def State.writeBack (s : State) (r : Nat) : State :=
  let q := s.srings.get r
  s.hostWrite 1 q.wb.toNat (le 8 q.prod.toNat)

/-- The record due next to ring `r`: a waiting alert or retraction before any other (R346, R349). -/
def State.dueTo (s : State) (r : Nat) : Option Bytes :=
  let q := s.srings.get r
  match q.heldAlerts.head? with
  | some a => some a
  | none =>
    match s.thresh.alertQ.head? with
    | some a => if q.takes a then some a else q.held.head?
    | none => q.held.head?

/-- FULL follows the record due next; PF1 vector 1 is raised when a ring becomes FULL (R346, R351). -/
def State.updFull (s : State) (r : Nat) : State :=
  let q := s.srings.get r
  let f := q.en && (match s.dueTo r with | some d => decide (q.room < d.length) | none => false)
  let s' := s.mapRing r fun q => { q with full := f }
  if f && !q.full then s'.raise 1 1 else s'

/-- What was written to a ring in one flush is announced: its write-back, its own vector, and vector 0 for status and final records
(R348, R350). -/
def State.announce (s : State) (r : Nat) (status : Bool) : State :=
  let s := s.writeBack r
  let s := if (s.srings.get r).vecEn then s.raise 1 (4 + r) else s
  if status then s.raise 1 0 else s

/-- What ring `r` holds and is given next, if it can be written now: a held alert before any other, within the free space, and behind the alert
that it confirms (R318, R345, R349). -/
def State.ready (s : State) (r : Nat) : Option Bytes :=
  let q := s.srings.get r
  (match q.heldAlerts with | a :: _ => some a | [] => q.held.head?).filter fun rc =>
    decide (rc.length ≤ q.room) && !(q.heldAlerts.isEmpty && s.behindAlert r rc)

/-- Ring `r` is given what it holds first. -/
def State.giveHeld (s : State) (r : Nat) (rc : Bytes) : State :=
  (s.ringWrite r rc).mapRing r fun q =>
    if q.heldAlerts.isEmpty then { q with held := q.held.drop 1 } else { q with heldAlerts := q.heldAlerts.drop 1 }

/-- A status or final record. -/
def isStatus (rc : Bytes) : Bool := recType rc == 4 || recType rc == 5
/-- An alert or retraction record. -/
def isAlert (rc : Bytes) : Bool := recType rc == 2 || recType rc == 3

/-- The ring of `l` that is served next: of those whose held record can be written, the one whose record has the highest priority (R34). -/
def State.nextRing (s : State) (l : List Nat) : Option (Nat × Bytes) :=
  (l.filterMap fun r => if s.ringLive r then (s.ready r).map fun rc => (r, rc) else none).foldl
    (fun (b : Option (Nat × Bytes)) p => match b with
      | none => some p
      | some q => if rankOf p.2 < rankOf q.2 then some p else b) none

/-- What the rings of `l` hold is written as far as it fits, in the order of priority (R34, R345, R349, R350): the state, and what was written to each. -/
def State.pump (l : List Nat) : Nat → State → List (Nat × Bytes) → State × List (Nat × Bytes)
  | 0, s, done => (s, done)
  | fuel + 1, s, done =>
    match s.nextRing l with
    | none => (s, done)
    | some p => State.pump l fuel (s.giveHeld p.1 p.2) (p :: done)

/-- What waits for the rings of `l` is delivered as far as it fits, and announced (R34, R348 to R351). -/
def State.drainRings (s : State) (l : List Nat) : State :=
  let p := State.pump l ((l.map fun r => let q := s.srings.get r; q.held.length + q.heldAlerts.length).sum) s []
  let given (r : Nat) : List Bytes := (p.2.filter fun x => x.1 == r).map (·.2)
  let t := l.foldl (fun t r => if (given r).isEmpty then t else t.announce r ((given r).any isStatus)) p.1
  let t := if p.2.any fun x => isAlert x.2 then t.raise 1 2 else t
  l.foldl (fun t r => if t.ringLive r then (t.updFull r).updWm 0 else t) t

/-- What waits for ring `r` is delivered as far as it fits (R349 to R351). -/
def State.drainRing (s : State) (r : Nat) : State := s.drainRings [r]

/-- The ring's batch is flushed: its records, the write-back, the message (R348); what does not fit waits (R351). -/
def State.flushRing (s : State) (r : Nat) : State :=
  let q := s.srings.get r
  if q.batch.isEmpty then s else
  (s.mapRing r fun q => { q with held := q.held.foldl (fun l rc => q.queue rc l) q.batch, batch := [] }).drainRing r

/-- A sheaf record, dump or waveform record is released to ring `r` (R348, R351): gathered into the batch, or held while the ring is
disabled, FULL or behind held records, or waits behind the alert it confirms (R318). -/
def State.releaseTo (s : State) (rc : Bytes) (r : Nat) : State :=
  let q := s.srings.get r
  if !q.takes rc then s
  else if s.ringLive r && q.held.isEmpty && !q.full && !s.behindAlert r rc then
    let s := s.mapRing r fun q => { q with batchSince := if q.batch.isEmpty then s.now else q.batchSince, batch := q.queue rc q.batch }
    let q := s.srings.get r
    if q.coalesce = 0 || bytesIn q.batch ≥ 2 ^ q.batchLog2 then s.flushRing r else s
  else s.holdFor r rc

/-- The rings, in order. -/
def ringNums : List Nat := List.range 32

/-- An own sheaf record, dump or waveform record is released to every destination (R297, R414, R457). -/
def State.release (s : State) (rc : Bytes) : State :=
  (((ringNums.foldl (fun t r => t.releaseTo rc r) s).ownUp rc).recTake rc)

/-- A status or final record for ring `r`: the batch first, then the record, then the write-back (R350). -/
def State.statusTo (s : State) (rc : Bytes) (r : Nat) : State :=
  let q := s.srings.get r
  if !(q.en || q.opened) then s
  else
    let s := if q.en then s.flushRing r else s
    let q := s.srings.get r
    if s.ringLive r && q.held.isEmpty && rc.length ≤ q.room && q.heldAlerts.isEmpty then (s.ringWrite r rc).writeBack r
    else (s.holdFor r rc).updFull r

/-- Between `s` and `t` a ring was given its status or final record, which does not wait behind others there (R350, R352). -/
def State.gaveStatus (s t : State) : Bool :=
  ringNums.any fun r => t.ringLive r && (t.srings.get r).held.isEmpty && (t.srings.get r).prod != (s.srings.get r).prod

/-- A status record is formed and delivered (R320, R322, R350). -/
def State.status (s : State) (why : Nat) : State :=
  let rc := s.statusRecord why
  let s := { s with stream := { s.stream with lastStatus := s.now, lastMasks := s.statusView } }
  let t := ringNums.foldl (fun t r => t.statusTo rc r) s
  let t := if s.gaveStatus t then t.raise 1 0 else t
  (t.ownUp rc).recTake rc

/-- The stream opens: each enabled ring opens, and its first record is a status record with WHY bit 6 (R322). -/
def State.openStream (s : State) (why : Nat) : State :=
  let s := { s with stream := { s.stream with opened := true, closing := none, sheavesLost := 0, capsLost := 0 } }
  let s := ringNums.foldl (fun t r => t.mapRing r fun q => { q with records := 0, opened := q.en, gotOpen := false }) s
  (s.status (64 + why))

/-- Ring `r` receives its own final record (R323). -/
def State.finalTo (s : State) (path r : Nat) : State :=
  let q := s.srings.get r
  let pend := q.held.length + q.heldAlerts.length + q.batch.length
  (s.statusTo (s.finalRecord path (q.records + pend + 1)) r).mapRing r fun q => { q with opened := false, gotOpen := false }

/-- The stream closes with its final record on path 0, 1 or 2 (R323, R324). The copy that leaves on the Drover link or is recorded belongs
to no ring: its RING_RECORDS is a free value (log 7). -/
def State.closeStream (s : State) (path : Nat) : State :=
  if !s.stream.opened then s else
  let t := ringNums.foldl (fun t r => t.finalTo path r) s
  let t := if s.gaveStatus t then t.raise 1 0 else t
  let rc := s.finalRecord path (freeNat s)
  let t := ((t.useFree).ownUp rc).recTake rc
  { t with stream := { t.stream with opened := false, closing := none } }

/-- The WHY bits 0 to 4 for what has changed since the last status record (R322). -/
def State.whyNow (s : State) : Nat :=
  let v := s.statusView
  maskOf 5 fun i => v.getD i 0 != s.stream.lastMasks.getD i 0

/-- While the stream is open, one status record reports what changed in the step (R322). -/
def State.statusIfChanged (s : State) : State :=
  if s.stream.opened && s.whyNow != 0 then s.status s.whyNow else s

/-- The enabled rings that take an alert or retraction record all have room for it and can be written (R349). -/
def State.alertRoom (s : State) (rc : Bytes) : Bool :=
  ringNums.all fun r =>
    let q := s.srings.get r
    !(q.en && q.takes rc) || (s.canWrite 1 && q.heldAlerts.isEmpty && decide (rc.length ≤ q.room))

/-- The oldest waiting alert or retraction record is written to every enabled ring that takes it, ahead of any batch, and kept for the
disabled ones; PF1 vector 2 follows the last write-back (R42, R349, R359). -/
def State.deliverAlert (s : State) : State :=
  match s.thresh.alertQ with
  | [] => s
  | rc :: rest =>
    if !s.alertRoom rc then ringNums.foldl (fun t r => t.updFull r) s
    else
      let live := ringNums.filter fun r => (s.srings.get r).en && (s.srings.get r).takes rc
      let off := ringNums.filter fun r => !(s.srings.get r).en && (s.srings.get r).takes rc
      let s := { s with thresh := { s.thresh with
        alertQ := rest, retracting := s.thresh.retracting.filter fun r => !(recType rc == 3 && r.id.toNat == num rc 0x10 4) } }
      let t := live.foldl (fun t r => t.ringWrite r rc) s
      let t := live.foldl (fun t r => t.writeBack r) t
      let t := off.foldl (fun t r => t.holdFor r rc) t
      (if live.isEmpty then t else t.raise 1 2).drainRings live

/-- The alerts that wait are written in order as long as every ring that takes the next one has room for it: before any held record, when a ring has
drained (R346, R349). -/
def State.alertsFirst : Nat → State → State
  | 0, s => s
  | fuel + 1, s =>
    match s.thresh.alertQ with
    | [] => s
    | rc :: _ => if s.alertRoom rc then State.alertsFirst fuel s.deliverAlert else s

/-- While PF1 cannot write, every waiting alert and retraction of this device joins what is held for each ring that takes it, so that a final record can follow it there
(R324, R350, R360). -/
def State.holdAlerts (s : State) : State :=
  if s.canWrite 1 then s
  else
    let mine (rc : Bytes) : Bool := recDev rc == s.devId
    let t := { s with thresh := { s.thresh with alertQ := s.thresh.alertQ.filter fun rc => !(mine rc), retracting := [] } }
    (s.thresh.alertQ.filter mine).foldl (fun t rc => ringNums.foldl (fun t r => if (t.srings.get r).takes rc then t.holdFor r rc else t) t) t

/-- Waiting alerts, then what the rings of `l` hold, are delivered as far as they fit (R34, R349 to R351). -/
def State.serveRings (s : State) (l : List Nat) : State := (State.alertsFirst s.thresh.alertQ.length s).drainRings l
/-- The same for one ring. -/
def State.serveRing (s : State) (r : Nat) : State := s.serveRings [r]

/-- A record relayed at a root goes to its rings as its own records do: alerts through the alert queue, the others through STREAM (R414). -/
def State.relayAtRoot (s : State) (rc : Bytes) : State :=
  let s := if s.pf 8 0x0C 13 1 = 1 then s.recTake rc else s
  match droverClass rc with
  | 1 => { s with thresh := { s.thresh with alertQ := s.thresh.alertQ ++ [rc] } }
  | 3 => let t := ringNums.foldl (fun t r => t.statusTo rc r) s
         if s.gaveStatus t then t.raise 1 0 else t
  | _ => ringNums.foldl (fun t r => t.releaseTo rc r) s

end Sys2Proof.Machine
end

