-- ==== Sys2Proof/Machine/Complete.lean ====
section
/-! DEFINITION. Commands in flight: submission, the checks of R362, starting order, completions (R361 to R372, R378, R399). -/

namespace Sys2Proof.Machine

/-- What the opcode table of R399 and the checks of R362 need to know of an opcode. -/
structure OpInfo where
  /-- opcode -/
  code : Nat
  /-- bits of PARAM that are not reserved -/
  mask : Nat
  /-- PAYLOAD_LEN rule: 0 = no payload, 1 = any length from 1 byte, 2 = the rule of FW_LOAD, else the exact length -/
  plen : Nat
  /-- device states that allow it -/
  states : List Nat
  /-- ordered (R370) -/
  ordered : Bool := false
  /-- privileged (R388) -/
  priv : Bool := false

/-- HOLD to SAFE. -/
def stHS : List Nat := [3, 4, 5, 6, 7]
/-- BOOT, and HOLD to SAFE. -/
def stBHS : List Nat := [2, 3, 4, 5, 6, 7]
/-- ARMED to DEGRADED. -/
def stAD : List Nat := [4, 5, 6]
/-- HOLD to DEGRADED. -/
def stHD : List Nat := [3, 4, 5, 6]

/-- Opcodes of groups 0x01 to 0x05 (R399). -/
def opsA : List OpInfo := [
  ⟨0x0101, 0, 0, stBHS, false, false⟩, ⟨0x0102, 0xF, 0, stHD, true, false⟩, ⟨0x0103, 0, 0, [7], true, false⟩,
  ⟨0x0104, 1, 0, stHS, true, false⟩, ⟨0x0105, 1, 0, stBHS, true, false⟩, ⟨0x0106, 0x1FFFFFFFFFFFFFFFF, 0, stHS, false, false⟩,
  ⟨0x0107, 0xFFFFFFFFFFFFFFFF, 0, stHS, false, false⟩, ⟨0x0108, 3, 0, stHS, false, false⟩,
  ⟨0x0201, 0, 0, stHS, true, false⟩, ⟨0x0202, 1, 0, stHD, true, false⟩, ⟨0x0203, 0, 0, stHS, true, false⟩,
  ⟨0x0204, 0, 0, stHS, false, false⟩, ⟨0x0205, 0, 0, stHS, false, false⟩,
  ⟨0x0301, 0, 1, stHS, true, false⟩, ⟨0x0302, 0, 0, stHS, false, false⟩, ⟨0x0303, 0xFFFFFFFF, 0, stHS, false, false⟩,
  ⟨0x0304, 0, 1, stHS, true, false⟩, ⟨0x0305, 0, 0, stHS, false, false⟩, ⟨0x0306, 0x1F, 0, stAD, false, false⟩,
  ⟨0x0401, 0, 16928, stHS, true, false⟩, ⟨0x0402, 0xFFFFFFFF, 0, stHS, false, false⟩, ⟨0x0403, 0, 4224, stHS, true, false⟩,
  ⟨0x0404, 0, 0, stHS, false, false⟩, ⟨0x0405, 0, 0, stHS, false, false⟩, ⟨0x0406, 0, 4224, stHS, true, false⟩,
  ⟨0x0407, 0xFFFFFFFF, 0, stHS, false, false⟩, ⟨0x0501, 0, 2688, stHS, true, false⟩, ⟨0x0502, 0xFFFFFFFF, 0, stHS, false, false⟩,
  ⟨0x0503, 0xFFF0003011F, 0, stAD, false, false⟩, ⟨0x0504, 0xF01FF001F, 0, stAD, false, false⟩]

/-- Opcodes of groups 0x06 to 0x0C (R399). -/
def opsB : List OpInfo := [
  ⟨0x0601, 0, 128, stHS, true, false⟩, ⟨0x0602, 0, 0, stHS, false, false⟩, ⟨0x0701, 0, 256, stHS, true, false⟩,
  ⟨0x0702, 0, 0, stHS, false, false⟩, ⟨0x0703, 2 ^ 128 - 1, 0, stAD ++ [3], false, false⟩, ⟨0x0704, 0x107, 0, stHS, false, false⟩,
  ⟨0x0801, 0, 128, stHS, true, false⟩, ⟨0x0802, 0, 0, stHS, false, false⟩, ⟨0x0803, 0, 64, stHS, false, false⟩,
  ⟨0x0804, 0xFFFFFFFFFFFFFFFF, 0, stHS, false, false⟩, ⟨0x0805, 0xFFFFFFFF, 0, stAD, false, false⟩, ⟨0x0806, 1, 0, stHS, false, false⟩,
  ⟨0x0807, 0, 0, stHS, false, false⟩, ⟨0x0901, 0, 3584, stHS, true, false⟩, ⟨0x0902, 0, 0, stHS, false, false⟩,
  ⟨0x0903, 0, 0, stBHS, false, false⟩, ⟨0x0A01, 0xFFFFFFFF000000FF, 0, stAD, false, false⟩, ⟨0x0A02, 0, 0, stHS, false, false⟩,
  ⟨0x0A03, 7, 0, stHS, false, false⟩, ⟨0x0A04, 0, 1599744, [3], false, true⟩, ⟨0x0A10, 0xFF, 0, stHS, false, false⟩,
  ⟨0x0A20, 0, 0, stHS, false, false⟩, ⟨0x0A21, 0, 0, stHS, false, false⟩, ⟨0x0A22, 0x3FF, 0, stAD, false, true⟩,
  ⟨0x0A24, 0x1FFFF, 0, [3], false, true⟩, ⟨0x0B01, 0, 0, stHS, false, true⟩, ⟨0x0B02, 0, 0, stHS, false, true⟩,
  ⟨0x0B03, 0xF07, 0, stHS, false, false⟩, ⟨0x0B04, 0xF07, 0, stHS, false, false⟩, ⟨0x0B05, 0x101FF, 0, stBHS, false, false⟩,
  ⟨0x0C01, 3, 2, stHS, false, false⟩, ⟨0x0C02, 0xFF, 0, stHS, false, false⟩, ⟨0x0C03, 0, 0, stBHS, false, false⟩,
  ⟨0x0C04, 1, 0, stHS, false, false⟩, ⟨0x0C10, 0, 0, stHS, false, false⟩, ⟨0x0C11, 0, 208, stHS, false, false⟩,
  ⟨0x0C12, 0, 0, stHS, false, false⟩]

/-- The row of R399 for an opcode. -/
def opInfo (code : Nat) : Option OpInfo := (opsA ++ opsB).find? fun o => o.code == code

/-- Opcodes that the boot ROM serves (R378). -/
def romOps : List Nat := [0x0101, 0x0B05, 0x0105, 0x0C01, 0x0C04]

/-- OPCODE of a descriptor (R361). -/
def InFlight.op (e : InFlight) : Nat := num e.desc 0 2
/-- TAG. -/
def InFlight.tag (e : InFlight) : Nat := num e.desc 2 2
/-- PAYLOAD_LEN. -/
def InFlight.plen (e : InFlight) : Nat := num e.desc 8 4
/-- RESP_LEN. -/
def InFlight.rlen (e : InFlight) : Nat := num e.desc 12 4
/-- Bits `lo` to `lo + w - 1` of PARAM word P+`n`. -/
def InFlight.p (e : InFlight) (n lo w : Nat) : Nat := fieldOf e.desc (0x20 + n) lo w
/-- The 64-bit number at PARAM byte `n`. -/
def InFlight.p64 (e : InFlight) (n : Nat) : Nat := num e.desc (0x20 + n) 8
/-- Group of a command (R361). -/
def InFlight.group (e : InFlight) : Nat := e.op / 256
/-- BARRIER, as set or as REBOOT implies it (R361, R371). -/
def InFlight.barrier (e : InFlight) : Bool := bit (num e.desc 4 4) 2 || e.op == 0x0105
/-- It is an ordered command (R370). -/
def InFlight.ordered (e : InFlight) : Bool := (opInfo e.op).any (·.ordered)

/-- Length rule of an opcode, check 4 of R362. -/
def lengthOk (o : OpInfo) (e : InFlight) : Bool :=
  let ptr := bit (num e.desc 4 4) 0
  let rptr := bit (num e.desc 4 4) 1
  let needs := match o.plen with | 0 => false | 2 => e.p 0 0 2 == 0 | _ => true
  let len := e.plen
  (rptr || e.rlen == 0) && ptr == needs && len ≤ 0x4000000
    && (match o.plen with
      | 0 => len == 0
      | 1 => len != 0
      | 2 => if needs then len != 0 && len ≤ 0x200000 else len == 0
      | n => len == n)

/-- The status with which a command fails in a state that does not allow it: its own where the opcode table names one (R263, R273, R362). -/
def stateStatus (code : Nat) : Nat := if code = 0x0503 || code = 0x0504 then 0x0212 else if code = 0x0A22 then 0x0213 else 0x0200

/-- The first check of R362 that fails, 0 when none does: checks 1 to 7, with R378 in check 7. -/
def State.precheck (s : State) (e : InFlight) : Nat :=
  let params := num e.desc 0x20 32
  let w1 := num e.desc 4 4
  match opInfo e.op with
  | none => if w1 ≥ 8 then 0x0102 else 0x0101
  | some o =>
    if w1 ≥ 8 || params &&& o.mask != params then 0x0102
    else if e.mbx && w1 % 4 != 0 then 0x0140
    else if !lengthOk o e then 0x0103
    else if num e.desc 0x10 8 % 64 != 0 || num e.desc 0x18 8 % 64 != 0 then 0x0104
    else if o.priv && !s.priv.opened then 0x0150
    else if s.cmds.romOnly && !(romOps.contains o.code) then 0x0200
    else if !(o.states.contains s.code) then stateStatus o.code
    else 0

/-- A command may start now: in submission order in its group, after earlier ordered commands and around barriers (R369 to R371). -/
def startable (l : List InFlight) (e : InFlight) : Bool :=
  let before := l.filter fun x => decide (x.sub < e.sub)
  !e.started && e.done.isNone && !e.abandoned
    && before.all (fun x => !(x.group == e.group) || x.started || x.done.isSome || x.abandoned)
    && (!e.ordered || before.all fun x => !x.ordered)
    && before.all (fun x => !x.barrier)
    && (!e.barrier || before.isEmpty)

/-- A completion with a status and a RESULT. -/
def reply (status : Nat) (result : Bytes := []) : Completion := { status := status, result := result }
/-- A completion with a response. -/
def replyWith (resp : Bytes) : Completion := { status := 0, respBytes := resp.length, resp := resp }

/-- A response: header, device block, object blocks (R364). -/
def response (op : Nat) (dev : List Nat) (blocks : List (List Nat)) : Bytes :=
  let bl := 4 * ((blocks.head?.map List.length).getD 0)
  le 2 op ++ le 2 1 ++ le 2 blocks.length ++ le 2 bl ++ le 4 (4 * dev.length) ++ le 4 0
    ++ dev.flatMap (fun v => le 4 v) ++ blocks.flatMap fun b => b.flatMap fun v => le 4 v

/-- A counter word: 32 bits, saturating (R364). -/
def sat32 (v : Nat) : Nat := min v 0xFFFFFFFF
/-- A 64-bit quantity as two words. -/
def two (v : Nat) : List Nat := [v % 2 ^ 32, v / 2 ^ 32 % 2 ^ 32]

/-- The 32 bytes of a completion (R365). -/
def completionBytes (tag status op : Nat) (phase : Bool) (pair head respBytes : Nat) (result : Bytes) : Bytes :=
  le 2 tag ++ le 2 status ++ le 4 (pack [(0, op), (16, b2n phase), (17, pair)]) ++ le 4 head ++ le 4 respBytes ++ fit 16 result

/-- A slot's bit set or cleared. -/
def setBit8 (m : BitVec 8) (i : Nat) (v : Bool) : BitVec 8 :=
  if v then m ||| BitVec.ofNat 8 (2 ^ i) else m &&& ~~~ BitVec.ofNat 8 (2 ^ i)

/-- The completion of a command is written to its ring or slot, and its response before it (R338, R363, R365, R366, R372). -/
def State.writeCompletion (s : State) (e : InFlight) (c : Completion) : State :=
  if e.discard then s else
  let status := if c.status = 0 && c.resp.length > e.rlen then 0x0002 else c.status
  if e.mbx then
    let b := completionBytes e.tag status e.op false s.fw.active 0 c.respBytes c.result
    let old := s.cmds.slots.getD e.src []
    let s := { s with cmds := { s.cmds with
      slots := updAt (padTo 8 [] s.cmds.slots) e.src fun _ => splice (fit 64 old) 0 b
      busy := setBit8 s.cmds.busy e.src false, done := setBit8 s.cmds.done e.src true } }
    (s.mark (keyMbxDone e.src)).raise 0 0
  else
    let q := s.cmds.rings.getD e.src {}
    let s := if c.resp.isEmpty then s else s.hostWrite 0 (num e.desc 0x18 8) (c.resp.take e.rlen)
    let s := s.hostWrite 0 (q.cplBase.toNat + 32 * q.cplTail)
      (completionBytes e.tag status e.op q.phase s.fw.active q.cqHead c.respBytes c.result)
    let nextTail := (q.cplTail + 1) % 2 ^ q.sizeLog2
    let s := s.mapCmdRing e.src fun q => { q with cplTail := nextTail, phase := if nextTail = 0 then !q.phase else q.phase }
    if q.vecEn then s.raise 0 (4 + e.src) else s

/-- The finished command whose completion is due: no earlier command of its group is still in flight (R369). -/
def dueDone (l : List InFlight) : Option (InFlight × Completion) :=
  (l.find? fun e => e.done.isSome && l.all fun x => !(decide (x.sub < e.sub) && x.group == e.group)).bind fun e =>
    e.done.map fun c => (e, c)

/-- A slot is submitted as a command (R367). -/
def State.submit (s : State) (mbx : Bool) (src : Nat) (desc : Bytes) : State :=
  { s with cmds := { s.cmds with
      inflight := s.cmds.inflight ++ [{ sub := s.cmds.nextSub, mbx := mbx, src := src, desc := desc, cyc := s.cycle }], nextSub := s.cmds.nextSub + 1 } }

/-- The mailbox commands submitted in this engine cycle after everything else in flight and not yet started: a fetch of the same cycle comes before them
(R367, R400). -/
def State.lateMbx (s : State) : List InFlight :=
  (s.cmds.inflight.reverse.takeWhile fun e => e.mbx && e.cyc == s.cycle && !e.started && e.done.isNone).reverse

/-- The descriptors of one fetch of ring `r` are submitted in ring order, before the mailbox commands of the same engine cycle (R367, R400). -/
def State.submitFetch (s : State) (r : Nat) (l : List Bytes) : State :=
  let late := s.lateMbx
  let n := s.cmds.nextSub
  let t := { s with cmds := { s.cmds with
    inflight := s.cmds.inflight.take (s.cmds.inflight.length - late.length), nextSub := (late.head?.map InFlight.sub).getD n } }
  let t := l.foldl (fun t d => t.submit false r (fit 64 d)) t
  { t with cmds := { t.cmds with
    inflight := t.cmds.inflight ++ late.map fun e => { e with sub := e.sub + l.length }, nextSub := n + l.length } }

/-- Slots that wait are submitted while there is room and intake is not paused (R368, R392). -/
def State.admitSlots : Nat → State → State
  | 0, s => s
  | fuel + 1, s =>
    match s.cmds.queuedSlots with
    | [] => s
    | k :: rest =>
      if s.cmds.paused || s.cmds.inflight.length ≥ 64 then s
      else State.admitSlots fuel (State.submit { s with cmds := { s.cmds with queuedSlots := rest } } true k (fit 64 (s.cmds.slots.getD k [])))

/-- Completions that are due are written, each freeing its place (R368, R369, R372). -/
def State.flushDone : Nat → State → State
  | 0, s => s
  | fuel + 1, s =>
    match dueDone s.cmds.inflight with
    | none => s
    | some (e, c) =>
      let t := s.writeCompletion e c
      State.flushDone fuel { t with cmds := { t.cmds with inflight := t.cmds.inflight.filter fun x => x.sub != e.sub } }

/-- Change the in-flight entry `sub`. -/
def State.mapCmd (s : State) (sub : Nat) (f : InFlight → InFlight) : State :=
  { s with cmds := { s.cmds with inflight := s.cmds.inflight.map fun e => if e.sub = sub then f e else e } }

/-- Command `sub` finishes with completion `c` (R369). -/
def State.finish (s : State) (sub : Nat) (c : Completion) : State :=
  let s := s.mapCmd sub fun e => { e with done := some c, started := true, wait := .none }
  (s.flushDone s.cmds.inflight.length).admitSlots 8

/-- Descriptors that name no opcode finish at once with the status of check 1 or 2 (R362). -/
def State.rejectUnknown (s : State) : State :=
  let bad := s.cmds.inflight.filter fun e => (opInfo e.op).isNone && e.done.isNone
  bad.foldl (fun t e => t.finish e.sub (reply (t.precheck e))) s

/-- The in-flight command that waits for `w`, oldest first. -/
def State.waiting (s : State) (w : WaitK) : Option InFlight := s.cmds.inflight.find? fun e => e.wait == w && e.done.isNone

/-- A CONFIG_STORE or FW_COMMIT in flight that FW_HANDOVER `sub` waits for: one that no later barrier holds back (R371, R392). -/
def State.flashLeft (s : State) (sub : Nat) : Bool :=
  s.cmds.inflight.any fun x => (x.op == 0x0205 || x.op == 0x0C04) && x.done.isNone && !x.abandoned
    && !(s.cmds.inflight.any fun y => y.barrier && y.done.isNone && y.sub ≥ sub && decide (y.sub < x.sub))

/-- A FW_HANDOVER that no flash command holds up any more pauses intake, and its drain starts (R392). -/
def State.tryDrain (s : State) : State :=
  match s.waiting .flash with
  | none => s
  | some e =>
    if s.flashLeft e.sub then s
    else ({ s with cmds := { s.cmds with paused := true } }).mapCmd e.sub fun x => { x with wait := .drain, since := s.now, arg := s.now + x.arg }

/-- The meaning of an opcode once its checks 1 to 7 have passed: the state, and its completion unless it waits. -/
abbrev Body := InFlight → Bytes → State → State × Option Completion

/-- A command of the Grazil set runs: command `sub` is in flight with this opcode and may start; the checks of R362 come first, then the
payload read (R363), then its effect. Otherwise nothing happens. -/
def State.gcs (s : State) (op sub : Nat) (payload : Option Bytes) (body : Body) : State :=
  match s.cmds.inflight.find? fun e => e.sub == sub && e.op == op with
  | none => s
  | some e =>
    if !startable s.cmds.inflight e then s
    else
      let st := s.precheck e
      if st != 0 then s.finish sub (reply st)
      else
        let s := s.mapCmd sub fun x => { x with started := true, since := s.now }
        let s := if (opInfo op).any (·.priv) then { s with priv := { s.priv with lastUse := s.now } } else s
        match (if e.plen = 0 then some [] else payload) with
        | none => s.finish sub (reply 0x0104)
        | some b =>
          match body e (if e.plen = 0 then [] else fit e.plen b) s with
          | (t, some c) => t.finish sub c
          | (t, none) => t

/-- A body that only answers. -/
def answer (f : InFlight → State → Completion) : Body := fun e _ s => (s, some (f e s))

end Sys2Proof.Machine
end

