-- ==== Sys2Proof/Machine/Engines.lean ====
section
/-! DEFINITION. Physical engines, their spares and the queue of the repair log, as every part of the block uses them (R268 to R276, R289 to R296 of 08_range_engines_repair). -/

namespace Sys2Proof.Machine

/-- REASONS with a bit set or cleared (R321). -/
def setReason (m : Word) (i : Nat) (v : Bool) : Word :=
  if v then m ||| BitVec.ofNat 32 (2 ^ i) else m &&& ~~~ BitVec.ofNat 32 (2 ^ i)

/-- A reason is added that stays until its own rule removes it. -/
def State.addReason (s : State) (i : Nat) : State := { s with dev := { s.dev with reasons := setReason s.dev.reasons i true } }
/-- A reason is removed. -/
def State.dropReason (s : State) (i : Nat) : State := { s with dev := { s.dev with reasons := setReason s.dev.reasons i false } }

/-- The repair log is to take an entry (R292). -/
def State.logRepair (s : State) (kind cause obj subst : Nat) (restored : Bool := false) : State :=
  { s with repair := { s.repair with logQ := s.repair.logQ ++ [⟨kind, cause, obj, subst, restored, s.deviceTime⟩] } }

/-- What replaced engine `e`, as its newest entry tells, written or waiting; 0xFFFF for none (R281, R293). -/
def State.substOf (s : State) (e : Nat) : Nat :=
  ((s.repair.logQ.reverse ++ s.repair.log).find? fun x => x.kind == 1 && x.object == e).elim 0xFFFF (·.subst)

/-- DEGRADED reason of a spare class at zero (R289, R321). -/
def spareReason (cls : Nat) : Nat := [0, 5, 6, 7, 8, 9, 10].getD cls 0
/-- A domain of a spare class has no spare left (R289). -/
def State.spareZero (s : State) (cls dom : Nat) : State := (s.post 0x4002 0 0 [cls, dom]).addReason (spareReason cls)

/-- Physical engine at a position (R269). -/
def State.holder (s : State) (p : Nat) : Nat := (s.repair.map.get p).getD p
/-- The position that engine `e` holds, 0xFFFF for none (R269). -/
def State.heldPos (s : State) (e : Nat) : Nat :=
  ((s.repair.map.cells.find? fun x => x.2 == some e).map (·.1)).getD (if e < 1024 && (s.repair.map.get e).isNone then e else 0xFFFF)
/-- Engine `e`. -/
def State.eng (s : State) (e : Nat) : Engine := s.repair.engines.get e
/-- Group of a physical engine (R268). -/
def engGroup (e : Nat) : Nat := if e < 1024 then e / 256 else (e - 1024) / 16
/-- Physical engines of group `g`, spares last. -/
def groupEngines (g : Nat) : List Nat := (List.range 256).map (· + 256 * g) ++ (List.range 16).map (· + (1024 + 16 * g))
/-- The IDLE spares of a group (R270, R275). -/
def State.idleSpares (s : State) (g : Nat) : List Nat := (groupEngines g).filter fun e => (s.eng e).st == .idle && !(s.eng e).unspared
/-- Spares that remain to a group: idle ones, and those lent to an audit that has found no difference (R289). -/
def State.sparesLeft (s : State) (g : Nat) : Nat :=
  (s.idleSpares g).length + (s.repair.runs.filter fun r => r.audit && !r.mismatch && r.pos / 256 == g).length
/-- The run at a position. -/
def State.runAt (s : State) (p : Nat) : Option EngRun := s.repair.runs.find? fun r => r.pos == p
/-- The run at a position replaced. -/
def State.mapRun (s : State) (p : Nat) (f : EngRun → EngRun) : State :=
  { s with repair := { s.repair with runs := s.repair.runs.map fun r => if r.pos = p then f r else r } }
/-- The run at a position removed. -/
def State.endRun (s : State) (p : Nat) : State := { s with repair := { s.repair with runs := s.repair.runs.filter fun r => r.pos != p } }
/-- A counter of an engine: 0 LS_CE, 1 LS_UE, 2 TRAPS, 3 SHADOW_RUNS, 4 AUDITS_PASSED, 5 MISMATCHES, 6 GATE_TIMEOUTS (R295). -/
def State.engCount (s : State) (e k n : Nat) : State := s.mapEngine e fun x => { x with cnt := updAt x.cnt k (· + n) }
/-- Number of an engine group's performance counter: 0 core busy cycles, 1 update-port adds, 2 gate stall cycles, 3 corrected and 4 uncorrectable ECC events, 5 shadow
runs (R295, R356; the order within the group's 32 is the model's, log 58). -/
def cntGroup (g k : Nat) : Nat := 32 * g + k
/-- A cause is confirmed (R274). -/
def confirmed (c : Nat) : Bool := c == 1 || c == 2 || c == 3

/-- What is left of the spares of group `g` after a step from `s` to `t`: the step that takes the last one posts it (R289). -/
def State.sparesChange (s t : State) (g : Nat) : State := if s.sparesLeft g != 0 && t.sparesLeft g == 0 then t.spareZero 1 g else t

/-- Runs end when the device leaves RANGING and DEGRADED for SAFE or HOLD: spares go idle, SUSPECT engines wait (R296, R547). -/
def State.dropRuns (s : State) : State :=
  let l := s.repair.runs
  let t := l.foldl (fun t r => t.mapEngine r.spare fun x => { x with st := .idle }) s
  let back := (l.filter fun r => (s.eng (s.holder r.pos)).st == .suspect).map (·.pos)
  { t with repair := { t.repair with runs := [], suspects := t.repair.suspects ++ back } }

/-- The hardware safe state abandons the runs and loses the suspicions that no log holds; an engine has been SUSPECT once in this boot all the same (R281, R296). -/
def State.loseSuspicions (s : State) : State :=
  let t := s.dropRuns
  let u := t.repair.suspects.foldl (fun u p => u.mapEngine (t.holder p) fun x => { x with st := .active, cause := 0, suspectedBefore := true }) t
  { u with repair := { u.repair with suspects := [] } }

/-- The microcode version of the next boot: that of the image which pair `i` holds (R272). -/
def State.noteMicrocode (s : State) (i : Nat) : State := { s with repair := { s.repair with mcNew := num (s.fw.pairs.getD i {}).image 0x14 4 } }

end Sys2Proof.Machine
end

