-- ==== Sys2Proof/Machine/Shots.lean ====
section
/-! DEFINITION. The schedule set's layout, the code generator, and the shots of a cell (R43 to R66 of 02_shot_schedule). -/

namespace Sys2Proof.Machine

/-- The active schedule set. -/
def State.sched (s : State) : Bytes := s.cfg.active.get 1

/-- CELLS of a schedule set (R60). -/
def hCells (b : Bytes) : Nat := num b 0x0C 2
/-- VARIANT_MASK (R60). -/
def hVariants (b : Bytes) : Nat := byteAt b 0x0E
/-- NMAPS (R60). -/
def hMaps (b : Bytes) : Nat := byteAt b 0x0F
/-- D_CELL_MIN in 25 ps units (R60). -/
def hDCellMin (b : Bytes) : Nat := num b 0x10 4
/-- D_FURROW_MAX in microseconds (R60). -/
def hDFurrowMax (b : Bytes) : Nat := num b 0x14 4
/-- PLAN_BASE of the header (R60). -/
def hPlanBase (b : Bytes) : Nat := num b 0x18 4 % 2 ^ 31
/-- PLAN_STRIDE of the header (R60). -/
def hPlanStride (b : Bytes) : Nat := num b 0x1C 2
/-- NZONES (R60). -/
def hZones (b : Bytes) : Nat := num b 0x30 2
/-- SEC_VER of a schedule set (R60). -/
def hSecVer (b : Bytes) : Nat := num b 0x08 4

/-- Number of present variants below `v` (R61). -/
def variantRank (b : Bytes) (v : Nat) : Nat := ((List.range v).filter (bit (hVariants b))).length

/-- The 32 bytes of the entry for cell `c` and string `i` in variant `v` (R61). -/
def entryAt (b : Bytes) (v c i : Nat) : Bytes := slice b (num b 0x24 4 + variantRank b v * (hCells b * 1024) + (c * 32 + i) * 32) 32
/-- The 64 bytes of map `m` for string `i` (R64). -/
def mapRowAt (b : Bytes) (m i : Nat) : Bytes := slice b (num b 0x20 4 + (m * 32 + i) * 64) 64
/-- The 2,048 bytes of the budget block of string `i` (R82). -/
def budgetAt (b : Bytes) (i : Nat) : Bytes := slice b (num b 0x28 4 + i * 2048) 2048
/-- The 32 bytes of alert zone `z` (R66). -/
def zoneAt (b : Bytes) (z : Nat) : Bytes := slice b (num b 0x2C 4 + z * 32) 32
/-- The second half of `b` is the complement of the first. -/
def pairOk (b : Bytes) : Bool := b.drop (b.length / 2) == compl (b.take (b.length / 2))

/-- T_FIRST in 25 ps units (R61). -/
def eTFirst (e : Bytes) : Nat := fieldOf e 0 0 24
/-- PW. -/
def ePw (e : Bytes) : Nat := fieldOf e 0 24 8
/-- T_SPACE in 25 ps units. -/
def eTSpace (e : Bytes) : Nat := fieldOf e 4 0 24
/-- Shots of the cell, DEPTH_M1 + 1. -/
def eDepth (e : Bytes) : Nat := fieldOf e 4 24 8 + 1
/-- VRES in 20 mV units. -/
def eVres (e : Bytes) : Nat := fieldOf e 8 0 12
/-- SMAP. -/
def eSmap (e : Bytes) : Nat := fieldOf e 8 12 6
/-- PROG. -/
def eProg (e : Bytes) : Nat := fieldOf e 8 18 6
/-- EN. -/
def eEn (e : Bytes) : Bool := fieldOf e 8 24 1 == 1
/-- DITH. -/
def eDith (e : Bytes) : Bool := fieldOf e 8 25 1 == 1
/-- PROOF. -/
def eProof (e : Bytes) : Bool := fieldOf e 8 26 1 == 1
/-- CAL. -/
def eCal (e : Bytes) : Bool := fieldOf e 8 27 1 == 1
/-- CAPREQ. -/
def eCapreq (e : Bytes) : Bool := fieldOf e 8 28 1 == 1
/-- ALERTABLE. -/
def eAlertable (e : Bytes) : Bool := fieldOf e 8 29 1 == 1
/-- CAP_CH. -/
def eCapCh (e : Bytes) : Nat := fieldOf e 12 0 4
/-- CAP_PROF. -/
def eCapProf (e : Bytes) : Nat := fieldOf e 12 4 4
/-- CELL. -/
def eCell (e : Bytes) : Nat := fieldOf e 12 8 16

/-- Channel numbers of a map row's 16 positions, 0xFFFF where unused (R64). -/
def rowChannels (row : Bytes) : List Nat := (List.range 16).map fun i => num row (2 * i) 2
/-- Stripe-relative position of a channel in a map row (R64). -/
def rowPos (row : Bytes) (c : Nat) : Option Nat := (rowChannels row).idxOf? c

/-! The code generator (R49, R50). -/

/-- One step of the generator: taps 31 and 28 (R49). -/
def genStep (x : BitVec 31) : BitVec 31 := (x <<< 1) ||| BitVec.ofNat 31 (b2n (x.getLsbD 30 ^^ x.getLsbD 27))

/-- `n` steps of the generator. -/
def genSteps : Nat → BitVec 31 → BitVec 31
  | 0, x => x
  | n + 1, x => genSteps n (genStep x)

/-- A linear map of generator states, by the images of its 31 bits, applied to a state. -/
def linApply : List (BitVec 31) → Nat → BitVec 31 → BitVec 31
  | [], _, _ => 0
  | c :: rest, i, x => (if x.getLsbD i then c else 0) ^^^ linApply rest (i + 1) x

/-- The map of one generator step. -/
def genMap : List (BitVec 31) := (List.range 31).map fun i => genStep (BitVec.ofNat 31 (2 ^ i))

/-- Jump-ahead by the low `n` bits of `p` steps, with `m` the map of one unit (R50). -/
def jumpBits : Nat → Nat → List (BitVec 31) → BitVec 31 → BitVec 31
  | 0, _, _, x => x
  | n + 1, p, m, x => jumpBits n (p / 2) (m.map (linApply m 0)) (if p % 2 = 1 then linApply m 0 x else x)

/-- The state `p` steps after `x`, for `p` below 2^31 (R50). -/
def genJump (p : Nat) (x : BitVec 31) : BitVec 31 := jumpBits 31 p genMap x

/-- The seed of string `i` of device `d` (R50). -/
def planSeed (base : BitVec 31) (stride d i : Nat) : BitVec 31 := genJump ((d * 32 + i) * stride) base

/-! The shots that an entry schedules (R43, R44, R47, R56). -/

/-- Shots `j` to `j + n - 1` of a cell, with the generator's state and the shot number as they go on. -/
def shotsFrom (e : Bytes) (dith proof : Bool) : Nat → Nat → Nat → BitVec 31 → Nat → List Shot × BitVec 31 × Nat
  | 0, _, _, g, k => ([], g, k)
  | n + 1, j, t, g, k =>
    let g' := if dith then genSteps 6 g else g
    let d := if dith then g'.toNat % 64 else 0
    let sh : Shot := { j := j, k := k, tNom := t, d := d, tFire := t + d * 1024, pw := ePw e, vres := eVres e, proof := proof }
    let rest := shotsFrom e dith proof n (j + 1) (t + eTSpace e * 128) g' (if proof then k else k + 1)
    (sh :: rest.1, rest.2)

/-- The shots of a cell declared at `t` for entry `e`; an unarmed proof slot and a dark entry schedule none (R61, R107). -/
def cellShots (e : Bytes) (armed : Bool) (t : Nat) (g : BitVec 31) (k : Nat) : List Shot × BitVec 31 × Nat :=
  if !eEn e || (eProof e && !armed) then ([], g, k)
  else shotsFrom e (eDith e && !eProof e) (eProof e) (if eProof e then 1 else eDepth e) 0 (t + eTFirst e * 128) g k

/-- The string's run of cell instance `n` changed. -/
def StrState.mapRun (q : StrState) (n : Nat) (f : CellRun → CellRun) : StrState :=
  { q with runs := q.runs.map fun r => if r.cellNo = n then f r else r }
/-- The string's run of cell instance `n`. -/
def StrState.run (q : StrState) (n : Nat) : Option CellRun := q.runs.find? fun r => r.cellNo == n
/-- Shot `j` of a run changed. -/
def CellRun.mapShot (r : CellRun) (j : Nat) (f : Shot → Shot) : CellRun := { r with shots := r.shots.map fun h => if h.j = j then f h else h }
/-- Shots of a run in a state. -/
def CellRun.inSt (r : CellRun) (st : ShotSt) : List Shot := r.shots.filter fun h => h.st == st
/-- Shots of a run that have fired (R48). -/
def CellRun.firedN (r : CellRun) : Nat := (r.inSt .fired).length
/-- GATES of a run: bit g - 1 is set when a shot was withheld by gate g, a pad stop counting as gate 4 (R48, R304, R571). -/
def CellRun.gates (r : CellRun) : Nat :=
  maskOf 5 fun g => r.shots.any fun h => (h.st == .withheld && h.gate == g + 1) || (h.st == .padStopped && g == 3)
/-- A run's shots whose decision instant has not come are withheld by gate 3, and the cell has ended (R45). -/
def CellRun.cut (r : CellRun) : CellRun :=
  { r with ended := true, shots := r.shots.map fun h => if h.st == .scheduled then { h with st := .withheld, gate := 3 } else h }

/-- Every cell in progress on string `i` ends: its undecided shots are withheld as CELL_SHORT (R45, R89, R121). -/
def State.cutString (s : State) (i : Nat) : State :=
  let n := ((s.str i).runs.map fun r => (r.inSt .scheduled).length).sum
  let t := s.mapStr i fun q => { q with runs := q.runs.map CellRun.cut, gates := updAt q.gates 2 (· + n) }
  if n = 0 then t else t.count (288 + i) n

/-- Shot `j` of string `i` in cell instance `n` is withheld at gate `g` (R45, R48): counted, except at gate 4. -/
def State.withhold (s : State) (i n j g : Nat) : State :=
  (s.mapStr i fun q => { q.mapRun n fun r => r.mapShot j fun h => { h with st := .withheld, gate := g } with
    gates := if g = 4 then q.gates else updAt q.gates (g - 1) (· + 1) }).count (288 + i) 1

/-- The string that lights channel `c` in the present cell, with the channel's position (R64, R65). -/
def State.lit (s : State) (c : Nat) : Option (Nat × Nat) :=
  (List.range 32).findSome? fun i =>
    match (s.str i).runs.head? with
    | some r => if r.cellNo = s.seq.cellNo then (rowPos r.row c).map fun p => (i, p) else none
    | none => none

end Sys2Proof.Machine
end

