-- ==== Sys2Proof/Machine/Calib.lean ====
section
/-! DEFINITION. The working calibration values: where each term stands in a set, and its value at a temperature (R497 to R499, R501). -/

namespace Sys2Proof.Machine

/-- Offset of the block of channel `c` in a set; CH_REF is channel 512 (R499). -/
def calCh (c : Nat) : Nat := 0x40 + 128 * c
/-- Offset of the block of string `i` in a set. -/
def calStr (i : Nat) : Nat := 0x100C0 + 2048 * i
/-- Offset of the block of converter `a` in a set. -/
def calGw (a : Nat) : Nat := 0x200C0 + 64 * a

/-- The temperatures of the six sets (R497). -/
def calTemps : List Rat := [-40, 0, 25, 60, 95, 125]

/-- A term of the sets: its byte offset, its width in bytes, and whether it is signed. -/
structure Term where
  /-- byte offset in the value image; also its key in the table of field changes -/
  ofs : Nat
  /-- 2 or 4 -/
  width : Nat := 2
  /-- two's complement -/
  signed : Bool := false

/-- Start of tap `i` in LIN_A (`lane` 0) or LIN_B (`lane` 1) of channel `c`, in 1/256 LSB. -/
def tLin (c lane i : Nat) : Term := ⟨calCh c + 40 * lane + 2 * i, 2, false⟩
/-- D_el of channel `c`. -/
def tDel (c : Nat) : Term := ⟨calCh c + 80, 4, true⟩
/-- A - B offset of channel `c`. -/
def tAB (c : Nat) : Term := ⟨calCh c + 84, 2, true⟩
/-- Q1 of channel `c`. -/
def tQ1 (c : Nat) : Term := ⟨calCh c + 86, 2, false⟩
/-- Single-photon peak of channel `c`. -/
def tSpp (c : Nat) : Term := ⟨calCh c + 88, 2, false⟩
/-- Walk entry of channel `c`: `n` 1 to 7, or 8 for HT. -/
def tWalk (c n : Nat) : Term := ⟨calCh c + 90 + 2 * (n - 1), 2, true⟩
/-- Tap delay of channel `c` to its converter. -/
def tTap (c : Nat) : Term := ⟨calCh c + 106, 2, false⟩
/-- D_L of string `i`. -/
def tDL (i : Nat) : Term := ⟨calStr i, 4, true⟩
/-- sigma_0 of string `i` for a pulse width code. -/
def tSigma (i pw : Nat) : Term := ⟨calStr i + 4 + 2 * pw, 2, false⟩
/-- The reference droop of string `i` for a (PW, band) pair. -/
def tDV (i pw b : Nat) : Term := ⟨calStr i + 78 + 4 * (pw * 12 + b), 2, false⟩
/-- The reference return charge of string `i` for a (PW, band) pair. -/
def tQ (i pw b : Nat) : Term := ⟨calStr i + 80 + 4 * (pw * 12 + b), 2, false⟩
/-- Delay of converter `a`: at gain x1, x4, x16 (0 to 2), or its clock phase (3). -/
def tGwDelay (a k : Nat) : Term := ⟨calGw a + 2 * k, 2, false⟩
/-- Slice term of converter `a`: `k` 0 offset, 1 gain, 2 skew of slice `sl`. -/
def tSlice (a sl k : Nat) : Term := ⟨calGw a + 8 + 6 * sl + 2 * k, 2, true⟩

/-- The term's word in set `k` of the loaded sets. -/
def State.calWord (s : State) (k : Nat) (t : Term) : Nat := num (s.cal.sets.getD k []) t.ofs t.width
/-- Whether the loaded sets hold the term unmeasured (R499). -/
def State.calBlank (s : State) (t : Term) : Bool := s.calWord 0 t == 2 ^ (8 * t.width - 1)
/-- What field passes have put at the term, if any: a change of a loaded term (R501), or the value of one that the sets do not hold. -/
def State.calField (s : State) (t : Term) : Option Int := Tab.find t.ofs s.cal.delta.cells
/-- The term has been measured, by the loaded sets or by a pass among the field changes `d` (R101, R499). -/
def State.calHeld (s : State) (d : Tab Int) (t : Term) : Bool := (!s.cal.sets.isEmpty && !(s.calBlank t)) || (Tab.find t.ofs d.cells).isSome
/-- The term has been measured. -/
def State.calHas (s : State) (t : Term) : Bool := s.calHeld s.cal.delta t
/-- The term's value in set `k` with the field changes `d` (R501). -/
def State.calWith (s : State) (d : Tab Int) (k : Nat) (t : Term) : Int :=
  let v : Int := if t.signed then signed (8 * t.width) (s.calWord k t) else s.calWord k t
  if s.calBlank t then (Tab.find t.ofs d.cells).getD v else v + (Tab.find t.ofs d.cells).getD 0
/-- The term's value in set `k`, every accepted field change included (R501). -/
def State.calIn (s : State) (k : Nat) (t : Term) : Int := s.calWith s.cal.delta k t

/-- The index of the set at or below a clamped temperature, at most 4. -/
def calIdx (t : Rat) : Nat := min 4 (((calTemps.filter fun x => decide (x ≤ t)).length) - 1)

/-- The interpolated value of a term at a temperature, with the field changes `d` (R498); a term that has not been measured gives the free value of log 74. -/
def State.calInterp (s : State) (d : Tab Int) (t : Term) (temp : Rat) : Int :=
  if !(s.calHeld d t) then Config.blankTerm t.ofs
  else
    let c := max (-40) (min 125 temp)
    let i := calIdx c
    let ti := calTemps.getD i 0
    let tj := calTemps.getD (i + 1) 1
    let a := s.calWith d i t
    let b := s.calWith d (i + 1) t
    roundQ ((a : Rat) + ((b : Rat) - a) * (c - ti) / (tj - ti))

/-- The interpolated value of a term at a temperature with every accepted field change (R501: the `o` that a pass compares with). -/
def State.calAt (s : State) (t : Term) (temp : Rat) : Int := s.calInterp s.cal.delta t temp

/-- Reading of on-die sensor `i` in degrees Celsius (R484). -/
def State.sensorT (s : State) (i : Nat) : Rat := ((s.hk.sensors.get i).value : Rat) / 16
/-- Group of a channel; CH_REF belongs to group 3. -/
def groupOf (c : Nat) : Nat := min 3 (c / 128)
/-- Die temperature of a channel's group: the mean of its two TDC-region sensors (R485). -/
def State.dieT (s : State) (c : Nat) : Rat := (s.sensorT (2 * groupOf c) + s.sensorT (2 * groupOf c + 1)) / 2
/-- HK_TEMP of group `g` (R162). -/
def State.hkTemp (s : State) (g : Nat) : Nat := s.pf 3 (0x80 + 32 * g + 20) 16 8
/-- The last valid reading of a housekeeping channel in degrees Celsius. -/
def State.hkT (s : State) (k : Nat) : Option Rat := (s.hk.chans.get k).lastGood.map fun v => (v : Rat) / 1000
/-- Temperature of the terms that take the group's HK_TEMP; the last valid one while the source is OPEN or UNSETTLED (R498). -/
def State.pixT (s : State) (c : Nat) : Rat := (s.hkT (s.hkTemp (groupOf c))).getD Config.bootTemp
/-- Temperature of a converter's terms (R497). -/
def State.gwT (s : State) (a : Nat) : Rat := s.sensorT (if a < 16 then 12 else 13)
/-- Temperature of a string's terms (R497). -/
def State.strT (s : State) : Rat := s.sensorT 22

/-! Complement pairs of the sets (R511, R512). -/

/-- Bytes of a set's value half. -/
def calLen : Nat := 0x208C0
/-- Offset of an object's block; objects are channels (kind 2), strings (1) and converters (3), as error records number them. -/
def calBase (kind obj : Nat) : Nat := match kind with | 1 => calStr obj | 2 => calCh obj | _ => calGw obj
/-- Bytes of an object's block. -/
def calSize (kind : Nat) : Nat := match kind with | 1 => 2048 | 2 => 128 | _ => 64
/-- An object's block in a set agrees with its complement. -/
def blockSound (b : Bytes) (kind obj : Nat) : Bool :=
  slice b (calLen + calBase kind obj) (calSize kind) == compl (slice b (calBase kind obj) (calSize kind))
/-- An object's coefficients agree with their complements in every set of the working copy (R511). -/
def State.calSound (s : State) (kind obj : Nat) : Bool := s.cal.sets.all fun b => blockSound b kind obj

/-- The header of a store copy of generation `g`, with its complement (R505). -/
def storeHeader (g : Nat) : Bytes := let b := fit 64 (le 4 g); b ++ compl b
/-- The generation of store copy `i`, if its header is valid. -/
def State.storeGen (s : State) (i : Nat) : Option Nat :=
  let b := s.flash.calCopies.getD i []
  if b.length = 128 && compl (b.take 64) == b.drop 64 then some (num b 0 4) else none
/-- The copy to read: the valid one with the higher generation (R505). -/
def State.storePick (s : State) : Option Nat :=
  match s.storeGen 0, s.storeGen 1 with
  | some a, some b => some (if b > a then 1 else 0)
  | some _, none => some 0
  | none, some _ => some 1
  | none, none => none

/-- Store copy `i` is valid and holds the object: its six sets, each sound there (R512). -/
def State.copyHolds (s : State) (i kind obj : Nat) : Bool :=
  let l := s.flash.calSets.getD i []
  (s.storeGen i).isSome && l.length == 6 && l.all fun b => blockSound b kind obj

/-- The object's block of set `old` as store set `b` has it, with its complement. -/
def reblock (kind obj : Nat) (old b : Bytes) : Bytes :=
  let o := calBase kind obj
  let v := slice b o (calSize kind)
  splice (splice old o v) (calLen + o) (compl v)

/-- The object's coefficients are checked where values of them are formed: on a mismatch its six sets are reloaded from a store copy that holds it, at once, within the 100 ms
of R512; where none does, CAL_LOST (R511, R512). -/
def State.checkCal (s : State) (kind obj : Nat) : State :=
  if s.calSound kind obj then s
  else
    let t := s.integrityFault 4
    let first := s.storePick.getD 0
    match [first, 1 - first].find? fun i => t.copyHolds i kind obj with
    | none => t.post 0x3009 kind obj
    | some i =>
      let l := t.flash.calSets.getD i []
      let a := calBase kind obj
      let own (x : Nat × Int) : Bool := decide (a ≤ x.1) && decide (x.1 < a + calSize kind)
      let kept := t.cal.delta.cells.filter fun x => !(own x)
      let put := (t.flash.calDelta.getD i ⟨0, []⟩).cells.filter own
      { t with cal := { t.cal with
          sets := t.cal.sets.zipIdx.map fun (x : Bytes × Nat) => reblock kind obj x.1 (l.getD x.2 [])
          delta := put.foldl (fun (d : Tab Int) (x : Nat × Int) => d.set x.1 x.2) { t.cal.delta with cells := kept } } }.post 0x3008 kind obj

/-! Values in use: formed at a channel's sheaf boundaries, a string's cell boundaries, and for a converter while no window is open (R144, R498). -/

/-- Field changes of the terms from offset `a` to below `b`. -/
def changesIn (d : Tab Int) (a b : Nat) : Tab Int := { d with cells := d.cells.filter fun x => a ≤ x.1 && x.1 < b }
/-- Offset `o` belongs to a term of channel `c` that stands at the detector temperature: Q1, the single-photon peak, W (R497). -/
def isPix (c o : Nat) : Bool := calCh c + 86 ≤ o && o < calCh c + 106
/-- The source of a channel's detector temperature gives a valid result: it is neither OPEN nor UNSETTLED (R498). -/
def State.pixValid (s : State) (c : Nat) : Bool := let h := s.hk.chans.get (s.hkTemp (groupOf c)); h.valid && !h.isOpen
/-- The values of channel `c` formed now. Without a valid detector temperature, the terms that stand at it keep their last interpolated value (R498); where a coefficient
disagrees with its complement, every value stays in force (R512). -/
def State.chanUse (s : State) (c : Nat) : CalUse :=
  let new := changesIn s.cal.delta (calCh c) (calCh (c + 1))
  match (s.ch c).use with
  | some u =>
    if !(s.calSound 2 c) then u
    else if s.pixValid c then { die := s.dieT c, pix := s.pixT c, chg := new }
    else
      let kept := u.chg.cells.filter fun x => isPix c x.1
      let other := new.cells.filter fun x => !(isPix c x.1)
      { die := s.dieT c, pix := u.pix, chg := (kept ++ other).foldl (fun (d : Tab Int) (x : Nat × Int) => d.set x.1 x.2) ⟨0, []⟩ }
  | none => { die := s.dieT c, pix := s.pixT c, chg := new }
/-- The values in use on channel `c`: those of its last sheaf boundary. -/
def State.useOf (s : State) (c : Nat) : CalUse := ((s.ch c).use).getD (s.chanUse c)
/-- The values of string `i` formed now; those of its last cell stay in force where a coefficient disagrees with its complement (R512). -/
def State.strNow (s : State) (i : Nat) : CalUse :=
  let new : CalUse := { die := s.strT, chg := changesIn s.cal.delta (calStr i) (calStr (i + 1)) }
  if s.calSound 1 i then new else (((s.str i).runs.head?).map (·.use)).getD new
/-- The values in use on string `i`: those of its last cell boundary. -/
def State.strUse (s : State) (i : Nat) : CalUse := (((s.str i).runs.head?).map (·.use)).getD (s.strNow i)
/-- The values of converter `a` formed now; the last ones stay in force where a coefficient disagrees with its complement (R512). -/
def State.gwNow (s : State) (a : Nat) : CalUse :=
  let new : CalUse := { die := s.gwT a, chg := changesIn s.cal.delta (calGw a) (calGw (a + 1)) }
  if s.calSound 3 a then new else ((s.gw.get a).use).getD new
/-- The values in use on converter `a`: those of its open windows, formed before the first of them opened, else the present ones. -/
def State.gwUse (s : State) (a : Nat) : CalUse :=
  match (((s.gw.get a).running.toList ++ (s.gw.get a).waiting).find? fun c => !c.closed) with
  | some c => c.use
  | none => s.gwNow a

/-- A term that stands at the on-die temperature, as a set of values in use has it. -/
def State.useDie (s : State) (u : CalUse) (t : Term) : Int := s.calInterp u.chg t u.die
/-- A term that stands at the detector temperature, as a set of values in use has it. -/
def State.usePix (s : State) (u : CalUse) (t : Term) : Int := s.calInterp u.chg t u.pix
/-- A term of a channel that stands at its die temperature, in use. -/
def State.calDie (s : State) (c : Nat) (t : Term) : Int := s.useDie (s.useOf c) t
/-- A term of a channel that stands at its detector temperature, in use. -/
def State.calPix (s : State) (c : Nat) (t : Term) : Int := s.usePix (s.useOf c) t
/-- A term of string `i`, in use. -/
def State.calEmit (s : State) (i : Nat) (t : Term) : Int := s.useDie (s.strUse i) t


/-! Measured coefficients (R500 to R503). -/

/-- The term that starts at 16-bit word `w` of an object's block (R499). -/
def calTerm (kind obj w : Nat) : Term :=
  ⟨calBase kind obj + 2 * w, if (kind == 2 && w == 40) || (kind == 1 && w == 0) then 4 else 2,
    match kind with | 1 => w == 0 | 2 => w == 40 || w == 42 || (45 ≤ w && w < 53) | _ => 4 ≤ w⟩
/-- The words of an object's block at which a term starts. -/
def calWords (kind : Nat) : List Nat :=
  match kind with
  | 1 => (List.range 927).filter fun w => w != 1
  | 2 => (List.range 54).filter fun w => w != 41
  | _ => List.range 19
/-- The bounds of R502, in the term's unit; none where the table gives none, and for tap starts, whose widths are bounded. -/
def calBound (kind w : Nat) : Option (Int × Int) :=
  match kind with
  | 1 => if w = 0 then some (0, 61440) else if w < 39 then some (80, 4000) else if w % 2 = 1 then some (10, 20000) else some (50, 50000)
  | 2 =>
    if w < 40 then none else if w = 40 then some (0, 5120) else if w = 42 then some (-128, 128) else if w = 43 then some (2000, 40000)
    else if w = 44 then some (80, 14400) else if w < 53 then some (-1536, 1536) else some (500, 3000)
  | _ => if w < 3 then some (500, 3000) else if w = 3 then none
    else if (w - 4) % 3 = 0 then some (-512, 512) else if (w - 4) % 3 = 1 then some (-6553, 6553) else none
/-- The value lies within its bounds. -/
def calBoundOk (kind w : Nat) (v : Int) : Bool := match calBound kind w with | some b => decide (b.1 ≤ v) && decide (v ≤ b.2) | none => true
/-- The move from `o` to `m` is no more than `p` per cent of `o`. -/
def within (p : Nat) (o m : Int) : Bool := decide ((m - o).natAbs * 100 ≤ p * o.natAbs)
/-- The step from `o` to `m` is one that R502 accepts. -/
def calStepOk (kind w : Nat) (o m : Int) : Bool :=
  let d := (m - o).natAbs
  match kind with
  | 1 => if w = 0 then d ≤ 256 else within 15 o m
  | 2 =>
    if w < 40 then d ≤ 51 else if w = 40 then d ≤ 40 else if w = 42 then d ≤ 16 else if w < 45 then within 10 o m
    else if w < 53 then d ≤ 30 else d ≤ 50
  | _ => if w < 3 then d ≤ 50 else if w = 3 then true
    else if (w - 4) % 3 = 0 then d ≤ 64 else if (w - 4) % 3 = 1 then within 1 (o + 65536) (m + 65536) else true

/-- The residual check of R502: hits, events, standard errors, fitted width or agreement, in the units of `CalMeas`. A term without a row has none. -/
def residOk (kind w count err : Nat) : Bool :=
  match kind with
  | 1 => decide (256 ≤ count) && (w != 0 || decide (err ≤ 200))
  | 2 => if w < 40 then 99 ≤ count else if w = 43 || w = 44 then err ≤ 350 else if w = 53 then err ≤ 1000 else err ≤ 100
  | _ => if w < 3 then err ≤ 1000 else if w = 3 then true else if (w - 4) % 3 < 2 then err ≤ 32 else true

/-- The temperature that a term takes (R497). -/
def State.calTemp (s : State) (kind obj w : Nat) : Rat :=
  match kind with
  | 1 => s.strT
  | 2 => if w ≤ 42 || w = 53 then s.dieT obj else s.pixT obj
  | _ => s.gwT obj

/-- An accepted result: the difference from the interpolated value `o` is added to the coefficient in all six sets; a term not measured before takes
the result (R501). -/
def State.calTake (s : State) (t : Term) (o m : Int) : State :=
  let v := if s.calHas t then (s.calField t).getD 0 + (m - o) else m
  { s with cal := { s.cal with delta := s.cal.delta.set t.ofs v, dirty := true } }

/-- The check of R502 that a result fails: 1 bound, 2 step, 3 residual; 0 when it fails none. A term not measured before has no step. -/
def State.calJudge (s : State) (kind obj w : Nat) (m : Int) (resid : Bool) : Nat :=
  let t := calTerm kind obj w
  if !(calBoundOk kind w m) then 1
  else if s.calHas t && !(calStepOk kind w (s.calAt t (s.calTemp kind obj w)) m) then 2
  else if !resid then 3 else 0

/-- A pass result is rejected (R503). -/
def State.calReject (s : State) (kind obj pass check : Nat) : State :=
  ({ s with cal := { s.cal with rejects := s.cal.rejects + 1 } }).post 0x3006 kind obj [pass, check]

end Sys2Proof.Machine
end

