-- ==== Sys2Proof/Machine/GwStream.lean ====
section
/-! DEFINITION. A Gleaner converter's stream: its samples, its gain, and which request runs (R235, R247 to R249, R254 to R259, R266 of
07_gleaner_capture). -/

namespace Sys2Proof.Machine

/-- Number of the last sample taken (R235). -/
def State.sampleNow (s : State) : Nat := s.now / 3200
/-- The converter block of converter `a` in the active Gleaner descriptor (R264). -/
def State.gwBlk (s : State) (a lo w : Nat) : Nat := s.pf 6 (0x40 + 16 * a) lo w
/-- The profile block `p` of the active Gleaner descriptor (R264). -/
def State.profile (s : State) (p : Nat) : Bytes := slice (s.part 6) (0x240 + 16 * p) 16
/-- The block of filter set `f` in the active Gleaner descriptor (R264). -/
def State.filtBlk (s : State) (f : Nat) : Bytes := slice (s.part 6) (0x340 + 64 * f) 64
/-- Taps of a filter set's block; bypass counts as 1 (R264). -/
def tapsOf (b : Bytes) : Nat := max 1 (fieldOf b 0 0 5)

/-- WINDOW of a capture (R264). -/
def Capture.window (c : Capture) : Nat := fieldOf c.profB 0 0 13
/-- PRE. -/
def Capture.pre (c : Capture) : Nat := fieldOf c.profB 0 16 11
/-- GAIN_MODE. -/
def Capture.gainMode (c : Capture) : Nat := fieldOf c.profB 4 0 2
/-- FILT. -/
def Capture.filt (c : Capture) : Nat := fieldOf c.profB 4 2 3
/-- DELAY in samples. -/
def Capture.delay (c : Capture) : Nat := fieldOf c.profB 4 16 16
/-- Bytes of a capture's record (R257, R315). -/
def Capture.bytes (c : Capture) : Nat := 64 + 2 * c.window

/-- An event is still needed: the newest of its kind before the oldest sample any readout can reach, or later. -/
def pruneEvs (n : Nat) : List SEv → List SEv → List SEv
  | [], _ => []
  | e :: rest, seen =>
    if e.smp + 65536 < n && seen.any (fun x => x.kind == e.kind) then pruneEvs n rest seen
    else e :: pruneEvs n rest (e :: seen)

/-- The stream changes from sample `n` on (R251). -/
def GwState.ev (g : GwState) (n : Nat) (k : SEvKind) (v : Nat) (data : Bytes := []) : GwState := { g with hist := pruneEvs n (⟨n, k, v, data⟩ :: g.hist) [] }
/-- The gain step is `v` from sample `n` on. -/
def GwState.setGain (g : GwState) (n v : Nat) (k : SEvKind) : GwState := if g.gain = v then g else { g.ev n k v with gain := v }
/-- MODE code of R315. -/
def GwMode.code : GwMode → Nat
  | .start => 0
  | .test => 2
  | .recovery => 3
  | _ => 1
/-- The converter's mode is `m` from sample `n` on. -/
def GwState.setMode (g : GwState) (n : Nat) (m : GwMode) : GwState := { g.ev n .mode m.code with mode := m }

/-- The interleave positions hold the slices `p` from sample `n` on (R235). -/
def GwState.setPos (g : GwState) (n : Nat) (p : List Nat) : GwState :=
  { g.ev n .pos (pack (p.zipIdx.map fun x => (3 * x.2, x.1))) with pos := p }
/-- The stream takes a channel, gain mode and filter set from sample `n` on (R255): a filter set whose block has changed is a change of filter too (R251, R266); a fixed
gain ends what was pending (R249). -/
def GwState.tune (g : GwState) (n ch gm filt : Nat) (b : Bytes) : GwState :=
  let g := if g.ch = ch then g else { g.ev n .chan ch with ch := ch }
  let g := if g.filt = filt && g.filtB == b then g else { g.ev n .filt (8 * tapsOf b + filt) b with filt := filt, filtB := b }
  let g := { g with gainMode := gm }
  if gm = 0 then g else { g.setGain n (gm - 1) .gain with pendUp := false, pendDown := false }

/-- The converter is powered and samples from sample `n` on: its channel, gain, filter and slices are those it takes there (R243, R255, R259). -/
def GwState.powerUp (g : GwState) (n ch gm filt : Nat) (b : Bytes) : GwState :=
  let g := { (({ g with ch := ch, filt := filt, filtB := b }.ev n .enable 1).ev n .chan ch).ev n .filt (8 * tapsOf b + filt) b with gainMode := gm }
  let g := if gm = 0 then g else { g with gain := gm - 1 }
  ((g.ev n .gain g.gain).setPos n g.pos).setMode n .start
/-- The converter is powered down after the last sample before `n` (R264). -/
def GwState.powerDown (g : GwState) (n : Nat) : GwState := { g.ev n .enable 0 with mode := .off }

/-- Captures accepted by a converter that satisfy `p`. -/
def GwState.caps (g : GwState) (p : Capture → Bool) : Nat := ((g.running.toList ++ g.waiting).filter p).length

/-- Open windows: captures accepted whose last sample has not been taken (R247). -/
def GwState.openCaps (g : GwState) : Nat := g.caps fun c => !c.closed

/-- The last open window has closed: a pending change is applied at once, an up-range before a down-range, and a down-range only when the window's
last 64 valid samples were all low (R248). -/
def GwState.applyPending (g : GwState) (n : Nat) (low : Bool) : GwState :=
  let f := { g with pendUp := false, pendDown := false }
  if g.pendUp then f.setGain n (g.gain - 1) .gain
  else if g.pendDown && low && g.gain < 2 then f.setGain n (g.gain + 1) .gain
  else f

/-- The next waiting request runs when no capture does (R255); when none is left, the converter is powered down if an apply disabled it, or takes
the rest settings that wait, and a test pattern that waits is connected (R266, R267). -/
def State.nextCapture (s : State) (a : Nat) : State :=
  let n := s.sampleNow + 1
  s.mapGw a fun g =>
    if g.running.isSome then g
    else match g.waiting with
      | c :: rest => { (g.tune n c.ch c.gainMode c.filt (s.filtBlk c.filt)) with running := some { c with runAt := s.now }, waiting := rest }
      | [] =>
        if g.offPend then { g.powerDown n with offPend := false, restPend := false, testPat := none }
        else
          let g := if g.restPend then { g.tune n g.restCh (s.gwBlk a 17 2) (s.gwBlk a 19 3) (s.filtBlk (s.gwBlk a 19 3)) with restPend := false } else g
          if g.testPat.isSome && g.mode != .test then (g.ev n .test (g.testPat.getD 0 + 1)).setMode n .test else g

/-- Every slice that is not failed has completed a calibration (R242, R243): where one has failed there is no spare left, so START ends with the other four, which the
CAL cells calibrate one by one. The spec does not say how START ends then: DESIGN CHOICE (log 81). -/
def GwState.allCal (g : GwState) : Bool := (List.range 5).all fun k => g.calDone.contains k || g.failed.contains k

/-- A converter leaves TEST: NORMAL, or START while its slices have not all been calibrated (R242, R244). -/
def State.endTest (s : State) (a : Nat) : State :=
  let n := s.sampleNow + 1
  s.mapGw a fun g =>
    if g.mode == .test then ((g.ev n .test 0).setMode n (if g.allCal then .normal else .start)) |> fun g => { g with testPat := none }
    else { g with testPat := none }

/-- Every converter leaves TEST: the device has left ARMED, RANGING and DEGRADED (R243). -/
def State.endTests (s : State) : State := s.each (List.range 32) fun a t => if (t.gw.get a).testPat.isSome then t.endTest a else t

/-- The cell of string `i` has ended: a CAPREQ of it that no fired shot has triggered is withdrawn (R258, R267). Where it held the last open window, a pending up-range
is applied then as R248 applies it at a close; a pending down-range is not, since its window had no 64 samples to be low: DESIGN CHOICE (log 82), R248 speaks of windows
that close. -/
def State.noFire (s : State) (i : Nat) : State :=
  let bad (c : Capture) : Bool := c.src == 1 && c.tTrig.isNone
  let g := s.gw.get i
  let l := (g.running.toList ++ g.waiting).filter bad
  if l.isEmpty then s
  else
    let t := s.mapGw i fun g =>
      let g := { g with running := g.running.filter fun c => !(bad c), waiting := g.waiting.filter fun c => !(bad c), noFire := g.noFire + l.length, closedAt := s.now }
      if g.openCaps = 0 then g.applyPending (s.sampleNow + 1) false else g
    ({ t with silo := { t.silo with waveQ := t.silo.waveQ - (l.map Capture.bytes).sum } }).nextCapture i

/-- A calibration source is connected to the converter's channel, or removed (R251, R267). -/
def State.calSource (s : State) (a : Nat) (on : Bool) : State :=
  s.mapGw a fun g =>
    let last := (g.hist.find? fun e => e.kind == .cal).any fun e => e.val == 1
    if last == on then g else g.ev (s.sampleNow + 1) .cal (b2n on)

end Sys2Proof.Machine
end

