-- ==== Sys2Proof/Machine/GwRequest.lean ====
section
/-! DEFINITION. What a converter's history tells of a sample, where a capture lies, and the requests of an engine cycle (R235, R237, R246, R250 to R262 of
07_gleaner_capture). -/

namespace Sys2Proof.Machine

/-! What a stream's history tells of a sample (R246, R250 to R252). -/

/-- The newest change among the kinds `ks` that stands at sample `n`; the history has the newest first. -/
def evOf (h : List SEv) (ks : List SEvKind) (n : Nat) : Option SEv := h.find? fun e => ks.contains e.kind && e.smp ≤ n
/-- The value that a stream of changes of the kinds `ks` has at sample `n`. -/
def evAt (h : List SEv) (ks : List SEvKind) (n : Nat) : Option Nat := (evOf h ks n).map (·.val)
/-- Gain step at a sample. -/
def gainAt (h : List SEv) (n : Nat) : Nat := (evAt h [.gain, .sat] n).getD 0
/-- MODE code at a sample. -/
def modeAt (h : List SEv) (n : Nat) : Nat := (evAt h [.mode] n).getD 1
/-- Taps of the filter at a sample. -/
def tapsAt (h : List SEv) (n : Nat) : Nat := max 1 ((evAt h [.filt] n).getD 0 / 8)
/-- The slice that takes sample `n`: the one in interleave position n mod 4 (R235). -/
def sliceAt (h : List SEv) (n : Nat) : Nat := ((evAt h [.pos] n).getD 0o3210) / 8 ^ (n % 4) % 8
/-- A sample of channel `ch` exists at `n`: the converter is powered, on that channel. -/
def smpExists (h : List SEv) (ch n : Nat) : Bool := evAt h [.enable] n == some 1 && evAt h [.chan] n == some ch
/-- A sample lies in the first six after a saturation switch inside a window (R247). -/
def smpRt (h : List SEv) (n : Nat) : Bool := h.any fun e => e.kind == .sat && e.smp ≤ n && n < e.smp + 6
/-- How many samples a change leaves invalid (R251, R252). -/
def invalidSpan (h : List SEv) (e : SEv) : Nat :=
  match e.kind with
  | .chan | .test => 12
  | .gain | .sat | .tia => max 8 (tapsAt h e.smp)
  | .filt => max 1 (e.val / 8)
  | _ => 0
/-- V of sample `n` for a capture of channel `ch` (R251). -/
def smpValid (h : List SEv) (ch n : Nat) : Bool :=
  smpExists h ch n && evAt h [.cal] n != some 1 && h.all fun e => !(decide (e.smp ≤ n) && decide (n < e.smp + invalidSpan h e))

/-! Placement (R260 to R262). -/

/-- The converter clock's measured phase in ticks: TDC-B stamps the first edge of the sample marker, which rises on every 16th sample, after `t`; the edge stands off
the sample's nominal instant by the phase (R262). -/
def markerPhase (a t : Nat) : Nat :=
  let p := Config.clockPhase a % 3200
  let m := (t / 51200 + 1) * 51200
  tdcStamp (m + p) - m

/-- The trigger sample, FRAC and METHOD of a capture of converter `a`, once its trigger instant is known (R260 to R262). The phase of a trigger that stays unmeasured
is the free value drawn at acceptance. -/
def State.place (s : State) (a : Nat) (c : Capture) : Option (Nat × Nat × Nat) :=
  c.tTrig.map fun t =>
    let h := (s.gw.get a).hist
    if c.src = 2 then (t / 3200, 0, 3)
    else
      let g := gainAt h (t / 3200)
      let m := modeAt h (t / 3200)
      let tap := tTap c.ch
      let del := tGwDelay a g
      let ph := tGwDelay a 3
      let q := s.ch c.ch
      let how := if m != 0 && m != 3 && s.calHeld c.tapUse.chg tap && s.calHeld c.use.chg del && s.calHeld c.use.chg ph then 0
        else if q.onLaneB || q.laneBFail then 2 else 1
      let dly : Int := match how with
        | 0 => (s.useDie c.tapUse tap + s.useDie c.use del + s.useDie c.use ph) * 128
        | 1 => (([1100, 1300, 1550].getD g 1100 * 128 + markerPhase a t * 25 : Nat) : Int)
        | _ => (([1100, 1300, 1550].getD g 1100 * 128 + c.phase % 80000 : Nat) : Int)
      let x := ((25 * t : Int) + dly).toNat
      (x / 80000, x % 80000 * 64 / 80000, how)

/-- First window sample of a capture whose trigger sample is `n`. -/
def Capture.first (c : Capture) (n : Nat) : Nat := n - c.pre
/-- Last window sample. -/
def Capture.last (c : Capture) (n : Nat) : Nat := n + c.window - c.pre - 1

/-! Requests (R253 to R259). -/

/-- A flag for the channel-sheaf of channel `ch` in cell instance `n`: on the sheaf where it is open, else on the channel's next record. -/
def State.flagCell (s : State) (ch n b : Nat) : State :=
  s.mapCh ch fun q =>
    if q.sheaves.any fun h => h.cellNo == n && !(h.ph == .ready) then
      { q with sheaves := q.sheaves.map fun h => if h.cellNo = n && !(h.ph == .ready) then { h with flags := h.flags ||| BitVec.ofNat 32 (2 ^ b) } else h }
    else { q with pending := q.pending ||| BitVec.ofNat 32 (2 ^ b) }

/-- Converters other than `a` that channel `ch`'s tap drives (R258). -/
def State.tapLoad (s : State) (a ch : Nat) : Nat :=
  ((List.range 32).filter fun b => b != a && (s.gw.get b).ch == ch && !((s.gw.get b).mode == .off) && !((s.gw.get b).mode == .dead)).length

/-- The reason for which converter `a` refuses a request, by number: 0 DISABLED, 1 DEAD, 2 TEST, 3 CALGAP, 4 OFFCH, 5 CHBUSY, 6 NOCH (R258). A test pattern that still
waits for the captures ahead of it refuses already: DESIGN CHOICE (log 83), R244 speaks of a converter in TEST and R267 of a pattern connected after them. -/
def State.refusal (s : State) (a : Nat) (c : Capture) (noCh : Bool) : Option Nat :=
  let g := s.gw.get a
  if g.mode == .off || g.offPend then some 0
  else if g.mode == .dead then some 1
  else if (g.mode == .test || g.testPat.isSome) && c.src != 2 then some 2
  else if g.calgap && c.src == 0 then some 3
  else if noCh then some 6
  else if fieldOf c.profB 4 5 1 = 1 && c.ch != g.ch then some 4
  else if c.ch != g.ch && s.tapLoad a c.ch ≥ 2 then some 5
  else none

/-- The trigger sample expected of a capture: its own, or that of a CAPREQ from the scheduled fire instant of its cell's first shot (R254). -/
def State.expectTrig (s : State) (a : Nat) (c : Capture) : Nat :=
  match s.place a c with
  | some (n, _, _) => n
  | none =>
    match ((s.str a).run c.cellNo).bind fun r => r.shots.find? fun h => h.st == .scheduled || h.st == .admitted with
    | some h => h.tFire / 3200 + c.delay
    | none => s.sampleNow

/-- The instant at which a sample of a capture stands in the buffer: 14 sample periods after it was taken, and the filter's delay (R237). -/
def State.inBuffer (s : State) (c : Capture) (n : Nat) : Nat := (n + 14 + (tapsOf (s.filtBlk c.filt) - 1) / 2) * 3200

/-- The instant at which the captures ahead have all been read out: reading starts with the first window sample, runs at 2.0 G samples a second and
never passes the sample being written (R237, R256). -/
def State.readEnd (s : State) (a : Nat) : List Capture → Nat → Nat
  | [], t => t
  | c :: rest, t =>
    let n := s.expectTrig a c
    s.readEnd a rest (max (s.inBuffer c (c.last n)) (max t (s.inBuffer c (c.first n)) + c.window * 2560))

/-- A request reaches converter `a` (R254 to R258): the state, its outcome (0 accepted, 1 CAP_OVERRUN, 2 CAP_NOSPACE, 3 refused), and the refusal
reason. -/
def State.request (s : State) (a : Nat) (c : Capture) (noCh : Bool) : State × Nat × Nat :=
  let g := s.gw.get a
  match s.refusal a c noCh with
  | some r => (s.mapGw a fun g => { g with refused := updAt g.refused r (· + 1) }, 3, r)
  | none =>
    let c := { c with accAt := s.now, phase := freeNat s, use := s.gwUse a, tapUse := s.useOf c.ch }
    let start := match g.running with | some r => s.readEnd a (r :: g.waiting) r.runAt | none => s.now
    if g.waiting.length ≥ 2 || c.first (s.expectTrig a c) + 8192 ≤ start / 3200 then
      ((s.mapGw a fun g => { g with overrun := g.overrun + 1 }).flagCell c.ch c.cellNo 17, 1, 0)
    else if s.silo.waveQ + c.bytes > 1048576 then
      ((s.mapGw a fun g => { g with noSpace := g.noSpace + 1 }).flagCell c.ch c.cellNo 17, 2, 0)
    else
      let t := { s.useFree with silo := { s.silo with waveQ := s.silo.waveQ + c.bytes } }
      (((t.mapGw a fun g => { g with waiting := g.waiting ++ [c], use := some c.use }).checkCal 3 a).nextCapture a, 0, 0)

/-! The requests of one engine cycle (R227, R254). -/

/-- A request for converter `a` is raised; it reaches the converter with the others of its engine cycle. `sub` is the GLEAN_FORCE behind a host request. -/
def State.ask (s : State) (a : Nat) (c : Capture) (noCh : Bool) (sub : Option Nat) : State :=
  { s with glq := s.glq ++ [{ gw := a, cap := c, noCh := noCh, cyc := s.now / 5120, sub := sub }] }

/-- Order of requests that arrive in one engine cycle: CAPREQ, then trigger unit, then host (R254). -/
def GwReq.rank (r : GwReq) : Nat := match r.cap.src with | 1 => 0 | 0 => 1 | _ => 2
/-- One request goes before another. -/
def GwReq.before (x y : GwReq) : Bool := decide (x.cyc < y.cyc) || (x.cyc == y.cyc && decide (x.rank < y.rank))

/-- One request is taken; a GLEAN_FORCE completes with its outcome (R258, R263). -/
def State.serveReq (s : State) (r : GwReq) : State :=
  match s.request r.gw r.cap r.noCh with
  | (t, o, why) => match r.sub with
    | some k => t.finish k (reply 0 (le 4 o ++ le 4 why))
    | none => t

/-- The requests of the engine cycles that are over are taken, in order; with `all`, those of the present cycle too (R254). -/
def State.arbitrate (s : State) (all : Bool) : State :=
  let due (r : GwReq) : Bool := all || decide (r.cyc < s.now / 5120)
  if s.glq.isEmpty then s
  else (sortBy GwReq.before (s.glq.filter due)).foldl State.serveReq { s with glq := s.glq.filter fun r => !(due r) }

end Sys2Proof.Machine
end

