-- ==== Sys2Proof/Machine/Reset.lean ====
section
/-! DEFINITION. What a reset of the whole device leaves (R84, R377, R490, R523, R526, R527, R544). -/

namespace Sys2Proof.Machine

/-- The string after a reset that keeps the guard (R84, R527): its guard, and the output of its over-voltage comparator, which is analogue hardware
(R27, R97); every other part of the string is as at reset. -/
def StrState.guardOnly (q : StrState) : StrState := 
  { guard := q.guard, filled := q.filled, overV := q.overV, overVSince := q.overVSince }

/-- Counters of an engine after a reset that keeps them (R527). -/
def Engine.countersOnly (e z : Engine) : Engine := { z with cnt := e.cnt }

/-- The housekeeping block after an entry to RESET that keeps TRIPS and what is counted since POR_N (R470, R484, R490). -/
def Hk.tripsOnly (h : Hk) : Hk :=
  { trips := h.trips, tripSrc := h.tripSrc, tripOpen := h.tripOpen, tripAt := h.tripAt, tripRec := h.tripRec
    sensors := { h.sensors with cells := h.sensors.cells.map fun c => (c.1, { c.2 with value := 0, failed := false }) } }

/-- The state after a reset of the device. What lies outside it or in its non-volatile memories stays: pins driven from outside, fuses, flash,
the register RST_CAUSE. `sticky` keeps the sticky fields, the performance and engine counters, TRIPS and the SAFE latch; `guard` keeps the
emission budget guard; `hk` keeps the housekeeping configuration (R527, R544). -/
def State.afterReset (s : State) (sticky guard hk : Bool) : State :=
  let z := State.reset
  { z with
    ident := s.ident, jtag := s.jtag, otp := s.otp, flash := s.flash, now := s.now, free := s.free, out := s.out, pending := s.pending
    power := { s.power with pllLocked := false, clkMon := s.power.clkMon, resetTime := s.time.units, pllRetry := 0 }
    time := { units := s.time.units }
    pins := { z.pins with
      armEn := s.pins.armEn, armHighAt := s.pins.armHighAt, armFell := s.pins.armFell, porN := s.pins.porN, perstN := s.pins.perstN, refPcie := s.pins.refPcie
      refSds := s.pins.refSds, refPcie2 := s.pins.refPcie2 }
    dev := { z.dev with coldStart := s.dev.coldStart, safeLatch := sticky && s.dev.safeLatch }
    pf0 := { holdOnReset := sticky && s.pf0.holdOnReset }
    fw := { bootFailed := if sticky then s.fw.bootFailed else [false, false] }
    priv := if sticky then { cnt := s.priv.cnt, shd := s.priv.shd } else {}
    strs := if guard then { s.strs with cells := s.strs.cells.map fun c => (c.1, c.2.guardOnly) }
      else { dflt := {}, cells := s.strs.cells.filterMap fun c => if c.2.overV then some (c.1, { overV := true, overVSince := c.2.overVSince }) else none }
    seq := if guard then { guardT0 := s.seq.guardT0, guardIdx := s.seq.guardIdx } else { guardT0 := s.now }
    repair := { z.repair with
      log := s.repair.log, logBad := s.repair.logBad
      engines := if sticky then { z.repair.engines with cells := (List.range 1088).filterMap fun e =>
          let old := s.repair.engines.get e
          let new := z.repair.engines.get e
          if old.cnt == new.cnt && e < 1024 then none else some (e, old.countersOnly new) } else z.repair.engines }
    hk := if hk then s.hk else if sticky then s.hk.tripsOnly else {} }

/-- The device enters RESET (R374, R527): `src` is the cause that the next entry to BOOT records. -/
def State.toReset (s : State) (src : Nat) (sticky guard : Bool) : State :=
  let t := s.cutPulses.afterReset sticky guard false
  { t with power := { t.power with nextSrc := src } }

/-- The device enters BOOT at a stage; `src` is the cause that RST_CAUSE records; the pads are gated no longer (R27, R30, R374, R528, R540). -/
def State.enterBoot (s : State) (src stage : Nat) : State :=
  let t := s.goto 2 0
  { t with
    power := { t.power with
      src := src, boots := t.power.boots + 1, provActed := false, fwFallback := false, cfgFallback := false, rail := if src = 2 then t.power.rail else 7, kind := if src = 2 then t.power.kind else 7 }
    pins := { t.pins with fireGate := false }
    dev := { t.dev with stage := BitVec.ofNat 8 stage } }

end Sys2Proof.Machine
end

