-- ==== Sys2Proof/Machine/Settle.lean ====
section
/-! DEFINITION. Changes of device state and what follows every command: SAFE, HOLD and ARMED entry, REASONS, the closing of the stream
(R113, R116, R152, R193, R234, R267, R290, R291, R322 to R324, R374 to R377, R395, R396, R515). -/

namespace Sys2Proof.Machine

/-- One step of the CRC-8 of R111, polynomial x^8 + x^2 + x + 1, most significant bit first. -/
def crc8Bits : Nat → Nat → Nat
  | 0, c => c
  | n + 1, c => crc8Bits n (if c ≥ 128 then Nat.xor (c * 2 % 256) 7 else c * 2)

/-- The CRC-8 of R111 over bytes, initial value 0xFF. -/
def crc8 (l : List Nat) : Nat := l.foldl (fun c b => crc8Bits 8 (Nat.xor c b)) 0xFF

/-- The `n` bytes of `v`, most significant first. -/
def be (n v : Nat) : List Nat := ((List.range n).map fun i => v / 256 ^ i % 256).reverse

/-- A 48-bit SATBUS word from its bits 47:8, with its CRC, most significant byte first (R111). -/
def satWord (hi : Nat) : Bytes := (be 5 hi ++ [crc8 (be 5 hi)]).map (BitVec.ofNat 8)

/-- SAT_COUNT of the active drive descriptor (R127). -/
def State.satCount (s : State) : Nat := s.pf 2 0x08 0 5
/-- MODE of a string: 0 unused, 1 on-chip, 2 satellite (R127). -/
def State.strMode (s : State) (i : Nat) : Nat := s.pf 2 (0x40 + 16 * i) 0 2
/-- SAT_IDX of a string (R127). -/
def State.satIdx (s : State) (i : Nat) : Nat := s.pf 2 (0x40 + 16 * i) 4 4
/-- ILIM that satellite `k` is sent: that of its first string (R111, R127). -/
def State.satIlim (s : State) (k : Nat) : Nat :=
  match (List.range 32).find? fun i => s.strMode i == 2 && s.satIdx i == k with
  | some i => s.pf 2 (0x40 + 16 * i) 10 7
  | none => 0

/-- A SATBUS frame with command `cmd` and setpoint `vset k` for satellite `k` (R110, R111, R113); nothing without a drive descriptor.
Where the echo is checked, the frame's end is noted (R114). -/
def State.satFrame (s : State) (cmd : Nat) (vset : Nat → Nat) : State :=
  if (s.part 2).isEmpty then s else
  let n := s.satCount
  let seqNo := s.satbus.seqNo.toNat
  let share (k : Nat) : Bytes := satWord (pack [(36, 0xA), (34, cmd), (20, vset k), (12, s.satIlim k % 256), (8, k), (0, seqNo)])
  let b := (List.range n).flatMap share ++ satWord (pack [(36, 5), (0, seqNo)])
  let s := s.emit .satbus 0 cmd b
  { s with satbus := { s.satbus with
      seqNo := s.satbus.seqNo + 1, frames := s.satbus.frames + 1, lastSent := s.now
      startAt := s.now, busyTill := s.now + us 80 + ns 60000 * (n + 1)
      endAt := if s.pf 2 0x08 8 1 = 1 then some (s.now + us 80 + ns 60000 * (n + 1)) else none } }

/-- The newest SATBUS frame of the outputs cut down to its first `n` bytes. -/
def cutNewest (n : Nat) : List Emit → List Emit
  | [] => []
  | e :: rest => if e.kind == .satbus then { e with bytes := e.bytes.take n } :: rest else e :: cutNewest n rest

/-- A frame in progress is cut short by a reset: of its bits, 1.25 us each after the 80 us reset, whole bytes that have gone out stay, and no echo is
expected (R109, R110, R129). -/
def State.satCut (s : State) : State :=
  if s.now ≥ s.satbus.busyTill then s
  else { s with
    out := cutNewest ((s.now - s.satbus.startAt - us 80) / ns 1250 / 8) s.out
    satbus := { s.satbus with busyTill := s.now, endAt := none } }

/-- The SAFE frame (R113); one in progress is cut short (R129). -/
def State.satSafe (s : State) : State := s.satCut.satFrame 2 fun _ => 0

/-- Every bias group goes to its latched STBY_CODE, which its BIAS_TRIM output takes (R152, R153). -/
def State.biasStandby (s : State) : State :=
  let s := s.rx.groups.zipIdx.foldl (fun t (x : BiasGroup × Nat) => t.emit .bias x.2 x.1.stby []) s
  { s with rx := { s.rx with groups := s.rx.groups.map fun g =>
      { g with code := g.stby, changed := if g.code = g.stby then g.changed else s.now } } }

/-- Every bias output is pulled to 0 V and DET_HV_EN is low (R152: OFF, RESET, BOOT, THERMAL_OFF). -/
def State.biasOff (s : State) : State :=
  { s with pins := { s.pins with detHvEn := false }, rx := { s.rx with groups := s.rx.groups.map fun g => { g with code := 0, target := 0 } } }

/-- Counting spans that last as long as the cell end with it (R147). -/
def State.endSpans (s : State) : State :=
  { s with rx := { s.rx with chans := { s.rx.chans with cells := s.rx.chans.cells.map fun (c : Nat × ChanState) =>
      (c.1, { c.2 with sheaves := c.2.sheaves.map fun h => if h.spanLen.isNone then { h with spanLen := some (s.now - h.spanStart) } else h }) } } }

/-- With the cells, CAL cells end: no pass runs, no calibration source is connected, and CH_REF's counting span is over (R147, R159). -/
def State.endCalCells (s : State) : State :=
  let t := s.each (List.range 32) fun i t => t.calSource i false
  { t with
    cal := { t.cal with passes := t.cal.passes.map fun (p : CalPass) => { p with inProg := false } }
    gw := { t.gw with cells := t.gw.cells.map fun (x : Nat × GwState) => (x.1, { x.2 with fgSlice := none }) }
    rx := { t.rx with
      refSpans := match t.rx.refFrom with | some a => t.rx.refSpans ++ [(t.now, t.now - a, t.rx.refCount)] | none => t.rx.refSpans
      refFrom := none, refCount := 0 } }

/-- The current cell of every string ends, as though the next one had been declared (R45, R121, R147). -/
def State.endCells (s : State) : State :=
  let t := (((s.arbitrate false).each (List.range 32) fun i t => (t.cutString i).noFire i).endSpans).endCalCells
  { t with seq := { t.seq with nextCell := none } }

/-- F_NOM of the active drive descriptor in mHz (R127). -/
def State.fNom (s : State) : Nat := num (s.part 2) 0x10 4
/-- F_SPAN in mHz. -/
def State.fSpan (s : State) : Nat := s.pf 2 0x14 0 16 * 1000
/-- A drive frequency in mHz kept within F_NOM - F_SPAN to F_NOM + F_SPAN, in Hz (R116, R123). -/
def State.driveIn (s : State) (f : Rat) : Rat := max ((s.fNom - s.fSpan : Nat) : Rat) (min ((s.fNom + s.fSpan : Nat) : Rat) f) / 1000
/-- A drive DAC value within DRV_MAX (R116). -/
def State.levelIn (s : State) (v : Nat) : Nat := min v (s.pf 2 0x18 0 16)

/-- The fast axis is parked with zero drive: neither locked nor unlocked (R116). -/
def State.parkAxis (s : State) : State :=
  let s := s.endCells
  { s with steer := { s.steer with running := false, locked := false, driveFreq := 0, driveLevel := 0, lockRun := 0 } }

/-- The acquisition sequence of R116 starts: the drive sweeps down from F_NOM + F_SPAN, at a level that no rule gives, within DRV_MAX (log 7). -/
def State.startAxis (s : State) (restarts : Nat) (first : Bool) : State :=
  { s.useFree with steer := { s.steer with
      running := true, locked := false, acqStart := s.now, restarts := restarts, firstAcq := first, syncLast := s.now
      lockRun := 0, halfAt := s.now, driveLevel := s.levelIn (freeNat s), driveFreq := s.driveIn (s.fNom + s.fSpan : Nat) } }

/-- Finish every command that waits for one of `l` with a status. -/
def State.failWaiting (s : State) (l : List WaitK) (status : Nat) : State :=
  (s.cmds.inflight.filter fun e => l.contains e.wait && e.done.isNone && !e.abandoned).foldl (fun t e => t.finish e.sub (reply status)) s

/-- APPLY and STATE_SET commands that wait when the device leaves their states (R400, R548). -/
def State.failTransitions (s : State) : State := s.failWaiting [.applyFurrow, .applyCell, .toState, .ranging] 0x0200

/-- Outstanding alerts become void or resolved: ALERT_N is released, once it has been low for ALERT_PIN_MIN (R188, R193). -/
def State.clearAlerts (s : State) : State :=
  let t := { s with thresh := { s.thresh with outstanding := [] } }
  if t.thresh.pinSince.any fun a => decide (t.now < a + t.thresh.pinMin) then t
  else { t with thresh := { t.thresh with pinSince := none }, pins := { t.pins with alertN := true } }

/-- On the hardware path nothing but the final record is written any more: what waits in the alert queue of this device is dropped, while its alerts still count as unresolved
(R193, R324). -/
def State.voidAlerts (s : State) : State :=
  { s with thresh := { s.thresh with alertQ := s.thresh.alertQ.filter fun rc => recDev rc != s.devId } }

/-- Channel-sheaves that satisfy `p`, over all channels. -/
def State.sheafCount (s : State) (p : Sheaf → Bool) : Nat :=
  (s.rx.chans.cells.map fun c => (c.2.sheaves.filter p).length).sum

/-- Channel-sheaves that satisfy `p` are abandoned and counted (R234, R323). -/
def State.abandonSheaves (s : State) (p : Sheaf → Bool) : State :=
  { s with
    stream := { s.stream with sheavesLost := s.stream.sheavesLost + s.sheafCount p }
    rx := { s.rx with chans := { s.rx.chans with cells := s.rx.chans.cells.map fun c =>
      (c.1, { c.2 with sheaves := c.2.sheaves.filter fun h => !(p h), pairq := [], candq := [] }) } } }

/-- Captures that satisfy `p` are abandoned and counted (R267, R323). -/
def State.abandonCaptures (s : State) (p : Capture → Bool) : State :=
  s.each (List.range 32) fun a t =>
    let g := t.gw.get a
    let l := (g.running.toList ++ g.waiting).filter p
    if l.isEmpty then t
    else
      let t := t.mapGw a fun g => { g with running := g.running.filter fun x => !(p x), waiting := g.waiting.filter fun x => !(p x) }
      ({ t with stream := { t.stream with capsLost := t.stream.capsLost + l.length }
                silo := { t.silo with waveQ := t.silo.waveQ - (l.map Capture.bytes).sum } }).nextCapture a

/-- A retraction is formed and queued for every destination of its alert (R189, R193, R317, R349). -/
def State.retract (s : State) (r : Raised) (reason cls rangeMm : Nat) : State :=
  let rc := retractionRecord s.devId s.deviceTime.toNat r reason cls rangeMm
  let s := { s with thresh := { s.thresh with
    alertQ := s.thresh.alertQ ++ [rc], retracting := s.thresh.retracting ++ [r], outstanding := s.thresh.outstanding.filter fun a => a.id != r.id
    slices := s.thresh.slices.upd r.str fun q => { q with retracted := q.retracted + 1 } } }
  let s := if s.role == 2 && s.belongs && !s.isA0 && r.drover then s.sendUp rc else s
  s.recTake rc

/-- The automatic recovery of R377 is ruled out: GATE_STUCK, three FATALs within 1 s, or SAFE under R396. -/
def State.safeBars (s : State) (code : Nat) : Bool :=
  code == 0x2009 || (s.err.fatals.length == 3 && s.now - s.err.fatals.getD 2 0 ≤ sec 1)

/-- No calibration pass runs outside ARMED, RANGING and DEGRADED: one in progress is abandoned (R520, R547). -/
def State.dropPasses (s : State) : State :=
  { s with
    cal := { s.cal with passes := s.cal.passes.map fun (p : CalPass) => { p with inProg := false } }
    rx := { s.rx with groups := s.rx.groups.map fun (g : BiasGroup) => { g with deferred := false } } }

/-- Entry to SAFE for error `code` (R153, R296, R374, R377, R400, R513, R517). -/
def State.enterSafe (s : State) (code : Nat) : State :=
  let latch := s.safeBars code
  let s := s.goto 7 code
  let s := { s with
    dev := { s.dev with safeAt := s.now, safeNoAuto := latch, safeLatch := s.dev.safeLatch || latch,
                        autoPend := s.dev.autoResume && !latch, autoRanging := none }
    pins := { s.pins with faultN := false, detHvEn := true } }
  ((((s.biasStandby.satSafe).failTransitions).endTests).dropPasses).dropRuns

/-- The standby pair takes control at once (R395): every command in flight is answered RESUBMIT, a FW_HANDOVER with 0x0000; the old pair is
reset. Or no standby pair is available (R396): the active pair reloads, and owes the completions. -/
def State.pairTakeover (s : State) : State :=
  if s.fw.standbyOk then
    let s := { s with fw := { s.fw with active := 1 - s.fw.active, standbyOk := false, pairs := updAt s.fw.pairs s.fw.active fun p => { p with loading := true } },
                      cmds := { s.cmds with paused := false } }
    let moving := s.cmds.inflight.any fun e => e.op == 0x0C02 && e.started && e.done.isNone
    let s := s.cmds.inflight.foldl (fun t e => if e.done.isSome then t else t.finish e.sub (reply (if e.op = 0x0C02 then 0 else 0x0220))) s
    ((if moving then s.raise 0 8 else s).noteMicrocode s.fw.active).spareZero 6 0
  else { s with
    fw := { s.fw with reloadSubs := true, pairs := updAt s.fw.pairs s.fw.active fun p => { p with loading := true } }
    cmds := { s.cmds with paused := true }
    dev := { s.dev with safeNoAuto := true, safeLatch := true, autoPend := false } }

/-- The hardware safe state of a FATAL posted while another is handled (R27, R193, R234, R267, R395, R396, R515): fire lines low, bias to
standby, the stream closed on PATH 2, shadow runs abandoned, the standby pair in control; FATALs need no further handling. -/
def State.hwSafe (s : State) (code : Nat) : State :=
  let s := if s.safeBars code then { s with dev := { s.dev with safeNoAuto := true, safeLatch := true, autoPend := false } } else s
  let s := { s.cutPulses with pins := { s.pins with fireGate := true, faultN := false } }
  let s := (s.biasStandby.abandonSheaves fun _ => true).abandonCaptures fun _ => true
  let s := ((s.voidAlerts).closeStream 2).clearAlerts
  let s := { s with thresh := { s.thresh with retracting := [] } }.loseSuspicions
  let s := s.pairTakeover
  let keep (l : List ErrRec) := l.filter fun r => r.sev != 3
  { s with err := { s.err with handling := keep s.err.handling, unhandled := keep s.err.unhandled } }

/-- One FATAL of the running step takes its effect (R374, R513, R515). The third within 1 s latches a SAFE that holds already (R377, R515). -/
def State.onFatal (s : State) (code : Nat) : State :=
  let busy := (s.err.handling.filter fun r => r.sev == 3).length + (s.err.unhandled.filter fun r => r.sev == 3).length
  if s.isIn [3, 4, 5, 6] then s.enterSafe code
  else if s.code == 7 && busy ≥ 2 then s.hwSafe code
  else if s.code == 7 && code != 0x2009 && s.safeBars code then { s with dev := { s.dev with safeNoAuto := true, safeLatch := true, autoPend := false } }
  else s

/-- Every FATAL posted in the step, in order (R515, R520). -/
def State.settleFatals (s : State) : State :=
  let l := s.err.fatalDue
  l.foldl (fun t c => t.onFatal c) { s with err := { s.err with fatalDue := [] } }

/-- STRING_FAULT holds: a string is faulted, or one that STRING_REVERIFY moved has not returned to service (R291). -/
def State.stringReason (s : State) : Bool :=
  (List.range 32).any fun i => let q := s.str i; q.mode == .faulted || (q.mode == .unverified && q.fromFault)

/-- REASONS with the bits that follow a present condition: STRING_FAULT, DET_BIAS, DROVER_LANE (R291, R423). -/
def State.reasonsNow (s : State) : Word :=
  setReason (setReason (setReason s.dev.reasons 0 s.stringReason) 2 s.rx.hvBad) 11 (s.drover.ports.any fun p => p.st == .one)

/-- The error code whose record adds reason `i` (R319, R519). -/
def reasonCode (i : Nat) : Nat := [0x2008, 0x200C, 0x3002, 0x3005, 0x4005, 0x4002, 0x4002, 0x4002, 0x4002, 0x4002, 0x1006, 0x5005].getD i 0

/-- RANGING with a reason becomes DEGRADED, DEGRADED without one becomes RANGING (R291, R374). -/
def State.settleReasons (s : State) : State :=
  let r := s.reasonsNow
  let s := { s with dev := { s.dev with reasons := r } }
  if s.code = 5 && r != 0 then s.goto 6 (reasonCode (((List.range 12).find? fun i => r.getLsbD i).getD 0))
  else if s.code = 6 && r = 0 then s.goto 5 0
  else s

/-- Whether records that must precede a final record are still to come: alerts and retractions of this device, sheaf and waveform records (R193, R234, R267, R324). -/
def State.closingBusy (s : State) : Bool :=
  s.thresh.alertQ.any (fun rc => recDev rc == s.devId) || s.sheafCount (fun _ => true) != 0 || s.gw.cells.any fun c => c.2.caps (fun _ => true) != 0

/-- A close of PATH 0 or 1 that waits is carried out once no sheaf or capture is left: a status record showing the new state, then the
final record (R324); the command or the FATAL that it ends is done. -/
def State.tryClose (s : State) : State :=
  match s.stream.closing with
  | none => s
  | some p =>
    let s := (State.alertsFirst s.thresh.alertQ.length s).holdAlerts
    if s.closingBusy then s else
    let s := (s.status s.whyNow).closeStream p
    let s := if p = 1 then { s with err := { s.err with handling := s.err.handling.filter fun r => r.sev != 3 } } else s
    match s.waiting .closing with
    | some e => s.finish e.sub (reply 0)
    | none => s

/-- A REBOOT completes, and the reset follows 1 ms later; an orderly one waits until the stream is closed and the recording stopped (R399, R526). -/
def State.tryReboot (s : State) : State :=
  match s.waiting .reboot with
  | none => s
  | some e =>
    if e.arg = 1 && (s.stream.opened || !(s.recd.st == .idle || s.recd.st == .fault)) then s
    else
      let t := s.finish e.sub (reply 0)
      { t with dev := { t.dev with rebootAt := some (s.now + ms 1) } }

/-- The reset of a completed REBOOT: with the first step at or after its instant, once that step's own effect has been made (R399, R526; log 96). -/
def State.rebootDue (s : State) : State := if s.dev.rebootAt.any fun t => decide (s.now ≥ t) then s.toReset 4 true true else s

/-- TIME of a CAPREQ whose trigger instant is still to come is device time at that instant: it follows every change of device time until then (R301). -/
def State.retime (s : State) : State :=
  let fix (c : Capture) : Capture := if c.src = 1 && c.tTrig.any (fun t => decide (t > s.now)) then { c with time := s.timeAt (c.tTrig.getD 0) } else c
  { s with gw := { s.gw with cells := s.gw.cells.map fun (x : Nat × GwState) => (x.1, { x.2 with running := x.2.running.map fix, waiting := x.2.waiting.map fix }) } }

/-- The device state word is checked against its complement at every use: a mismatch is an integrity fault and FATAL (R319, R511, R512). -/
def State.checkWord (s : State) : State :=
  if s.dev.wordC == ~~~ s.dev.word || !s.holdUp then s
  else (s.integrityFault 5).post 0x1004 0 0 [s.dev.word.toNat, s.dev.wordC.toNat]

/-- What follows every command: the state word's check, the capture requests of the engine cycles that are over, FATALs, REASONS, a pending close, one status record for what changed (R322: merged causes). -/
def State.settle (s : State) : State :=
  let s := s.arbitrate (!s.err.fatalDue.isEmpty)
  let s := s.checkWord.retime.settleFatals.settleReasons.tryClose
  s.statusIfChanged.tryDrain.tryReboot.rebootDue

/-- The end of a step whose effect has led from `s` to `u`, `dt` ticks later: what follows every command, the clock, the queue as it was, and the
identity and the fuses as hardware keeps them (R5, R534, R538). -/
def endStep (dt : Nat) (s u : State) : State :=
  { u.settle with now := s.now + dt, pending := s.pending, ident := s.ident, otp := s.otp.burn u.otp }

/-- One command's effect, `dt` ticks after the one before, and what follows it. -/
def run (dt : Nat) (s : State) (f : State → State) : Host.Outcome State Fault Refusal := .next (endStep dt s (f (s.advance dt)))

/-- A step of a block that runs from HOLD to SAFE alone (R547): in the other states it does nothing. -/
def runUp (dt : Nat) (s : State) (f : State → State) : Host.Outcome State Fault Refusal :=
  run dt s fun t => if t.holdUp then f t else t

/-- Entry to HOLD (R113, R116, R152, R374, R375): bias to standby, SATBUS SAFE, the axis parked, and the stream closes on PATH 0 after the
sheaves that are open; a stream that SAFE is still closing closes on PATH 1. -/
def State.enterHold (s : State) (cause : Nat) : State :=
  let path := if s.code = 7 || s.stream.closing == some 1 then 1 else 0
  let s := s.goto 3 cause
  let s := { s with pins := { s.pins with detHvEn := false, fireGate := false, faultN := true }, dev := { s.dev with autoRanging := none } }
  let s := (((s.biasStandby.satSafe).parkAxis).endTests).dropPasses
  if s.stream.opened then { s with stream := { s.stream with closing := some path } } else s

/-- ARMED is entered: no channel has an estimate completed since (R149). -/
def State.freshEstimates (s : State) : State :=
  { s with rx := { s.rx with chans := { s.rx.chans with cells := s.rx.chans.cells.map fun (c : Nat × ChanState) => (c.1, { c.2 with lam := none, lamPrev := none }) } } }

/-- Entry to ARMED from HOLD (R116, R147, R152, R322): the stream opens, the axis starts, the bias supply is on, estimates start afresh. -/
def State.enterArmed (s : State) : State :=
  let s := (s.goto 4 0).freshEstimates
  let s := { s with
    pins := { s.pins with detHvEn := true }
    rx := { s.rx with
      groups := s.rx.groups.map fun (g : BiasGroup) => { g with aimed := false }
      chans := { s.rx.chans with cells := s.rx.chans.cells.map fun (c : Nat × ChanState) => (c.1, { c.2 with lastNormal := [] }) } } }
  (s.startAxis 0 true).openStream 1

end Sys2Proof.Machine
end

