-- ==== Sys2Proof/Machine/Regs.lean ====
section
/-! DEFINITION. The host's register accesses: doorbells, ring registers, the privileged page, MSI-X, and what every register reads
(R5, R11 to R14, R334 to R356 of 10_host_interface, R528 of 16_power_reset_startup). -/

namespace Sys2Proof.Machine

/-- A host access reaches the device: to a BAR (0 PF0 BAR0, 1 PF0 BAR2, 2 PF1 BAR0) with the link up and the function not in D3hot (R332); to the
configuration space of PF0 (3) or PF1 (4) with the link up (R328, log 62). -/
def State.reached (s : State) (bar : Nat) : Bool :=
  s.link.up && s.pins.perstN && (decide (bar ≥ 3) || !(s.func (if bar = 2 then 1 else 0)).d3)

/-- A live write is refused (R14, R336). -/
def State.refuse (s : State) (bar ofs : Nat) : State :=
  { s.mark keyWwa with pf0 := { s.pf0 with
      wwaCyc := s.cycle, wwaInc := if s.pf0.wwaCyc = s.cycle then s.pf0.wwaInc + 1 else 1
      wwa := true, wwaCnt := if s.pf0.wwaCnt = 0xFFFF then s.pf0.wwaCnt else s.pf0.wwaCnt + 1
      wwaOfs := BitVec.ofNat 26 ofs, wwaBar := BitVec.ofNat 2 bar } }

/-- A privileged-page access outside a session (R354). -/
def State.deny (s : State) : State :=
  { s with priv := { s.priv with
      denyCyc := s.cycle, denyInc := if s.priv.denyCyc = s.cycle then s.priv.denyInc + 1 else 1
      denyCnt := if s.priv.denyCnt = 0xFFFF then s.priv.denyCnt else s.priv.denyCnt + 1 } }

/-- A privileged-page access, with `f` its effect inside a session (R354, R387). -/
def State.privAccess (s : State) (f : State → State) : State :=
  if s.priv.opened then f { s with priv := { s.priv with lastUse := s.now } } else s.deny

/-! Mailbox and doorbells. -/

/-- MBX_DB is written (R337, R338, R367): each named slot that the device does not own is handed over. -/
def State.mbxDb (s : State) (v : Nat) : State :=
  if !s.dev.mbxReady then s else
  let l := (bitsOf 8 v).filter fun k => !(s.cmds.busy.getLsbD k)
  let s := { s with cmds := { s.cmds with
    busy := l.foldl (fun b k => setBit8 b k true) s.cmds.busy, queuedSlots := s.cmds.queuedSlots ++ l } }
  (s.admitSlots 8).rejectUnknown

/-- DB_ERR of ring `r` is set (R341). -/
def State.dbErr (s : State) (r : Nat) : State := (s.mapCmdRing r fun q => { q with dbErr := true }).mark (keyDbErr r)

/-- A doorbell of a ring is accepted: EN is set, or was cleared in this very cycle (R341, R360). -/
def State.doorOpen (s : State) (q : CmdRing) : Bool := q.en || q.offAt == s.cycle

/-- CMD_TAIL of ring `r` is written (R340, R341). -/
def State.cmdTailW (s : State) (r v : Nat) : State :=
  let q := s.cmds.rings.getD r {}
  if !s.doorOpen q then s else if v ≥ 2 ^ q.sizeLog2 then s.dbErr r else s.mapCmdRing r fun q => { q with cqTail := v }

/-- CPL_HEAD of ring `r` is written (R340, R341): it may free only entries that the device has written. -/
def State.cplHeadW (s : State) (r v : Nat) : State :=
  let q := s.cmds.rings.getD r {}
  let n := 2 ^ q.sizeLog2
  if !s.doorOpen q then s
  else if v ≥ n || (v + n - q.cplHead) % n > (q.cplTail + n - q.cplHead) % n then s.dbErr r
  else s.mapCmdRing r fun q => { q with cplHead := v }

/-- Commands fetched from ring `r` and not yet completed (INFLIGHT, R342); those that a reset of PF0 has cut off from their ring belong to it no longer
(R357). -/
def State.ringInflight (s : State) (r : Nat) : Nat := (s.cmds.inflight.filter fun e => !e.mbx && !e.discard && e.src == r).length
/-- STOPPED of ring `r` (R342). -/
def State.ringStopped (s : State) (r : Nat) : Bool := !(s.cmds.rings.getD r {}).en && s.ringInflight r == 0

/-- The indices and the phase return to their first values (R366). -/
def CmdRing.rewind (q : CmdRing) : CmdRing := { q with cqHead := 0, cqTail := 0, cplTail := 0, cplHead := 0, phase := true }

/-- The control register of command ring `r`, SIZE_LOG2 with EN and VEC_EN, is written (R342, R366). -/
def State.cmdRingCtl (s : State) (r v : Nat) : State :=
  let q := s.cmds.rings.getD r {}
  let size := v % 16
  if size != q.sizeLog2 && (!s.ringStopped r || size < 4 || size > 12) then s.refuse 1 (r * 0x10000 + 0x10)
  else s.mapCmdRing r fun q =>
    let q := if size != q.sizeLog2 then q.rewind else q
    { q with sizeLog2 := size, en := bit v 4, vecEn := bit v 5, offAt := if q.en && !(bit v 4) then s.cycle else q.offAt }

/-- How many descriptors one fetch of ring `r` may take (R343, R368). -/
def State.fetchRoom (s : State) (r : Nat) : Nat :=
  let q := s.cmds.rings.getD r {}
  let n := 2 ^ q.sizeLog2
  let used := (q.cplTail + n - q.cplHead) % n
  minOf 8 [s.fn0.mrrs / 64, (q.cqTail + n - q.cqHead) % n, 64 - s.cmds.inflight.length, n - 1 - used - s.ringInflight r]

/-- Ring `r` has entries pending that may be fetched (R343, R344, R367, R368); the boot ROM serves ring 0 alone (R378). -/
def State.mayFetch (s : State) (r : Nat) : Bool :=
  let q := s.cmds.rings.getD r {}
  q.en && !q.fetchErr && !s.cmds.paused && s.canWrite 0 && (r = 0 || !s.cmds.romOnly) && s.fetchRoom r != 0

/-- Rings are served in turn: `r` is the first ring that may fetch, from the one after the last served (R367). -/
def State.ringsTurn (s : State) (r : Nat) : Bool :=
  ((List.range 4).map fun k => (s.cmds.turn + k) % 4).find? (fun k => s.mayFetch k) == some r

/-- A descriptor fetch of ring `r`, whose turn it is, returns: its descriptors are submitted in ring order, or it fails with FETCH_ERR (R343, R344, R367). -/
def State.fetched (s : State) (r : Nat) (descs : Option (List Bytes)) : State :=
  if !s.ringsTurn r then s else
  let s := { s with cmds := { s.cmds with turn := (r + 1) % 4 } }
  match descs with
  | none => (s.mapCmdRing r fun q => { q with fetchErr := true, en := false }).mark (keyFetchErr r)
  | some l =>
    let l := l.take (s.fetchRoom r)
    let s := s.mapCmdRing r fun q => { q with cqHead := (q.cqHead + l.length) % 2 ^ q.sizeLog2 }
    (s.submitFetch r l).rejectUnknown

/-! Stream ring registers. -/

/-- Ring `r` is enabled (R346, R350): it starts empty; while the stream is open its first record is a status record with WHY bit 6; held
records follow unless DISCARD_HELD. -/
def State.ringEnable (s : State) (r : Nat) : State :=
  let q := s.srings.get r
  let keep := if q.discardHeld then [] else q.held
  let keepA := if q.discardHeld then [] else q.heldAlerts
  let s := s.mapRing r fun q => { q with prod := q.cons, full := false, held := [], heldAlerts := [], gotOpen := false }
  let s := if s.stream.opened then
      let rc := s.statusRecord 64
      let s := s.mapRing r fun q => { q with records := if q.opened then q.records else 0, opened := true }
      let t := s.statusTo rc r
      if s.gaveStatus t then t.raise 1 0 else t
    else s
  (s.mapRing r fun q => { q with held := q.held ++ keep, heldAlerts := q.heldAlerts ++ keepA }).drainRing r

/-- The control register of stream ring `r` is written (R346, R350, R351). -/
def State.streamRingCtl (s : State) (r v : Nat) : State :=
  let q := s.srings.get r
  let size := v % 32
  let mask := bits v 8 8
  let coal := bits v 16 8
  let batch := bits v 24 5
  let same := size == q.sizeLog2 && mask == q.typeMask.toNat && coal == q.coalesce && batch == q.batchLog2
  if size < 16 || size > 30 || coal > 128 || batch < 12 || batch > 20 || (q.en && !same) then s.refuse 2 (r * 0x100 + 8)
  else
    let en := bit v 5
    let s := s.mapRing r fun q => { q with
      sizeLog2 := size, vecEn := bit v 6, discardHeld := bit v 7, typeMask := BitVec.ofNat 8 mask, coalesce := coal, batchLog2 := batch
      en := en, held := if q.en && !en then q.batch ++ q.held else q.held, batch := if q.en && !en then [] else q.batch
      full := q.full && en }
    if en && !q.en then s.ringEnable r else s

/-- CONS_LO of ring `r` is written: the 64-bit count is committed if it lies between the previous count and PROD (R346). -/
def State.consLoW (s : State) (r v : Nat) : State :=
  let q := s.srings.get r
  let n : DWord := BitVec.ofNat 64 (q.consHi.toNat * 2 ^ 32 + v)
  let s := s.mapRing r fun q => { q with consLo := BitVec.ofNat 32 v }
  if n < q.cons || q.prod < n then (s.mapRing r fun q => { q with consErr := true }).mark (keyConsErr r)
  else ((s.mapRing r fun q => { q with cons := n }).serveRing r).updFull r

/-- All counters are copied to their shadows in one engine cycle (R354). -/
def State.snapAll (s : State) : State := { s with priv := { s.priv with shd := s.priv.cnt } }

/-- A vector is unmasked: a pending message follows (R352). -/
def State.unmask (s : State) (fn vec : Nat) : State :=
  let s := s.mapFn fn fun f => { f with msix := { f.msix with masked := f.msix.masked.set vec false } }
  s.sendPending fn

/-! Writes. -/

/-- Reserved bits of the register at an offset of a BAR; 0 where none is listed (R5, R335 to R347, R354, R528). R342 lists no field for bits 15:12 and 31:28 of
the index registers 0x14 and 0x18 of a command ring: they count as reserved (DESIGN CHOICE, log 71). -/
def reservedBits (bar ofs : Nat) : Nat :=
  match bar with
  | 0 =>
    if 0x20000 ≤ ofs && ofs < 0x20400 then (if ofs % 16 = 12 then 0xFFFFFFFE else if ofs % 16 = 0 then 3 else 0)
    else if 0x1000 ≤ ofs && ofs < 0x1020 then 0xFFFFF000
    else if ofs = 0x58 then 0xFFFFFFFE else if ofs = 0x5C then 0xFFFE else if ofs = 0x70 then 0xFF00F800
    else if ofs = 0x74 then 0xFFFFF800 else if ofs = 0x78 || ofs = 0x7C || ofs = 0x80 then 0xFFFFFF00
    else if ofs = 0x00 then 0xF else if ofs = 0x40 then 0xFE00 else if ofs = 0x50 then 0xFFFFF000 else if ofs = 0x54 then 0xF800
    else if ofs = 0x60 then 0x3C000000 else if ofs = 0x84 then 0xC0C0C0 else if ofs = 0x88 then 0xFF000080
    else if ofs = 0x100008 then 0xFE00FFF8 else if ofs = 0x100018 then 0xFF00FE00 else 0
  | 1 =>
    if ofs ≥ 0x40000 then 0 else
    match ofs % 0x10000 with
    | 0x00 => 0xFFF | 0x08 => 0xFFF | 0x10 => 0xFFFFFFC0 | 0x14 => 0xF000F000 | 0x18 => 0xF000F000
    | 0x1C => 0xFFFFFFF0 | 0x20 => 0xFFFFFF80 | _ => 0
  | 3 => 0
  | 4 => 0
  | _ =>
    if 0x80000 ≤ ofs && ofs < 0x80400 then (if ofs % 16 = 12 then 0xFFFFFFFE else if ofs % 16 = 0 then 3 else 0)
    else if ofs = 0x2000 then 0xFFFFFFFE
    else if ofs ≥ 0x2000 then 0 else
    match ofs % 0x100 with
    | 0x00 => 0xFFF | 0x08 => 0xE0000000 | 0x10 => 7 | 0x2C => 0xFFFFFFF0 | _ => 0

/-- An MSI-X table word is written; clearing a mask bit lets a pending message follow (R352). -/
def State.msixW (s : State) (fn ofs v : Nat) : State :=
  let vec := ofs / 16
  match ofs % 16 with
  | 0 => s.mapFn fn fun f => { f with msix := { f.msix with addr := f.msix.addr.upd vec fun a => BitVec.ofNat 64 (a.toNat / 2 ^ 32 * 2 ^ 32 + v) } }
  | 4 => s.mapFn fn fun f => { f with msix := { f.msix with addr := f.msix.addr.upd vec fun a => BitVec.ofNat 64 (a.toNat % 2 ^ 32 + v * 2 ^ 32) } }
  | 8 => s.mapFn fn fun f => { f with msix := { f.msix with data := f.msix.data.set vec (BitVec.ofNat 32 v) } }
  | _ => if bit v 0 then s.mapFn fn fun f => { f with msix := { f.msix with masked := f.msix.masked.set vec true } } else s.unmask fn vec

/-- The low or high half of a 64-bit value replaced. -/
def half (old : DWord) (hi : Bool) (v : Nat) : DWord :=
  if hi then BitVec.ofNat 64 (old.toNat % 2 ^ 32 + v * 2 ^ 32) else BitVec.ofNat 64 (old.toNat / 2 ^ 32 * 2 ^ 32 + v)

/-- A base register of command ring `r` is written while it is stopped; the indices start again (R342, R366). -/
def State.cmdBaseW (s : State) (r ofs v : Nat) : State :=
  if !s.ringStopped r then s.refuse 1 (r * 0x10000 + ofs)
  else s.mapCmdRing r fun q =>
    let q := q.rewind
    if ofs < 8 then { q with cqBase := half q.cqBase (ofs == 4) v } else { q with cplBase := half q.cplBase (ofs == 12) v }

/-- Of the `w` bits that a write of 1 clears, with keys from `k`, those of `v` that the hardware has not set in this cycle (R13). -/
def State.clearMask (s : State) (w k v : Nat) : Nat := maskOf w fun i => bit v i && !(s.isFresh (k + i))

/-- A register of the privileged page is written inside a session (R354). -/
def State.privW (s : State) (ofs v : Nat) : State :=
  match ofs with
  | 0x100008 =>
    let s := if bit v 1 then s.snapAll else s
    { s with priv := { s.priv with freeze := bit v 0, sampleEn := bit v 2, sampleSel := bits v 16 9 } }
  | 0x100010 => { s with priv := { s.priv with preset := half s.priv.preset false v } }
  | 0x100014 => { s with priv := { s.priv with preset := half s.priv.preset true v } }
  | 0x100018 => { s with priv := { s.priv with 
      sampleOvf := s.w1c keySampleOvf s.priv.sampleOvf (bit v 8), sampleRd := BitVec.ofNat 8 (bits v 16 8)
      sampleUnread := (s.priv.sampleWr.toNat + 256 - bits v 16 8) % 256 } }
  | _ => s

/-- A 4-byte write to PF0 BAR0 (R335, R337, R340, R352, R354). -/
def State.writeBar0 (s : State) (ofs v : Nat) : State :=
  if ofs = 0x100000 then s
  else if 0x100000 ≤ ofs && ofs < 0x200000 then s.privAccess fun t => t.privW ofs v
  else if 0x20000 ≤ ofs && ofs < 0x20400 then s.msixW 0 (ofs - 0x20000) v
  else if 0x1000 ≤ ofs && ofs < 0x1020 then
    (if ofs % 8 = 0 then s.cmdTailW ((ofs - 0x1000) / 8) v else s.cplHeadW ((ofs - 0x1000) / 8) v)
  else if 0x100 ≤ ofs && ofs < 0x300 then
    let k := (ofs - 0x100) / 64
    { s with cmds := { s.cmds with slots := updAt (padTo 8 [] s.cmds.slots) k fun b => splice (fit 64 b) (ofs % 64) (le 4 v) } }
  else match ofs with
    | 0x58 => { s with pf0 := { s.pf0 with holdOnReset := bit v 0 } }
    | 0x5C => { s with pf0 := { s.pf0 with wwa := s.w1c keyWwa s.pf0.wwa (bit v 0) } }
    | 0x70 => { s with err := { s.err with ovf := s.w1c keyErrOvf s.err.ovf (bit v 10), rd := BitVec.ofNat 8 (bits v 16 8) } }
    | 0x74 => { s with pf0 := { s.pf0 with intPend := s.pf0.intPend &&& ~~~ BitVec.ofNat 11 (s.clearMask 11 0 v) } }
    | 0x78 => s.mbxDb v
    | 0x80 => { s with cmds := { s.cmds with done := s.cmds.done &&& ~~~ BitVec.ofNat 8 (s.clearMask 8 (keyMbxDone 0) v) } }
    | _ => s

/-- A 4-byte write to PF0 BAR2 (R342). -/
def State.writeBar2 (s : State) (ofs v : Nat) : State :=
  let r := ofs / 0x10000
  if r ≥ 4 then s else
  match ofs % 0x10000 with
  | 0x00 => s.cmdBaseW r 0 v
  | 0x04 => s.cmdBaseW r 4 v
  | 0x08 => s.cmdBaseW r 8 v
  | 0x0C => s.cmdBaseW r 12 v
  | 0x10 => s.cmdRingCtl r v
  | 0x1C => s.mapCmdRing r fun q => 
      { q with dbErr := s.w1c (keyDbErr r) q.dbErr (bit v 0), fetchErr := s.w1c (keyFetchErr r) q.fetchErr (bit v 1) }
  | _ => s

/-- A 4-byte write to PF1 BAR0 (R346, R352). -/
def State.writePf1 (s : State) (ofs v : Nat) : State :=
  if 0x80000 ≤ ofs && ofs < 0x80400 then s.msixW 1 (ofs - 0x80000) v
  else if ofs ≥ 0x2000 then s
  else
    let r := ofs / 0x100
    let en := (s.srings.get r).en
    let stoppedOnly (f : StreamRing → StreamRing) : State := if en then s.refuse 2 ofs else s.mapRing r f
    match ofs % 0x100 with
    | 0x00 => stoppedOnly fun q => { q with base := half q.base false v }
    | 0x04 => stoppedOnly fun q => { q with base := half q.base true v }
    | 0x08 => s.streamRingCtl r v
    | 0x0C => stoppedOnly fun q => { q with blockMask := BitVec.ofNat 32 v }
    | 0x10 => stoppedOnly fun q => { q with wb := half q.wb false v }
    | 0x14 => stoppedOnly fun q => { q with wb := half q.wb true v }
    | 0x18 => s.consLoW r v
    | 0x1C => s.mapRing r fun q => { q with consHi := BitVec.ofNat 32 v }
    | 0x2C => s.mapRing r fun q => 
        { q with consErr := s.w1c (keyConsErr r) q.consErr (bit v 1), heldDrop := s.w1c (keyHeldDrop r) q.heldDrop (bit v 2) }
    | _ => s

/-! What every register reads. -/

/-- The low word of PRIV_STS (R354). -/
def State.privSts (s : State) : Nat := pack [(0, b2n s.priv.opened), (16, s.priv.denyCnt.toNat)]
/-- The word with WWA and WWA_CNT (R335). -/
def State.wwaWord (s : State) : Nat := pack [(0, b2n s.pf0.wwa), (16, s.pf0.wwaCnt.toNat)]


/-- STREAM_CAP in MB/s of 10^6 B/s by trained speed and width (R20, R327). -/
def capMB (gen width : Nat) : Nat :=
  if gen = 4 then (match width with | 8 => 12600 | 4 => 6300 | 2 => 3150 | 1 => 1580 | _ => 0)
  else if gen = 3 then (match width with | 8 => 6300 | 4 => 3150 | 2 => 1580 | 1 => 790 | _ => 0)
  else 0

/-- The word at an offset of PF0 BAR0 outside the privileged page (R5, R335, R337, R528). -/
def State.readBar0 (s : State) (ofs : Nat) : Nat :=
  if 0x20000 ≤ ofs && ofs < 0x20400 then
    let m := s.fn0.msix
    let v := (ofs - 0x20000) / 16
    match ofs % 16 with
    | 0 => (m.addr.get v).toNat % 2 ^ 32 | 4 => (m.addr.get v).toNat / 2 ^ 32 | 8 => (m.data.get v).toNat | _ => b2n (m.masked.get v)
  else if 0x100 ≤ ofs && ofs < 0x300 then num (fit 64 (s.cmds.slots.getD ((ofs - 0x100) / 64) [])) (ofs % 64) 4
  else match ofs with
    | 0x00 => pack [(4, s.ident.variant.toNat), (8, s.ident.stepping.toNat), (16, 0x5120)]
    | 0x04 => s.ident.identC.toNat
    | 0x08 => s.ident.serial.toNat % 2 ^ 32
    | 0x0C => s.ident.serial.toNat / 2 ^ 32
    | 0x40 => pack [(0, s.dev.stage.toNat), (8, b2n s.dev.mbxReady), (16, s.dev.code.toNat)]
    | 0x44 => s.dev.word.toNat
    | 0x48 => s.dev.wordC.toNat
    | 0x4C => s.dev.reasons.toNat
    | 0x50 => pack [(0, s.hk.level), (2, s.seq.variant), (5, s.fw.active), (6, b2n s.fw.standbyOk), (7, b2n s.pins.armEn), (8, b2n s.steer.locked),
        (9, b2n !s.pins.faultN), (10, b2n !s.pins.alertN), (11, b2n !s.pins.thermN)]
    | 0x54 => pack [(0, s.link.gen), (4, s.link.width), (10, b2n s.link.belowCap), (16, capMB s.link.gen s.link.width / 10)]
    | 0x58 => b2n s.pf0.holdOnReset
    | 0x5C => s.wwaWord
    | 0x60 => pack [(0, s.pf0.wwaOfs.toNat), (30, s.pf0.wwaBar.toNat)]
    | 0x68 => s.deviceTime.toNat % 2 ^ 32
    | 0x6C => s.pf0.timeHi.toNat
    | 0x70 => pack [(0, s.err.wr.toNat), (8, s.err.lastSev), (10, b2n s.err.ovf), (16, s.err.rd.toNat)]
    | 0x74 => s.pf0.intPend.toNat
    | 0x7C => s.cmds.busy.toNat
    | 0x80 => s.cmds.done.toNat
    | 0x84 => pack [(0, 2 ^ s.power.src), (8, s.power.rail.toNat), (11, s.power.kind.toNat), (16, b2n s.power.fwImg), (17, b2n s.power.fwFallback),
        (18, b2n s.power.cfgImg), (19, b2n s.power.cfgFallback), (20, b2n s.power.flashSingle), (21, b2n s.power.provActed), (24, s.power.boots.toNat)]
    | 0x88 => pack [(0, s.otp.fwCtr), (8, s.otp.schedCtr), (15, b2n s.otp.provLock), (16, s.otp.schedRev.toNat), (20, s.otp.sessRev.toNat)]
    | 0x21000 => s.fn0.msix.pba.toNat % 2 ^ 32
    | 0x21004 => s.fn0.msix.pba.toNat / 2 ^ 32
    | _ => 0

/-- The 16-byte value of a repair log entry (R293). -/
def RepairEnt.bytes (e : RepairEnt) : Bytes :=
  le 1 e.kind ++ le 1 e.cause ++ le 2 e.object ++ le 2 e.subst ++ le 2 (b2n e.restored) ++ le 8 e.time.toNat

/-- The word at an offset of the privileged page, inside a session (R354). -/
def State.readPriv (s : State) (ofs : Nat) : Nat :=
  let p := s.priv
  if 0x108000 ≤ ofs && ofs < 0x10C000 then num (fit 64 (s.err.slots.get ((ofs - 0x108000) / 64))) (ofs % 64) 4
  else if 0x104000 ≤ ofs && ofs < 0x106000 then
    match s.repair.log[(ofs - 0x104000) / 32]? with
    | some e => num (e.bytes ++ compl e.bytes) (ofs % 32) 4
    | none => num (le 16 0 ++ compl (le 16 0)) (ofs % 32) 4
  else if 0x103000 ≤ ofs && ofs < 0x104000 then num (fit 16 (p.samples.get ((ofs - 0x103000) / 16))) (ofs % 16) 4
  else if 0x102000 ≤ ofs && ofs < 0x103000 then
    let v := (p.shd.get ((ofs - 0x102000) / 8)).toNat
    if ofs % 8 = 0 then v % 2 ^ 32 else v / 2 ^ 32
  else if 0x101000 ≤ ofs && ofs < 0x102000 then
    let i := (ofs - 0x101000) / 8
    if ofs % 8 = 0 then (p.cnt.get i).toNat % 2 ^ 32 else (p.cntHi.get i).toNat
  else match ofs with
    | 0x100008 => pack [(0, b2n p.freeze), (2, b2n p.sampleEn), (16, p.sampleSel)]
    | 0x100010 => p.preset.toNat % 2 ^ 32
    | 0x100014 => p.preset.toNat / 2 ^ 32
    | 0x100018 => pack [(0, p.sampleWr.toNat), (8, b2n p.sampleOvf), (16, p.sampleRd.toNat)]
    | _ => 0

/-- The word at an offset of PF0 BAR2 (R342). -/
def State.readBar2 (s : State) (ofs : Nat) : Nat :=
  let r := ofs / 0x10000
  if r ≥ 4 then 0 else
  let q := s.cmds.rings.getD r {}
  match ofs % 0x10000 with
  | 0x00 => q.cqBase.toNat % 2 ^ 32 | 0x04 => q.cqBase.toNat / 2 ^ 32
  | 0x08 => q.cplBase.toNat % 2 ^ 32 | 0x0C => q.cplBase.toNat / 2 ^ 32
  | 0x10 => pack [(0, q.sizeLog2), (4, b2n q.en), (5, b2n q.vecEn)]
  | 0x14 => pack [(0, q.cqHead), (16, q.cqTail)]
  | 0x18 => pack [(0, q.cplTail), (16, q.cplHead)]
  | 0x1C => pack [(0, b2n q.dbErr), (1, b2n q.fetchErr), (2, b2n q.cplFull), (3, b2n (s.ringStopped r))]
  | 0x20 => s.ringInflight r
  | _ => 0

/-- The word at an offset of PF1 BAR0 (R346, R347). -/
def State.readPf1 (s : State) (ofs : Nat) : Nat :=
  if 0x80000 ≤ ofs && ofs < 0x80400 then
    let m := s.fn1.msix
    let v := (ofs - 0x80000) / 16
    match ofs % 16 with
    | 0 => (m.addr.get v).toNat % 2 ^ 32 | 4 => (m.addr.get v).toNat / 2 ^ 32 | 8 => (m.data.get v).toNat | _ => b2n (m.masked.get v)
  else if ofs = 0x81000 then s.fn1.msix.pba.toNat % 2 ^ 32
  else if ofs = 0x81004 then s.fn1.msix.pba.toNat / 2 ^ 32
  else if ofs = 0x2000 then b2n s.stream.opened
  else if ofs ≥ 0x2000 then 0 else
  let q := s.srings.get (ofs / 0x100)
  match ofs % 0x100 with
  | 0x00 => q.base.toNat % 2 ^ 32 | 0x04 => q.base.toNat / 2 ^ 32
  | 0x08 => pack [(0, q.sizeLog2), (5, b2n q.en), (6, b2n q.vecEn), (7, b2n q.discardHeld), (8, q.typeMask.toNat), (16, q.coalesce), (24, q.batchLog2)]
  | 0x0C => q.blockMask.toNat
  | 0x10 => q.wb.toNat % 2 ^ 32 | 0x14 => q.wb.toNat / 2 ^ 32
  | 0x18 => q.consLo.toNat | 0x1C => q.consHi.toNat
  | 0x20 => q.prod.toNat % 2 ^ 32 | 0x24 => q.prodHi.toNat
  | 0x28 => sat32 ((bytesIn q.held + bytesIn q.heldAlerts) / 1024)
  | 0x2C => pack [(0, b2n q.full), (1, b2n q.consErr), (2, b2n q.heldDrop), (3, b2n (q.gotOpen && s.stream.opened))]
  | _ => 0

/-- What a 4-byte read of the register at an offset of a BAR returns, before any side effect of the read (R11, R334, R354). -/
def State.readReg (s : State) (bar ofs : Nat) : Nat :=
  match bar with
  | 0 => if ofs = 0x100000 then s.privSts
         else if 0x100000 ≤ ofs && ofs < 0x200000 then (if s.priv.opened then s.readPriv ofs else 0)
         else s.readBar0 ofs
  | 1 => s.readBar2 ofs
  | 3 => s.cfgWord 0 ofs
  | 4 => s.cfgWord 1 ofs
  | _ => s.readPf1 ofs

/-- What a host read of `len` bytes returns, before any side effect (R334): 4 bytes, aligned, the register; 8 bytes, aligned, the lower register and then
the upper; any other size 0. -/
def State.readSized (s : State) (bar ofs len : Nat) : Nat :=
  if len = 4 && ofs % 4 = 0 then s.readReg bar ofs
  else if len = 8 && ofs % 8 = 0 then s.readReg bar ofs + 2 ^ 32 * s.readReg bar (ofs + 4)
  else 0

/-! Reads with a side effect. -/

/-- WWA_CNT without the increments of the present cycle, which the next read returns (R13). -/
def State.wwaKept (s : State) : Nat := if s.pf0.wwaCyc = s.cycle then min s.pf0.wwaInc s.pf0.wwaCnt.toNat else 0
/-- The same of DENY_CNT. -/
def State.denyKept (s : State) : Nat := if s.priv.denyCyc = s.cycle then min s.priv.denyInc s.priv.denyCnt.toNat else 0

/-- The side effect of a read of the 4-byte register at an offset (R11, R13, R335, R346, R354): TIME_LO and PROD_LO latch their upper halves, the low word of a
counter its high word, WWA_CNT and DENY_CNT are cleared but for what the present cycle added, and an access to the privileged page counts. -/
def State.readEffect (s : State) (bar ofs : Nat) : State :=
  if bar = 0 && ofs = 0x68 then { s with pf0 := { s.pf0 with timeHi := BitVec.ofNat 32 (s.deviceTime.toNat / 2 ^ 32) } }
  else if bar = 0 && ofs = 0x5C then { s with pf0 := { s.pf0 with wwaCnt := BitVec.ofNat 16 s.wwaKept } }
  else if bar = 0 && ofs = 0x100000 then { s with priv := { s.priv with denyCnt := BitVec.ofNat 16 s.denyKept } }
  else if bar = 0 && 0x100000 ≤ ofs && ofs < 0x200000 then
    s.privAccess fun t =>
      if 0x101000 ≤ ofs && ofs < 0x102000 && ofs % 8 = 0 then
        let i := (ofs - 0x101000) / 8
        { t with priv := { t.priv with cntHi := t.priv.cntHi.set i (BitVec.ofNat 32 ((t.priv.cnt.get i).toNat / 2 ^ 32)) } }
      else t
  else if bar = 2 && ofs < 0x2000 && ofs % 0x100 = 0x20 then
    s.mapRing (ofs / 0x100) fun q => { q with prodHi := BitVec.ofNat 32 (q.prod.toNat / 2 ^ 32) }
  else s

/-- The value that a read of a 4-byte register gives: the increments of an RC counter in the present cycle are left for the next read (R13). -/
def State.readValue (s : State) (bar ofs : Nat) : Nat :=
  if bar = 0 && ofs = 0x5C then s.wwaWord - s.wwaKept * 0x10000
  else if bar = 0 && ofs = 0x100000 then s.privSts - s.denyKept * 0x10000
  else s.readReg bar ofs

/-- A host read of `len` bytes (R11, R334): the value goes to the host, and each register read has its effect, the lower one first. A read of another size
returns 0, and still counts as an access to the privileged page. -/
def State.hostR (s : State) (bar ofs len : Nat) : State :=
  if !s.reached bar then s
  else if len = 4 && ofs % 4 = 0 then (s.readEffect bar ofs).emit .read bar ofs (le 4 (s.readValue bar ofs))
  else if len = 8 && ofs % 8 = 0 then
    let t := s.readEffect bar ofs
    (t.readEffect bar (ofs + 4)).emit .read bar ofs (le 4 (s.readValue bar ofs) ++ le 4 (t.readValue bar (ofs + 4)))
  else (if bar = 0 && 0x100000 ≤ ofs && ofs < 0x200000 && ofs / 4 != 0x40000 then s.privAccess id else s).emit .read bar ofs (le len 0)

/-! The commands. A 1 written to a reserved bit has no stated effect (R12): the write stops with a fault (log 6). -/

/-- A register write that stops where it meets a reserved bit (R12). -/
def runW (dt : Nat) (s : State) (bad : Bool) (f : State → State) : Host.Outcome State Fault Refusal :=
  if bad then .fault .reservedBitWritten else run dt s f

/-- MBX_DB (R337). -/
def execMbxDb (dt v : Nat) (s : State) : Host.Outcome State Fault Refusal :=
  runW dt s (s.reached 0 && v &&& 0xFFFFFF00 != 0) fun t => if t.reached 0 then t.mbxDb v else t
/-- CMD_TAIL (R340). -/
def execCmdTail (dt r v : Nat) (s : State) : Host.Outcome State Fault Refusal :=
  runW dt s (s.reached 0 && v &&& 0xFFFFF000 != 0) fun t => if t.reached 0 then t.cmdTailW r v else t
/-- CPL_HEAD (R340). -/
def execCplHead (dt r v : Nat) (s : State) : Host.Outcome State Fault Refusal :=
  runW dt s (s.reached 0 && v &&& 0xFFFFF000 != 0) fun t => if t.reached 0 then t.cplHeadW r v else t
/-- CMD_RING_CONTROL_WRITE (R342). -/
def execCmdRingControlWrite (dt r v : Nat) (s : State) : Host.Outcome State Fault Refusal :=
  runW dt s (s.reached 1 && v &&& 0xFFFFFFC0 != 0) fun t => if t.reached 1 then t.cmdRingCtl r v else t
/-- COMMAND_FETCH (R343). -/
def execCommandFetch (dt r : Nat) (descs : Option (List Bytes)) (s : State) : Host.Outcome State Fault Refusal := run dt s fun t => t.fetched r descs
/-- STREAM_RING_CONTROL_WRITE (R346). -/
def execStreamRingControlWrite (dt r v : Nat) (s : State) : Host.Outcome State Fault Refusal :=
  runW dt s (s.reached 2 && v &&& 0xE0000000 != 0) fun t => if t.reached 2 then t.streamRingCtl r v else t
/-- CONS_LO (R346). -/
def execConsLo (dt r v : Nat) (s : State) : Host.Outcome State Fault Refusal := run dt s fun t => if t.reached 2 then t.consLoW r v else t
/-- TIME_LO (R335): a host read of `len` bytes at TIME_LO; one of 8 bytes reads TIME_HI as just latched. -/
def execTimeLo (dt len : Nat) (s : State) : Host.Outcome State Fault Refusal := run dt s fun t => t.hostR 0 0x68 len
/-- PROD_LO (R346): a host read of `len` bytes at PROD_LO of ring `r`. -/
def execProdLo (dt r len : Nat) (s : State) : Host.Outcome State Fault Refusal := run dt s fun t => t.hostR 2 (r * 0x100 + 0x20) len
/-- COUNTER_LOW_READ (R354): a host read of `len` bytes on the privileged page, `ofs` from its start; the low word of counter i is at 0x1000 + 8 i (log 62). -/
def execCounterLowRead (dt ofs len : Nat) (s : State) : Host.Outcome State Fault Refusal := run dt s fun t => t.hostR 0 (0x100000 + ofs % 0x100000) len
/-- RC_FIELD_READ (R11): a host read of `len` bytes at the word with DENY_CNT (`deny`) or WWA_CNT; 8 bytes read WWA_CNT with the word below it. -/
def execRcFieldRead (dt : Nat) (deny : Bool) (len : Nat) (s : State) : Host.Outcome State Fault Refusal :=
  run dt s fun t => t.hostR 0 (if deny then 0x100000 else if len = 8 then 0x58 else 0x5C) len
/-- SNAP (R354). -/
def execSnap (dt : Nat) (s : State) : Host.Outcome State Fault Refusal := run dt s fun t => if t.reached 0 then t.privAccess State.snapAll else t
/-- MSIX_UNMASK (R352). -/
def execMsixUnmask (dt fn vec : Nat) (s : State) : Host.Outcome State Fault Refusal :=
  run dt s fun t => if t.reached (if fn = 0 then 0 else 2) then t.unmask fn vec else t

end Sys2Proof.Machine
end

