-- ==== Sys2Proof/Machine/Cmds.lean ====
section
/-! DEFINITION. Commands of the Grazil set that act on the device, staging, sessions, counters and firmware as a whole
(R363 to R399 of 11_grazil_command_set; R417, R421 of 12; R531 to R539 of 16). -/

namespace Sys2Proof.Machine

/-- A command of the Grazil set as a whole step. -/
def runGcs (dt op sub : Nat) (payload : Option Bytes) (s : State) (body : Body) : Host.Outcome State Fault Refusal :=
  run dt s fun t => t.gcs op sub payload body

/-! Firmware images (R533, R536). -/

/-- VERSION of a firmware image, 0 for none. -/
def fwVersion (b : Bytes) : Nat := num b 0x0C 4
/-- SEC_VER of a firmware image. -/
def fwSecVer (b : Bytes) : Nat := num b 0x10 4
/-- GEN of a firmware image. -/
def fwGen (b : Bytes) : Nat := num b 0x08 4

/-- The hash that OTP holds for a key slot accepts a public key: written, usable, and equal (R68, R386, R534). Kinds: 0 firmware,
1 schedule, 2 session. -/
def State.keyOk (s : State) (kind slot : Nat) (key : Bytes) : Bool :=
  let l := match kind with | 0 => s.otp.fwHash | 1 => s.otp.schedHash | _ => s.otp.sessHash
  let revoked := match kind with | 0 => false | 1 => bit s.otp.schedRev.toNat slot | _ => bit s.otp.sessRev.toNat slot
  let h := l.getD slot []
  slot < 4 && !h.isEmpty && !revoked && !(s.otp.badHash.contains (kind * 4 + slot)) && sha384 key == h

/-- The signature block `b` of 208 or more bytes verifies over `msg` with a key of `kind` (R67, R68). -/
def State.sigOk (s : State) (kind : Nat) (b msg : Bytes) : Bool :=
  let key := slice b 0x10 96
  s.keyOk kind (byteAt b 0) key && ecdsaOk key (slice b 0x70 48) (slice b 0xA0 48) msg

/-- The header of a firmware image is well formed: complement, MAGIC, FORMAT, LEN (R533, R536). -/
def fwHeaderOk (b : Bytes) : Bool :=
  slice b 64 64 == compl (slice b 0 64) && num b 0 4 == 0x4957464A && num b 4 2 == 1 && num b 0x18 4 ≤ 0x200000 - 384
    && decide (384 + num b 0x18 4 ≤ b.length)

/-- The checks of R536 on a firmware image: 0, FW_SIGNATURE or FW_ROLLBACK. -/
def State.fwCheck (s : State) (b : Bytes) : Nat :=
  if !(fwHeaderOk b && s.sigOk 0 (slice b 128 256) (slice b 0 64 ++ slice b 384 (num b 0x18 4))) then 0x0419
  else if fwSecVer b < s.otp.fwCtr then 0x041A else 0

/-- A Steward pair. -/
def State.pair (s : State) (i : Nat) : StwPair := s.fw.pairs.getD i {}
/-- The standby pair's number. -/
def State.standby (s : State) : Nat := 1 - s.fw.active
/-- The state with a pair changed. -/
def State.mapPair (s : State) (i : Nat) (f : StwPair → StwPair) : State := { s with fw := { s.fw with pairs := updAt s.fw.pairs i f } }

/-- POLICY as a word: AUTO_RESUME in bit 0, the time source in bits 2:1 (R376, R399, R417; the packing is the model's, log 17). -/
def State.policyWord (s : State) : Nat := pack [(0, b2n s.dev.autoResume), (1, s.dev.timeSource)]

/-- DEVICE_INFO. -/
def bodyDeviceInfo : Body := answer fun _ s =>
  reply 0 (le 4 (fwVersion (s.pair s.fw.active).image) ++ le 4 (fwVersion (s.pair s.standby).image) ++ le 4 s.repair.mcRun ++ le 4 s.policyWord)

/-- A policy record of generation `g` with its complement (R531; the order of its fields is the model's, log 17). -/
def policyRecord (v g : Nat) : Bytes := let b := fit 64 (le 4 v ++ le 4 g); b ++ compl b
/-- The generation of copy `i` of the policy record, if the copy agrees with its complement. -/
def State.policyGen (s : State) (i : Nat) : Option Nat :=
  let b := s.flash.policy.getD i []
  if b.length = 128 && compl (b.take 64) == b.drop 64 then some (num b 4 4) else none
/-- The copy of the policy record that holds: the valid one of higher generation. -/
def State.policyPick (s : State) : Option Nat :=
  match s.policyGen 0, s.policyGen 1 with
  | some a, some b => some (if b > a then 1 else 0)
  | some _, none => some 0
  | none, some _ => some 1
  | none, none => none
/-- The policy that the flash holds: AUTO_RESUME and the time source; both 0 while neither copy is valid (log 2). -/
def State.storedPolicy (s : State) : Bool × Nat :=
  match s.policyPick with
  | some i => let b := s.flash.policy.getD i []; (fieldOf b 0 0 1 == 1, fieldOf b 0 1 2)
  | none => (false, 0)
/-- The policy record is written over the older copy (R376, R417, R531). -/
def State.storePolicy (s : State) : State :=
  let i := match s.policyPick with | some k => 1 - k | none => 0
  let g := (((s.policyPick).bind fun k => s.policyGen k).getD 0) + 1
  { s with flash := { s.flash with policy := s.flash.policy.set i (policyRecord s.policyWord g) } }

/-- POLICY_SET (R376, R399). Clearing AUTO_RESUME ends a pending automatic recovery (R377). -/
def bodyPolicySet (flashOk : Bool) : Body := fun e _ s =>
  if !flashOk then (s, some (reply 0x0500))
  else
    let on := e.p 0 0 1 == 1
    let old := b2n s.dev.autoResume
    let t := { s with dev := { s.dev with autoResume := on, autoPend := on && s.code == 7 && !s.dev.safeNoAuto } }
    (t.storePolicy, some (reply 0 (le 4 old)))

/-- Device time stepped to `t` nanoseconds (R417). -/
def State.stepTime (s : State) (t : Nat) : State := { s with time := { s.time with units := t * 5120000000000, lastHostSet := s.now } }

/-- The completion of a TIME_SET: device time before the step, and the time stepped to (R399, log 17). -/
def timeSetReply (before after : Nat) : Completion := reply 0 (le 8 before ++ le 8 after)

/-- TIME_SET (R399, R417). -/
def bodyTimeSet : Body := fun e _ s =>
  if s.dev.timeSource = 2 then (s, some (reply 0x0200))
  else if e.p 8 0 1 = 1 then
    (s.mapCmd e.sub fun x => { x with wait := .pps, since := s.now, arg := e.p64 0 }, none)
  else (s.stepTime (e.p64 0), some (timeSetReply s.deviceTime.toNat (e.p64 0)))

/-- TIME_SLEW (R399, R417). -/
def bodyTimeSlew : Body := fun e _ s =>
  let rate := signed 32 (e.p 0 0 32)
  let dur := e.p 4 0 32
  if s.dev.timeSource = 2 then (s, some (reply 0x0200))
  else if rate < -100000 || rate > 100000 || dur < 1 || dur > 60000 then (s, some (reply 0x0102))
  else ({ s with time := { s.time with ppb := rate, slewEnd := some (s.now + ms dur), lastHostSet := s.now } }, some (reply 0))

/-- TIME_SOURCE (R399, R417): kept in the flash; source 2 on a device that is no member posts a WARN. -/
def bodyTimeSource (flashOk : Bool) : Body := fun e _ s =>
  if !flashOk then (s, some (reply 0x0500))
  else
    let v := e.p 0 0 2
    let t := { s with dev := { s.dev with timeSource := v }, time := { s.time with lastPps := none, ppsLost := false, srcAt := s.now, lastHostSet := s.now } }
    let t := t.storePolicy
    (if v = 2 && s.role != 2 then t.post 0x100C 0 0 [2] else t, some (reply 0))

/-! Staging (R379, R380, R399). -/

/-- Part `n` of the staged set is replaced, and the set's validated mark cleared (R380). -/
def State.stagePart (s : State) (n : Nat) (b : Bytes) : State :=
  { s with cfg := { s.cfg with staged := s.cfg.staged.put n b, validated := false } }

/-- A stage command whose length rule has been checked (R380). -/
def bodyStage (n : Nat) : Body := fun _ b s => (s.stagePart n b, some (reply 0))

/-- A stage command whose payload states its own length (R380, R399): `want` computes it. -/
def bodyStageLen (n : Nat) (want : Bytes → Nat) : Body := fun _ b s =>
  if b.length = want b then (s.stagePart n b, some (reply 0)) else (s, some (reply 0x0103))

/-- SILO_STAGE refuses a recording region on JLN-5120-AQ (R380, R464). -/
def bodySiloStage : Body := fun _ b s =>
  if s.isAQ && num b 0x14 4 != 0 then (s, some (reply 0x0302)) else (s.stagePart 9 b, some (reply 0))

/-- STAGE_DISCARD (R379). -/
def bodyStageDiscard : Body := fun _ _ s => ({ s with cfg := { s.cfg with staged := s.cfg.active, validated := false } }, some (reply 0))

/-- STAGE_STATUS. -/
def bodyStageStatus : Body := answer fun _ s =>
  reply 0 (le 4 (maskOf 10 fun i => s.cfg.staged.get (i + 1) != s.cfg.active.get (i + 1)) ++ le 4 (b2n s.cfg.validated) ++ le 4 s.cfg.lastStatus)

/-! Sessions (R385 to R388). -/

/-- SESSION_CHALLENGE: a random nonce, so a free value (R385, log 7). During the lockout it fails (R386). -/
def bodyChallenge : Body := fun _ _ s =>
  let locked := match s.sess.lockout with | some t => decide (s.now < t + sec 60) | none => false
  if locked then (s, some (reply 0x0418))
  else
    let n := le 16 (freeNat s)
    ({ s.useFree with sess := { s.sess with nonce := some n, nonceAt := s.now, lockout := none } }, some (reply 0 n))

/-- The message that a session signature covers (R386). -/
def sessMsg (nonce : Bytes) (serial : DWord) : Bytes := nonce ++ le 8 serial.toNat ++ [0x4A, 0x53, 0x45, 0x53]

/-- SESSION_OPEN (R385, R386). -/
def bodySessionOpen : Body := fun _ b s =>
  let good := match s.sess.nonce with
    | some n => decide (s.now ≤ s.sess.nonceAt + sec 60) && s.sigOk 2 b (sessMsg n s.ident.serial)
    | none => false
  if good then
    ({ s with sess := { s.sess with nonce := none }, priv := { s.priv with opened := true, lastUse := s.now } }, some (reply 0))
  else
    let fails := (s.now :: s.sess.fails).take 3
    let lock := fails.length == 3 && decide (s.now ≤ fails.getD 2 0 + sec 60)
    ({ s with sess := { s.sess with nonce := none, fails := fails, lockout := if lock then some s.now else s.sess.lockout } }, some (reply 0x0418))

/-- SESSION_CLOSE. -/
def bodySessionClose : Body := fun _ _ s =>
  if s.priv.opened then ({ s with priv := { s.priv with opened := false } }, some (reply 0)) else (s, some (reply 0x0001))

/-! Counters and the error ring. -/

/-- SNAPSHOT (R354, R399). -/
def bodySnapshot : Body := fun _ _ s => (s.snapAll, some (reply 0 (le 8 s.deviceTime.toNat)))

/-- COUNTER_CLEAR (R356). -/
def bodyCounterClear : Body := fun _ _ s => ({ s with priv := { s.priv with cnt := ⟨0, []⟩ } }, some (reply 0))

/-- ERROR_READ (R364, R390). -/
def bodyErrorRead : Body := fun e _ s =>
  let n := e.p 0 0 9
  if n < 1 || n > 256 then (s, some (reply 0x0102))
  else
    let l := (ringSlots s.err.rd.toNat s.err.wr.toNat).take n
    let resp := le 2 0x0B05 ++ le 2 1 ++ le 2 l.length ++ le 2 64 ++ le 4 0 ++ le 4 0 ++ l.flatMap fun i => fit 64 (s.err.slots.get i)
    let t := if e.p 0 16 1 = 1 then { s with err := { s.err with rd := s.err.rd + BitVec.ofNat 8 l.length } } else s
    (t, some (replyWith resp))

/-! Firmware (R391 to R398). -/

/-- A handover is in progress. -/
def State.handover (s : State) : Option InFlight :=
  s.cmds.inflight.find? fun e => (e.wait == .flash || e.wait == .drain || e.wait == .swap) && e.done.isNone

/-- FW_LOAD (R378, R391). -/
def bodyFwLoad (hwOk : Bool) : Body := fun e b s =>
  let sb := s.standby
  let src := e.p 0 0 2
  if s.handover.isSome then (s, some (reply 0x0221))
  else if src = 3 then (s, some (reply 0x0102))
  else if !(s.pair sb).avail then (s, some (reply 0x0321))
  else if !hwOk then (s, some (reply 0x0500))
  else
    let img := if src = 0 then b else s.flash.fw.getD (src - 1) []
    let st := s.fwCheck img
    if st != 0 then (s, some (reply st))
    else
      let t := s.mapPair sb fun p => { p with image := img, loading := false }
      ({ t with fw := { t.fw with standbyOk := true } }, some (reply 0 (le 4 (fwVersion img) ++ le 4 (fwSecVer img))))

/-- FW_HANDOVER is accepted or refused, steps 1 to 3 (R392). -/
def bodyFwHandover : Body := fun e _ s =>
  let p := s.pair s.standby
  let d := e.p 0 0 8
  if d > 100 then (s, some (reply 0x0102))
  else if p.image.isEmpty then (s, some (reply 0x0322))
  else if fwSecVer p.image < s.otp.fwCtr then (s, some (reply 0x041A))
  else if !p.avail || !s.fw.standbyOk then (s, some (reply 0x0321))
  else if s.handover.isSome then (s, some (reply 0x0221))
  else
    let t := (s.raise 0 8).post 0x1009 0 0 [0]
    let t := { t with fw := { t.fw with abandoned := 0 } }
    ((t.mapCmd e.sub fun x => { x with wait := .flash, since := s.now, arg := ms (if d = 0 then 10 else d) }).tryDrain, none)

/-- State of the standby pair for FW_STATUS: 0 none, 1 loading, 2 verified, 3 unavailable (R399). -/
def State.standbyState (s : State) : Nat :=
  let p := s.pair s.standby
  if !p.avail then 3 else if p.loading then 1 else if p.image.isEmpty then 0 else 2

/-- FW_STATUS. -/
def bodyFwStatus : Body := answer fun _ s =>
  reply 0 (le 4 (fwVersion (s.pair s.fw.active).image) ++ le 4 (fwVersion (s.pair s.standby).image) ++ le 4 s.standbyState ++ le 4 s.fw.outcome)

/-- A header with a new GEN, its complement and the rest of the image (R533). -/
def withGen (img : Bytes) (g : Nat) : Bytes :=
  let h := splice (slice img 0 64) 8 (le 4 g)
  h ++ compl h ++ img.drop 128

/-- The firmware slot that FW_COMMIT writes (R398). -/
def State.commitSlot (s : State) : Nat :=
  let a := s.flash.fw.getD 0 []
  let b := s.flash.fw.getD 1 []
  if s.fw.rom then
    let va := s.fwCheck a == 0
    let vb := s.fwCheck b == 0
    if !va && !vb then 0 else if !va then 0 else if !vb then 1 else if fwGen b < fwGen a then 1 else 0
  else 1 - b2n s.power.fwImg

/-- FW_COMMIT (R398, R533, R539). -/
def bodyFwCommit (flashOk : Bool) : Body := fun e _ s =>
  let img := if s.fw.rom then (s.pair s.standby).image else (s.pair s.fw.active).image
  if img.isEmpty then (s, some (reply 0x0322))
  else if !flashOk then ({ s with flash := { s.flash with fw := s.flash.fw.set s.commitSlot [] } }, some (reply 0x0500))
  else
    let k := s.commitSlot
    let g := fwGen (s.flash.fw.getD (1 - k) []) + 1
    let t := { s with flash := { s.flash with fw := updAt s.flash.fw k fun _ => withGen img g }, repair := { s.repair with mcNew := num img 0x14 4 } }
    let t := if e.p 0 0 1 = 1 then { t with otp := { t.otp with fwCtr := max t.otp.fwCtr (min (fwSecVer img) 64) } } else t
    (t, some (reply 0))

/-! The steps. -/

/-- DEVICE_INFO (R399). -/
def execDeviceInfo (dt sub : Nat) (s : State) : Host.Outcome State Fault Refusal := runGcs dt 0x0101 sub none s bodyDeviceInfo
/-- POLICY_SET (R376). -/
def execPolicySet (dt sub : Nat) (flashOk : Bool) (s : State) : Host.Outcome State Fault Refusal := runGcs dt 0x0104 sub none s (bodyPolicySet flashOk)
/-- TIME_SET (R417). -/
def execTimeSet (dt sub : Nat) (s : State) : Host.Outcome State Fault Refusal := runGcs dt 0x0106 sub none s bodyTimeSet
/-- TIME_SLEW (R417). -/
def execTimeSlew (dt sub : Nat) (s : State) : Host.Outcome State Fault Refusal := runGcs dt 0x0107 sub none s bodyTimeSlew
/-- TIME_SOURCE (R417). -/
def execTimeSource (dt sub : Nat) (flashOk : Bool) (s : State) : Host.Outcome State Fault Refusal := runGcs dt 0x0108 sub none s (bodyTimeSource flashOk)
/-- STAGE_DISCARD (R379). -/
def execStageDiscard (dt sub : Nat) (s : State) : Host.Outcome State Fault Refusal := runGcs dt 0x0203 sub none s bodyStageDiscard
/-- STAGE_STATUS (R399). -/
def execStageStatus (dt sub : Nat) (s : State) : Host.Outcome State Fault Refusal := runGcs dt 0x0204 sub none s bodyStageStatus
/-- SCHED_STAGE (R59, R60, R380). -/
def execSchedStage (dt sub : Nat) (payload : Option Bytes) (s : State) : Host.Outcome State Fault Refusal :=
  runGcs dt 0x0301 sub payload s (bodyStageLen 1 fun b => num b 0x38 4)
/-- DRIVE_STAGE (R127, R380). -/
def execDriveStage (dt sub : Nat) (payload : Option Bytes) (s : State) : Host.Outcome State Fault Refusal :=
  runGcs dt 0x0304 sub payload s (bodyStageLen 2 fun b => 2 * num b 0x2C 4)
/-- RX_STAGE (R380). -/
def execRxStage (dt sub : Nat) (payload : Option Bytes) (s : State) : Host.Outcome State Fault Refusal := runGcs dt 0x0401 sub payload s (bodyStage 3)
/-- THRESH_STAGE (R380). -/
def execThreshStage (dt sub : Nat) (payload : Option Bytes) (s : State) : Host.Outcome State Fault Refusal := runGcs dt 0x0403 sub payload s (bodyStage 4)
/-- REDUCE_STAGE (R380). -/
def execReduceStage (dt sub : Nat) (payload : Option Bytes) (s : State) : Host.Outcome State Fault Refusal := runGcs dt 0x0406 sub payload s (bodyStage 5)
/-- GLEAN_STAGE (R380). -/
def execGleanStage (dt sub : Nat) (payload : Option Bytes) (s : State) : Host.Outcome State Fault Refusal := runGcs dt 0x0501 sub payload s (bodyStage 6)
/-- HK_STAGE (R380). -/
def execHkStage (dt sub : Nat) (payload : Option Bytes) (s : State) : Host.Outcome State Fault Refusal := runGcs dt 0x0901 sub payload s (bodyStage 7)
/-- OUTPUT_STAGE (R380). -/
def execOutputStage (dt sub : Nat) (payload : Option Bytes) (s : State) : Host.Outcome State Fault Refusal := runGcs dt 0x0601 sub payload s (bodyStage 8)
/-- SILO_STAGE (R380, R464). -/
def execSiloStage (dt sub : Nat) (payload : Option Bytes) (s : State) : Host.Outcome State Fault Refusal := runGcs dt 0x0801 sub payload s bodySiloStage
/-- DROVER_STAGE (R380). -/
def execDroverStage (dt sub : Nat) (payload : Option Bytes) (s : State) : Host.Outcome State Fault Refusal := runGcs dt 0x0701 sub payload s (bodyStage 10)
/-- SESSION_CHALLENGE (R385). -/
def execSessionChallenge (dt sub : Nat) (s : State) : Host.Outcome State Fault Refusal := runGcs dt 0x0C10 sub none s bodyChallenge
/-- SESSION_OPEN (R386). -/
def execSessionOpen (dt sub : Nat) (payload : Option Bytes) (s : State) : Host.Outcome State Fault Refusal := runGcs dt 0x0C11 sub payload s bodySessionOpen
/-- SESSION_CLOSE (R387). -/
def execSessionClose (dt sub : Nat) (s : State) : Host.Outcome State Fault Refusal := runGcs dt 0x0C12 sub none s bodySessionClose
/-- SNAPSHOT (R354). -/
def execSnapshot (dt sub : Nat) (s : State) : Host.Outcome State Fault Refusal := runGcs dt 0x0B01 sub none s bodySnapshot
/-- COUNTER_CLEAR (R356). -/
def execCounterClear (dt sub : Nat) (s : State) : Host.Outcome State Fault Refusal := runGcs dt 0x0B02 sub none s bodyCounterClear
/-- ERROR_READ (R390). -/
def execErrorRead (dt sub : Nat) (s : State) : Host.Outcome State Fault Refusal := runGcs dt 0x0B05 sub none s bodyErrorRead
/-- FW_LOAD (R391). -/
def execFwLoad (dt sub : Nat) (payload : Option Bytes) (hwOk : Bool) (s : State) : Host.Outcome State Fault Refusal :=
  runGcs dt 0x0C01 sub payload s (bodyFwLoad hwOk)
/-- FW_HANDOVER (R392). -/
def execFwHandover (dt sub : Nat) (s : State) : Host.Outcome State Fault Refusal := runGcs dt 0x0C02 sub none s bodyFwHandover
/-- FW_STATUS (R399). -/
def execFwStatus (dt sub : Nat) (s : State) : Host.Outcome State Fault Refusal := runGcs dt 0x0C03 sub none s bodyFwStatus
/-- FW_COMMIT (R398). -/
def execFwCommit (dt sub : Nat) (flashOk : Bool) (s : State) : Host.Outcome State Fault Refusal := runGcs dt 0x0C04 sub none s (bodyFwCommit flashOk)

/-- SESSION_IDLE_TIMEOUT: 15 minutes without use close the session (R387). -/
def execSessionIdleTimeout (dt : Nat) (s : State) : Host.Outcome State Fault Refusal := run dt s fun t =>
  if t.priv.opened && t.now ≥ t.priv.lastUse + sec 900 then { t with priv := { t.priv with opened := false } } else t
/-- NONCE_EXPIRY: a nonce is valid for 60 s (R385). -/
def execNonceExpiry (dt : Nat) (s : State) : Host.Outcome State Fault Refusal := run dt s fun t =>
  if t.sess.nonce.isSome && t.now ≥ t.sess.nonceAt + sec 60 then { t with sess := { t.sess with nonce := none } } else t
/-- SESSION_LOCKOUT_END: 60 s after the third failure challenges are served again (R386). -/
def execSessionLockoutEnd (dt : Nat) (s : State) : Host.Outcome State Fault Refusal := run dt s fun t =>
  match t.sess.lockout with
  | some b => if t.now ≥ b + sec 60 then { t with sess := { t.sess with lockout := none, fails := [] } } else t
  | none => t
/-- ERROR_POST: the error that the operands name is posted (R389, R514). -/
def execErrorPost (dt code kind obj : Nat) (args : List Nat) (s : State) : Host.Outcome State Fault Refusal := run dt s fun t => t.post code kind obj args

end Sys2Proof.Machine
end

