-- ==== Sys2Proof/Machine/Scratch.lean ====
section
/-! DEFINITION. The SCRATCH region of DDR5: bytes by offset, in canonical form (R438, R445 of 13_silo_baler_recording; an unlisted byte reads 0, log 12). -/

namespace Sys2Proof.Machine

/-- The byte that an address which is not listed reads as (log 12). -/
def Memory.unlisted : Byte := 0

/-- Addresses rise strictly from above `lo`, and no listed byte equals what an unlisted address reads as. -/
def Memory.wfFrom : Option Nat → List Host.Cell → Bool
  | _, [] => true
  | lo, (a, b) :: rest => (lo.all fun l => decide (l < a)) && b != Memory.unlisted && Memory.wfFrom (some a) rest

/-- The canonical form of a memory: addresses strictly rising, no entry equal to what an unlisted address reads as. -/
def Memory.wf (m : List Host.Cell) : Bool := Memory.wfFrom none m

/-- The byte at an address. -/
def Memory.read (m : List Host.Cell) (a : Nat) : Byte :=
  match m with
  | [] => Memory.unlisted
  | (i, b) :: rest => if i = a then b else Memory.read rest a

/-- The memory with byte `b` at `a`. -/
def Memory.write (a : Nat) (b : Byte) : List Host.Cell → List Host.Cell
  | [] => if b = Memory.unlisted then [] else [(a, b)]
  | (i, c) :: rest =>
    if i = a then (if b = Memory.unlisted then rest else (a, b) :: rest)
    else if a < i then (if b = Memory.unlisted then (i, c) :: rest else (a, b) :: (i, c) :: rest)
    else (i, c) :: Memory.write a b rest

/-- `n` bytes from `a`. -/
def Memory.readN (m : List Host.Cell) (a : Nat) : Nat → Bytes
  | 0 => []
  | n + 1 => Memory.read m a :: Memory.readN m (a + 1) n

/-- The memory with the bytes `l` from `a` on. -/
def Memory.writeN (m : List Host.Cell) (a : Nat) : Bytes → List Host.Cell
  | [] => m
  | b :: rest => Memory.writeN (Memory.write a b m) (a + 1) rest

/-- The memory cut to addresses below `n`. -/
def Memory.cut (m : List Host.Cell) (n : Nat) : List Host.Cell := m.filter fun c => decide (c.1 < n)

/-- Size of SCRATCH in bytes. -/
def State.scratchSize (s : State) : Nat := s.silo.regions.getD 5 0

end Sys2Proof.Machine
end

