-- ==== Sys2Proof/Machine/BalerJobs.lean ====
section
/-! DEFINITION. Baler jobs: their descriptor, their run from source to destination, tokens (R445 to R447, R467 of 13_silo_baler_recording). -/

namespace Sys2Proof.Machine

/-- DIR: 1 decodes. -/
def jDir (d : Bytes) : Nat := fieldOf d 0 0 1
/-- RATIO: 1 = ratio 2, 2 = ratio 4. -/
def jRatio (d : Bytes) : Nat := fieldOf d 0 1 2
/-- Bytes of a coded block. -/
def jR (d : Bytes) : Nat := if jRatio d = 2 then 128 else 256
/-- SRC. -/
def jSrc (d : Bytes) : Nat := fieldOf d 0 3 1
/-- DST. -/
def jDst (d : Bytes) : Nat := fieldOf d 0 4 3
/-- RING. -/
def jRing (d : Bytes) : Nat := fieldOf d 0 7 5
/-- SRC_ADDR. -/
def jSrcAddr (d : Bytes) : Nat := num d 8 8
/-- SRC_LEN. -/
def jSrcLen (d : Bytes) : Nat := num d 0x10 8
/-- DST_ADDR. -/
def jDstAddr (d : Bytes) : Nat := num d 0x18 8
/-- DST_LEN. -/
def jDstLen (d : Bytes) : Nat := num d 0x20 8
/-- Bytes of an input block. -/
def jIn (d : Bytes) : Nat := if jDir d = 1 then jR d else 512
/-- Bytes of an output block. -/
def jOut (d : Bytes) : Nat := if jDir d = 1 then 512 else jR d

/-- A job descriptor in range (R445); a SCRATCH area must lie in the region. -/
def jobOk (d : Bytes) (scratch : Nat) : Bool :=
  let dst := jDst d
  fieldOf d 0 12 20 == 0 && num d 4 4 == 0 && num d 0x28 24 == 0 && (jRatio d == 1 || jRatio d == 2) && decide (dst ≤ 4)
    && (dst != 2 || jDir d == 1) && (!(dst == 3 || dst == 4) || jDir d == 0)
    && decide (jSrcLen d ≤ 4294967296) && jSrcLen d % jIn d == 0
    && (if jSrc d = 0 then jSrcAddr d % 64 == 0 else jSrcAddr d % 512 == 0 && decide (jSrcAddr d + jSrcLen d ≤ scratch))
    && (if dst = 0 then jDstAddr d % 64 == 0 && jDstLen d % jOut d == 0
      else if dst = 1 then jDstAddr d % 512 == 0 && jDstLen d % jOut d == 0 && decide (jDstAddr d + jDstLen d ≤ scratch)
      else jDstAddr d == 0 && jDstLen d == 0)

/-- One block coded or decoded; none when it does not fit or is invalid. -/
def jobBlock (d b : Bytes) : Option Bytes := if jDir d = 1 then decodeBlock b else encodeBlock (jR d) b

/-- The blocks of an input coded or decoded until one fails or `room` bytes of output are made: output, input taken, and how it stopped
(0 input done, 1 bad block, 2 no room). -/
def jobBlocks (d : Bytes) : Nat → Nat → Bytes → Bytes → Nat → Bytes × Nat × Nat
  | 0, _, _, out, took => (out, took, 0)
  | fuel + 1, room, inp, out, took =>
    if inp.isEmpty then (out, took, 0)
    else if room < jOut d then (out, took, 2)
    else match jobBlock d (inp.take (jIn d)) with
      | none => (out, took, 1)
      | some b => jobBlocks d fuel (room - jOut d) (inp.drop (jIn d)) (out ++ b) (took + jIn d)

/-- Whole records at the front of a byte string, and what is left; zero units are skipped (R298, R299, R445). -/
def takeRecords : Nat → Bytes → List Bytes × Bytes
  | 0, b => ([], b)
  | fuel + 1, b =>
    if b.length < 16 then ([], b)
    else
      let n := fieldOf b 0 4 12 * 16
      if n = 0 then takeRecords fuel (b.drop 16)
      else if b.length < n then ([], b)
      else let r := takeRecords fuel (b.drop n); (b.take n :: r.1, r.2)

/-- Offsets and TIMEs of the records that start in a byte string whose first start lies at `at0` (R452). -/
def recStarts (b : Bytes) : Nat → Nat → List (Nat × Nat)
  | 0, _ => []
  | fuel + 1, at0 =>
    if at0 ≥ b.length then []
    else
      let n := fieldOf b at0 4 12 * 16
      if n = 0 then recStarts b fuel (at0 + 16) else (at0, num b (at0 + 8) 8) :: recStarts b fuel (at0 + n)

/-- Where the first record start after a byte string lies, counted from its end. -/
def nextStart (b : Bytes) : Nat → Nat → Nat
  | 0, at0 => at0 - b.length
  | fuel + 1, at0 =>
    if at0 ≥ b.length then at0 - b.length
    else let n := fieldOf b at0 4 12 * 16; nextStart b fuel (at0 + (if n = 0 then 16 else n))

/-- How a run of a job ended: 0 input done, 1 a block failed, 2 no room in its buffer, 3 its destination accepts nothing. -/
abbrev JobEnd := Nat

/-- A decoded record is written to a ring, whatever its masks, if the ring takes it now (R445, R446). -/
def State.jobToRing (s : State) (r : Nat) (rc : Bytes) : Option State :=
  let s := s.flushRing r
  let q := s.srings.get r
  if s.ringLive r && q.held.isEmpty && q.heldAlerts.isEmpty && q.batch.isEmpty && decide (rc.length ≤ q.room) then
    some (((s.ringWrite r rc).announce r false).updFull r)
  else none

/-- Records are written to a ring until one is not accepted: what is left. -/
def State.jobRecords (r : Nat) : List Bytes → State → State × List Bytes
  | [], s => (s, [])
  | rc :: rest, s => match s.jobToRing r rc with
    | some t => State.jobRecords r rest t
    | none => (s, rc :: rest)

/-- DST 2: blocks are decoded one at a time, and their records delivered; the job stops before a block whose records find no place (R445, R446). -/
def State.jobRing (d : Bytes) : Nat → Bytes → State → BalerJob → State × BalerJob × JobEnd
  | 0, _, s, j => (s, j, 0)
  | fuel + 1, inp, s, j =>
    let w := takeRecords (j.tail.length / 16 + 1) j.tail
    let p := State.jobRecords (jRing d) w.1 s
    let j := { j with tail := p.2.flatten ++ w.2 }
    if !p.2.isEmpty then (p.1, j, 3)
    else if inp.isEmpty then (p.1, j, 0)
    else match jobBlock d (inp.take (jIn d)) with
      | none => (p.1, j, 1)
      | some b => State.jobRing d fuel (inp.drop (jIn d)) p.1
          { j with tail := j.tail ++ b, bytesIn := j.bytesIn + jIn d / 128, bytesOut := j.bytesOut + jOut d / 128 }

/-- A chunk of a job is accepted by the Drover link or the recording now (R446, R453). -/
def State.jobChunkTo (s : State) (dst : Nat) (c : Bytes) : Option State :=
  if dst = 3 then
    match s.upPort with
    | some p =>
      if s.role == 2 && s.belongs && bit (s.pf 10 0x18 0 5) 4 && (s.port p).spill.isEmpty && (s.port p).queued = 0 && (s.port p).shed < 3
          && !((s.port p).st == .down || (s.port p).st == .training) then
        some (s.mapPort p fun q => { q with txq := q.txq.upd 5 (· ++ [c]) })
      else none
    | none => none
  else if s.recd.st == .running && s.recd.phase == .none && s.recd.writes = 0 then some ((s.writeChunk c).afterChunk)
  else none

/-- DST 3 and 4: the input is coded a chunk at a time (R445, R452, R453). -/
def State.jobChunks (d : Bytes) : Nat → Bytes → State → BalerJob → State × BalerJob × JobEnd
  | 0, _, s, j => (s, j, 0)
  | fuel + 1, inp, s, j =>
    if inp.isEmpty then (s, j, 0)
    else
      let most := min 32640 (1022 * 4096 / jR d)
      let w := jobBlocks d most (most * jR d) (inp.take (most * 512)) [] 0
      if w.2.1 = 0 then (s, j, 1)
      else
        let raw := inp.take w.2.1
        let st := (recStarts raw (raw.length / 16 + 1) j.skip).head?
        let dev := s.devId
        let c := chunkBytes dev (s.recd.chunkSeq.get dev) (List.replicate (w.2.1 / 512) (if jRatio d = 2 then 1 else 2)) w.1
          ((st.map fun p => p.1 / 16).getD 0xFFFF) ((st.map (·.2)).getD 0)
        match s.jobChunkTo (jDst d) c with
        | none => (s, j, 3)
        | some t =>
          let t := { t with recd := { t.recd with
            chunkSeq := t.recd.chunkSeq.upd dev (fun v => (v + 1) % 2 ^ 64), bytesInExt := t.recd.bytesInExt + (if jDst d = 4 then w.2.1 else 0) } }
          let j := { j with bytesIn := j.bytesIn + w.2.1 / 128, bytesOut := j.bytesOut + w.1.length / 128, skip := nextStart raw (raw.length / 16 + 1) j.skip }
          if w.2.2 = 1 then (t, j, 1) else State.jobChunks d fuel (inp.drop w.2.1) t j

/-- A job runs on the input that it has not yet taken (R445, R446). -/
def State.jobRun (s : State) (j : BalerJob) (inp : Bytes) : State × BalerJob × JobEnd :=
  let d := j.desc
  let fuel := inp.length / jIn d + 2
  if jDst d ≤ 1 then
    let w := jobBlocks d fuel (jDstLen d) inp [] 0
    let j := { j with bytesIn := j.bytesIn + w.2.1 / 128, bytesOut := j.bytesOut + w.1.length / 128 }
    let s := if w.1.isEmpty then s
      else if jDst d = 0 then s.hostWrite 0 (jDstAddr d) w.1
      else { s with silo := { s.silo with scratch := Memory.writeN s.silo.scratch (jDstAddr d) w.1 } }
    (s, j, w.2.2)
  else if jDst d = 2 then State.jobRing d fuel inp s j
  else State.jobChunks d fuel inp s j

/-- RESULT of a job (R446). -/
def jobResult (j : BalerJob) (token : Nat) : Bytes := le 4 j.bytesIn ++ le 4 j.bytesOut ++ le 8 token

/-- The token of saved state `k` with generation `g` (R447). -/
def tokenOf (k g : Nat) : Nat := let lo := pack [(0, k), (8, g % 2 ^ 24)]; lo + (2 ^ 32 - 1 - lo) * 2 ^ 32

/-- A job stops with BALER_PARTIAL: it is saved under a token, or, with every state taken, without one (R446, R447). -/
def State.jobPartial (s : State) (j : BalerJob) : State × Completion :=
  match (List.range 256).find? fun k => (s.baler.saved.get k).isNone with
  | none => (s, { status := 0x0004, result := jobResult j 0 })
  | some k =>
    let g := s.baler.nextGen
    ({ s with baler := { s.baler with saved := s.baler.saved.set k (some { j with gen := g, stopAt := s.now, input := [] }), nextGen := (g + 1) % 2 ^ 24 } },
     { status := 0x0004, result := jobResult j (tokenOf k g) })

/-- What a run of job `sub` ends in: its completion, a token, or a wait on its destination (R446). -/
def State.jobEnd (s : State) (sub : Nat) (first : Bool) (r : State × BalerJob × JobEnd) : State × Option Completion :=
  let t := r.1
  let j := r.2.1
  match r.2.2 with
  | 0 => (t, some { status := 0, result := jobResult j 0 })
  | 1 => if first && j.bytesIn = 0 then (s, some (reply (if jDir j.desc = 1 then 0x0420 else 0x0330)))
    else (t, some { status := 0, result := jobResult j 0 })
  | 2 => let p := t.jobPartial j; (p.1, some p.2)
  | _ => ({ t with baler := { t.baler with running := t.baler.running.filter (fun (p : Nat × BalerJob) => p.1 != sub) ++ [(sub, j)] } }.mapCmd sub
      fun x => { x with wait := .baler, since := t.now }, none)

/-- The input that job `j` has not yet taken: from SCRATCH, or as the host's memory shows it. -/
def State.jobInput (s : State) (j : BalerJob) (src : Option Bytes) : Option Bytes :=
  let d := j.desc
  let n := jSrcLen d - 128 * j.bytesIn
  if jSrc d = 1 then some (Memory.readN s.silo.scratch (jSrcAddr d + 128 * j.bytesIn) n) else src.map (fit n)

/-- BALER_JOB (R445, R446): `src` is what the host's memory holds at SRC_ADDR, none when it cannot be read.
DESIGN CHOICE: a job that fails both the range checks (0x0102) and FEATURE_FUSED (0x0302) answers 0x0102; check 8 of R362 gives them no order (log 97). -/
def bodyBalerJob (src : Option Bytes) : Body := fun e b s =>
  let d := fit 64 b
  if !(jobOk d s.scratchSize) then (s, some (reply 0x0102))
  else if jDst d = 4 && s.isAQ then (s, some (reply 0x0302))
  else if jDst d = 4 && !(s.recd.st == .running) then (s, some (reply 0x0200))
  else
    let j : BalerJob := { desc := d }
    match s.jobInput j src with
    | none => (s, some (reply 0x0104))
    | some inp =>
      let j := if jSrc d = 1 || jDst d ≤ 1 then j else { j with input := inp, base := j.bytesIn }
      s.jobEnd e.sub true (s.jobRun j inp)

/-- BALER_RESUME (R447): `src` is what the host's memory holds from SRC_ADDR + 128 x BYTES_IN. -/
def bodyBalerResume (src : Option Bytes) : Body := fun e _ s =>
  let tok := e.p64 0
  let k := tok % 256
  if tok / 2 ^ 32 != 2 ^ 32 - 1 - tok % 2 ^ 32 then (s.integrityFault 10, some (reply 0x0102))
  else match s.baler.saved.get k with
  | none => (s, some (reply 0x0102))
  | some j =>
    if tok != tokenOf k j.gen || s.now ≥ j.stopAt + sec 60 then (s, some (reply 0x0102))
    else if jDst j.desc = 4 && !(s.recd.st == .running) then (s, some (reply 0x0200))
    else match s.jobInput j src with
      | none => (s, some (reply 0x0104))
      | some inp =>
        let t := { s with baler := { s.baler with saved := s.baler.saved.set k none } }
        let j := if jSrc j.desc = 1 || jDst j.desc ≤ 1 then j else { j with input := inp, base := j.bytesIn }
        t.jobEnd e.sub false (t.jobRun j inp)

/-- Waiting job `sub` stops with BALER_PARTIAL (R446). -/
def State.stopJob (s : State) (sub : Nat) : State :=
  match s.baler.running.find? fun p => p.1 == sub with
  | none => s
  | some p =>
    let t := { s with baler := { s.baler with running := s.baler.running.filter fun x => x.1 != sub } }
    let r := t.jobPartial p.2
    r.1.finish sub r.2

/-- BALER_DEST_STALL: job `sub` goes on if its destination accepts something again; after 10 ms of nothing it stops (R446). -/
def execBalerDestStall (dt sub : Nat) (s : State) : Host.Outcome State Fault Refusal := runUp dt s fun t =>
  match t.baler.running.find? (fun p => p.1 == sub), t.cmds.inflight.find? fun e => e.sub == sub && e.done.isNone && e.wait == .baler with
  | some p, some e =>
    let j := p.2
    let inp := if jSrc j.desc = 1 then (t.jobInput j none).getD [] else j.input.drop (128 * (j.bytesIn - j.base))
    let u := { t with baler := { t.baler with running := t.baler.running.filter fun x => x.1 != sub } }
    let r := u.jobRun j inp
    if r.2.2 = 3 && r.2.1.bytesOut = j.bytesOut && r.2.1.tail.length = j.tail.length then (if t.now ≥ e.since + ms 10 then t.stopJob sub else t)
    else
      let w := u.jobEnd sub false r
      match w.2 with
      | some c => w.1.finish sub c
      | none => w.1
  | _, _ => t

/-- BALER_TOKEN_EXPIRY: the token of saved state `slot` is 60 s old (R447). -/
def execBalerTokenExpiry (dt slot : Nat) (s : State) : Host.Outcome State Fault Refusal := run dt s fun t =>
  match t.baler.saved.get slot with
  | some j => if t.now ≥ j.stopAt + sec 60 then { t with baler := { t.baler with saved := t.baler.saved.set slot none } } else t
  | none => t

/-- BALER_JOB (R445). -/
def execBalerJob (dt sub : Nat) (payload src : Option Bytes) (s : State) : Host.Outcome State Fault Refusal :=
  runGcs dt 0x0803 sub payload s (bodyBalerJob src)
/-- BALER_RESUME (R447). -/
def execBalerResume (dt sub : Nat) (src : Option Bytes) (s : State) : Host.Outcome State Fault Refusal := runGcs dt 0x0804 sub none s (bodyBalerResume src)

end Sys2Proof.Machine
end

