-- ==== Sys2Proof/Machine/Line.lean ====
section
/-! DEFINITION. The line code of a Drover lane: GF(2^10), RS(544,514), symbol order, striping, Gray map, precoder and levels (R402, R403 of
12_lanes_drover). A codeword is a list of 544 symbols, each a number below 1,024; parity sums go through one packed number, 10 bits a symbol. -/

namespace Sys2Proof.Machine

/-! GF(2^10) with x^10 + x^3 + 1 (R402). -/

/-- An element times alpha. -/
def gfX (a : Nat) : Nat := if a ≥ 512 then Nat.xor (2 * a) 0x409 else 2 * a
/-- The product of two elements: a sum over the lowest `n` bits of the first. -/
def gfMulGo : Nat → Nat → Nat → Nat
  | 0, _, _ => 0
  | n + 1, a, b => if a % 2 = 1 then Nat.xor b (gfMulGo n (a / 2) (gfX b)) else gfMulGo n (a / 2) (gfX b)
/-- The product of two elements. -/
def gfMul (a b : Nat) : Nat := gfMulGo 10 a b
/-- alpha^n. -/
def gfAlpha : Nat → Nat
  | 0 => 1
  | n + 1 => gfX (gfAlpha n)
/-- `a` to the power 2^n - 1, by n squarings. -/
def gfPowAll : Nat → Nat → Nat
  | 0, _ => 1
  | n + 1, a => let q := gfPowAll n a; gfMul (gfMul q q) a
/-- The inverse of an element that is not 0: its power 2^10 - 2. -/
def gfInv (a : Nat) : Nat := let q := gfPowAll 9 a; gfMul q q
/-- The value of a polynomial, lowest coefficient first. -/
def gfEval (p : List Nat) (x : Nat) : Nat := p.foldr (fun c v => Nat.xor c (gfMul v x)) 0

/-! RS(544,514): a codeword is a polynomial that the generator divides, its first symbol the coefficient of x^543 (R402; log 98). -/

/-- A polynomial, highest coefficient first, times (x - r). -/
def mulRoot (p : List Nat) (r : Nat) : List Nat := List.zipWith Nat.xor (p ++ [0]) (0 :: p.map (gfMul r))
/-- The generator: the product of (x - alpha^j) for j = 0 to 29, highest coefficient first. -/
def rsGen : List Nat := (List.range 30).foldl (fun p j => mulRoot p (gfAlpha j)) [1]
/-- Symbols packed into one number, the first one highest. -/
def packSyms (l : List Nat) : Nat := l.foldl (fun v c => v * 1024 + c) 0
/-- The packed generator without its leading 1, times alpha^0 to alpha^9. -/
def rsRows : List Nat := (List.range 10).map fun k => packSyms ((rsGen.drop 1).map fun c => gfMul (gfAlpha k) c)
/-- One symbol enters the division by the generator: the packed remainder of 30 symbols is replaced. -/
def rsStep (rows : List Nat) (rem sym : Nat) : Nat :=
  let f := Nat.xor (rem / 2 ^ 290) sym
  (rows.zipIdx).foldl (fun v (x : Nat × Nat) => if bit f x.2 then Nat.xor v x.1 else v) (rem % 2 ^ 290 * 1024)
/-- The packed remainder of `x^30` times a polynomial, its symbols highest first, by the generator. -/
def rsRem (l : List Nat) : Nat := l.foldl (rsStep rsRows) 0
/-- The `n` symbols of a packed number, highest first. -/
def unpackSyms (n v : Nat) : List Nat := ((List.range n).map fun i => v / 1024 ^ i % 1024).reverse
/-- The codeword of 514 message symbols: the message, then 30 parity symbols (R402, R403). -/
def rsEncode (msg : List Nat) : List Nat := msg ++ unpackSyms 30 (rsRem msg)

/-- The 30 syndromes of a received word: its values at alpha^0 to alpha^29, which are those of its remainder. -/
def rsSyndromes (r : List Nat) : List Nat :=
  let rem := List.zipWith Nat.xor (unpackSyms 30 (rsRem (r.take 514))) (r.drop 514)
  (List.range 30).map fun j => gfEval rem.reverse (gfAlpha j)

/-- `a` + `k` x^n `b`, lowest coefficient first. -/
def addShifted (a : List Nat) (k n : Nat) (b : List Nat) : List Nat :=
  let c := List.replicate n 0 ++ b.map (gfMul k)
  let m := max a.length c.length
  List.zipWith Nat.xor (padTo m 0 a) (padTo m 0 c)

/-- The shortest recurrence of the syndromes (Berlekamp and Massey): locator, the locator before its last change of length, its discrepancy, the steps since
then, the length of the recurrence. -/
structure BmState where
  /-- locator, lowest coefficient first -/
  loc : List Nat := [1]
  /-- the locator before the last change of length -/
  old : List Nat := [1]
  /-- its discrepancy -/
  oldD : Nat := 1
  /-- steps since -/
  gap : Nat := 1
  /-- length of the recurrence -/
  len : Nat := 0
  deriving DecidableEq, Repr

/-- Step `n` of the recurrence over the syndromes `syn`. -/
def bmStep (syn : List Nat) (b : BmState) (n : Nat) : BmState :=
  let d := (List.range (b.len + 1)).foldl (fun v i => if i ≤ n then Nat.xor v (gfMul (b.loc.getD i 0) (syn.getD (n - i) 0)) else v) 0
  if d = 0 then { b with gap := b.gap + 1 }
  else
    let loc := addShifted b.loc (gfMul d (gfInv b.oldD)) b.gap b.old
    if 2 * b.len ≤ n then { loc := loc, old := b.loc, oldD := d, gap := 1, len := n + 1 - b.len } else { b with loc := loc, gap := b.gap + 1 }

/-- Positions in error, counted from the first symbol: the roots of the locator (Chien). -/
def rsPositions (loc : List Nat) : List Nat :=
  (List.range 544).filter fun i => gfEval loc (gfAlpha ((1023 - (543 - i)) % 1023)) == 0

/-- The error at a position with locator `x`: x Omega(1/x) / Lambda'(1/x) (Forney). -/
def rsValue (syn loc : List Nat) (i : Nat) : Nat :=
  let x := gfAlpha (543 - i)
  let y := gfInv x
  let omega := (List.range 30).map fun n => (List.range (n + 1)).foldl (fun v k => Nat.xor v (gfMul (loc.getD k 0) (syn.getD (n - k) 0))) 0
  let der := (List.range (loc.length - 1)).map fun k => if k % 2 = 0 then loc.getD (k + 1) 0 else 0
  gfMul x (gfMul (gfEval omega y) (gfInv (gfEval der y)))

/-- A received word of 544 symbols corrected: its codeword and the positions that were in error, at most 15; none where no codeword lies so near
(R402). -/
def rsDecode (r : List Nat) : Option (List Nat × List Nat) :=
  if r.length != 544 then none
  else if packSyms (r.drop 514) = rsRem (r.take 514) then some (r, [])
  else
    let syn := rsSyndromes r
    let b := (List.range 30).foldl (bmStep syn) {}
    let at' := rsPositions b.loc
    if b.len > 15 || at'.length != b.len then none
    else
      let c := r.zipIdx.map fun x => if at'.contains x.2 then Nat.xor x.1 (rsValue syn b.loc x.2) else x.1
      if packSyms (c.drop 514) = rsRem (c.take 514) then some (c, at') else none

/-! Frames in codewords (R403). -/

/-- The frame tag, in the 20 bits of symbols 0 and 1. -/
def frameTag : Nat := 0xC3A5F
/-- Ten-bit symbols of a number, its low bits first. -/
def symsOf : Nat → Nat → List Nat
  | 0, _ => []
  | n + 1, v => v % 1024 :: symsOf n (v / 1024)
/-- The symbols of bytes, five bytes to four symbols: bit k of byte b is bit 8 b + k of the field (R403). -/
def bytesToSyms : Nat → Bytes → List Nat
  | 0, _ => []
  | n + 1, b => symsOf 4 (num b 0 5) ++ bytesToSyms n (b.drop 5)
/-- The bytes of symbols. -/
def symsToBytes : Nat → List Nat → Bytes
  | 0, _ => []
  | n + 1, l => le 5 ((l.take 4).foldr (fun c v => c + 1024 * v) 0) ++ symsToBytes n (l.drop 4)
/-- The codeword that carries the 640 bytes of a frame (R403). -/
def frameWord (f : Bytes) : List Nat := rsEncode (symsOf 2 frameTag ++ bytesToSyms 128 (fit 640 f))
/-- The frame of a corrected codeword; none where the tag is not there. -/
def wordFrame (c : List Nat) : Option Bytes := if c.take 2 == symsOf 2 frameTag then some (symsToBytes 128 ((c.drop 2).take 512)) else none

/-! Lanes (R402). -/

/-- The symbols of a codeword for one of `n` lanes: with two lanes the even ones go to the lower lane (k = 0), the odd ones to the upper; with one, all. -/
def stripe (n k : Nat) (c : List Nat) : List Nat := if n = 2 then (c.zipIdx.filter fun x => x.2 % 2 == k).map (·.1) else c
/-- Two lanes' symbols put together again. -/
def unstripe : List Nat → List Nat → List Nat
  | a :: l, b :: m => a :: b :: unstripe l m
  | _, _ => []
/-- The Gray map of a bit pair, its first bit the low one here: 00, 01, 11, 10 to 0, 1, 2, 3. -/
def grayOf (pair : Nat) : Nat := match pair with | 0 => 0 | 2 => 1 | 3 => 2 | _ => 3
/-- The bit pair of a Gray value. -/
def grayInv (g : Nat) : Nat := match g with | 0 => 0 | 1 => 2 | 2 => 3 | _ => 1
/-- The five Gray values of a symbol, bit 0 first: bit 2 i is the first bit of pair i. -/
def symGray (v : Nat) : List Nat := (List.range 5).map fun i => grayOf (v / 4 ^ i % 4)
/-- The symbol of five Gray values. -/
def graySym (l : List Nat) : Nat := l.foldr (fun g v => grayInv g + 4 * v) 0
/-- The precoder 1/(1+D) from the value before: P_n = (G_n - P_(n-1)) mod 4. -/
def precode : Nat → List Nat → List Nat
  | _, [] => []
  | p, g :: l => let q := (g + 4 - p % 4) % 4; q :: precode q l
/-- The receiver's G_n = (P_n + P_(n-1)) mod 4. -/
def unprecode : Nat → List Nat → List Nat
  | _, [] => []
  | p, q :: l => (q + p) % 4 :: unprecode q l
/-- A level of the line: -3, -1, +1, +3, as a signed byte. -/
def lineLevel (p : Nat) : Byte := BitVec.ofInt 8 (2 * ((p % 4 : Nat) : Int) - 3)
/-- The PAM4 values of a lane's symbols, after value `p`. -/
def laneOut (p : Nat) (syms : List Nat) : List Nat := precode p (syms.flatMap symGray)
/-- Five at a time. -/
def graySyms : Nat → List Nat → List Nat
  | 0, _ => []
  | n + 1, l => graySym (l.take 5) :: graySyms n (l.drop 5)
/-- The symbols that a lane's received values carry, after value `p`; an inverted pair turns every level about (R401). -/
def laneIn (inv : Bool) (p : Nat) (rx : List Nat) : List Nat :=
  let v := rx.map fun q => if inv then 3 - q % 4 else q % 4
  graySyms (v.length / 5) (unprecode p v)
/-- The last value of a lane's symbols, `p` where there is none. -/
def lastVal (p : Nat) (l : List Nat) : Nat := l.getLast?.getD p

end Sys2Proof.Machine
end

