-- ==== Sys2Proof/Machine/Recording.lean ====
section
/-! DEFINITION. Recording: starting, stopping, commits, faults, MIRROR chunks at a root; the regions of the Silo and its status
(R430, R435, R437, R438, R448 to R467 of 13_silo_baler_recording; R33 of 01). -/

namespace Sys2Proof.Machine

/-! Commits (R454, R455, R459). -/

/-- What recording leaves in RECORD when it ends: nothing, unless MIRROR data is still formed (R463). -/
def State.recEmpty (s : State) : State :=
  if s.pf 8 0x0C 9 1 = 1 then s
  else { s with recd := { s.recd with pend := [], input := [], starts := [], chunk := {}, inGap := false } }

/-- The queues are released and REC_PERST_N falls (R562); a shutdown notification follows where REC_STOP or REBOOT asks for it; the command is
answered (R459). -/
def State.recStopped (s : State) : State :=
  let s := { s with recd := { s.recd with st := .idle, mirBad := s.recd.mirBad + s.recd.mirQ.length, mirQ := [] }, pins := { s.pins with recPerstN := false } }.recEmpty
  let s := if s.recd.reason = 3 then s.emit .nvme 3 0 [] else s
  match s.waiting .recStop, s.recd.lastCommit with
  | some e, some k => s.finish e.sub (reply 0 (le 8 k))
  | some e, none => (s.useFree).finish e.sub (reply 0 (le 8 (freeNat s)))
  | none, _ => s

/-- The commit record is on the drive: the extent is committed (R455). -/
def State.commitDone (s : State) : State :=
  let q := s.recd
  let s := { s with recd := { q with
    extents := if q.chunks = 0 then q.extents else q.extents ++ [q.extLba]
    lastCommit := some q.commitSeq, commitSeq := q.commitSeq + 1, extLba := q.nextLba, chunks := 0, extBytes := 0, bytesInExt := 0
    tFirst := none, tLast := 0, gaps := 0, gapped := 0, commitAt := s.now, phase := .none } }
  if s.recd.st == .stopping || (s.recd.st == .full && (s.waiting .recStop).isSome) then s.recStopped else s.recPump

/-- Recording stops on a failure: no further writes; the last commit stands (R461). -/
def State.recFault (s : State) (status : Nat) : State :=
  if s.recd.st == .idle || s.recd.st == .fault then s
  else
    let s := { s with recd := { s.recd with
      st := .fault, writes := 0, outst := [], phase := .none, retried := false, mirBad := s.recd.mirBad + s.recd.mirQ.length, mirQ := [] } }.recEmpty
    let s := s.post 0x5007 0 0 [status % 2 ^ 32]
    match s.waiting .recStop with
    | some e => s.finish e.sub (reply 0x0500)
    | none => s

/-- Recording stops in an orderly way with a last commit of reason `reason` (R455, R459): at once where nothing runs; with no commit known RESULT is a free value (log 7). -/
def State.recStop (s : State) (reason : Nat) : State :=
  match s.recd.st with
  | .running =>
    let s := (s.cmds.inflight.filter fun e => e.wait == .baler && e.done.isNone).foldl (fun t e =>
      if (t.baler.running.find? fun p => p.1 == e.sub).any fun p => jDst p.2.desc == 4 then t.stopJob e.sub else t) s
    ({ s with recd := { s.recd with st := .stopping, mirBad := s.recd.mirBad + s.recd.mirQ.length, mirQ := [] } }).startCommit reason
  | .stopping => s
  | .full => if s.recd.phase == .none then { s with recd := { s.recd with reason := reason } }.recStopped else { s with recd := { s.recd with reason := reason } }
  | _ => { s with recd := { s.recd with reason := reason } }.recStopped

/-! REC_START (R448, R450, R458). -/

/-- The superblock of a namespace of `lbas` LBAs, value half (R450). -/
def superblock (lbas serial created : Nat) : Bytes :=
  fit 64 (le 4 0x4345524A ++ le 2 1 ++ le 2 0 ++ le 8 lbas ++ le 4 2 ++ le 4 4096 ++ le 8 dataStart ++ le 8 (lbas - dataStart) ++ le 8 serial ++ le 8 created)

/-- A superblock as read is valid for a namespace of `lbas` LBAs (R450). -/
def superOk (lbas : Nat) (b : Bytes) : Bool :=
  let v := slice b 0 64
  slice b 64 64 == compl v && v.take 0x28 == (superblock lbas 0 0).take 0x28

/-- A commit record as read is valid (R454, R458). -/
def commitOk (b : Bytes) : Bool := num b 0 4 == 0x544D434A && num b 0x7C 4 == (crc32c (slice b 0 0x7C)).toNat

/-- The state of recording on a drive that holds `commits` (R458): it appends after the newest valid commit, or starts an empty journal. -/
def Rec.recover (q : Rec) (commits : List Bytes) : Rec :=
  let l := sortBy (fun a b => decide (num a 8 8 < num b 8 8)) (commits.filter commitOk)
  match l.getLast? with
  | none => { q with nextLba := dataStart, extLba := dataStart, oldest := dataStart, extents := [], wraps := 0, commitSeq := 0, lastCommit := none }
  | some b =>
    let old := num b 0x20 8
    let ext := (l.filter fun c => num c 0x28 4 != 0).map fun c => num c 0x10 8
    let ext := ext.drop (ext.findIdx fun a => a == old)
    { q with
      nextLba := num b 0x18 8, extLba := num b 0x18 8, oldest := old, extents := ext, wraps := num b 0x2C 4
      commitSeq := num b 8 8 + 1, lastCommit := some (num b 8 8) }

/-- The link, the controller and the namespace meet R448. -/
def driveMeets (d : DriveInfo) : Bool :=
  (d.rate == 160 || d.rate == 80) && [1, 2, 4].contains d.width && d.lbaData == 4096 && d.lbaMeta == 0 && !d.protInfo && decide (d.mqes ≥ 255)
    && decide (d.ioPairs ≥ 1) && (d.mdts == 0 || decide (d.mdts ≥ 131072)) && d.hmmin == 0 && decide (d.timeout ≤ 10000)
    && decide (2 ^ 18 ≤ d.lbas ∧ d.lbas ≤ 2 ^ 32)

/-- REC_START: `drive` is what the drive shows; the controller is enabled, the I/O queues are created and both superblocks read (R448, R449, R458). -/
def bodyRecStart (drive : DriveInfo) : Body := fun e _ s =>
  if s.isAQ then (s, some (reply 0x0302))
  else if s.recd.st == .running || s.recd.st == .stopping || s.recd.st == .full then (s, some (reply 0x0200))
  else
    let known := drive.super.any (superOk drive.lbas)
    if !drive.up || !(driveMeets drive) || !(known || drive.blank) then (s, some (reply 0x0102))
    else
      let entries := min 1024 (drive.mqes + 1)
      let s := (((s.emit .nvme 5 0 []).emit .nvme 6 entries []).emit .nvme 7 0 []).emit .nvme 7 1 []
      let sb := superblock drive.lbas s.ident.serial.toNat s.deviceTime.toNat
      let block := fit 4096 (sb ++ compl sb)
      let s := if known then s else ((s.emit .nvme 0 0 block).emit .nvme 0 1 block).emit .nvme 4 2 []
      let q := s.recd.recover (if known then drive.commits else [])
      let s := { s with
        recd := { q with
          st := .running, ns := e.p 0 0 32, nsLbas := drive.lbas, vwc := drive.vwc, commitAt := s.now, smartAt := s.now, phase := .none, writes := 0, outst := [], ioEntries := entries
          retried := false, chunks := 0, extBytes := 0, bytesInExt := 0, tFirst := none, tLast := 0, gaps := 0, gapped := 0, inGap := false
          chunkSeq := (if known then drive.chunkSeqs else []).foldl (fun (t : Tab Nat) p => t.set p.1 p.2) ⟨0, []⟩ }
        pins := { s.pins with refPcie2 := true, recPerstN := true } }
      (s, some (reply 0))

/-- REC_STOP (R459). -/
def bodyRecStop : Body := fun e _ s =>
  if s.isAQ then (s, some (reply 0x0302))
  else
    let t := (s.mapCmd e.sub fun x => { x with wait := .recStop, since := s.now }).recStop (if e.p 0 0 1 = 1 then 3 else 2)
    (t, none)

/-- Code of a recording state, in the order of R460. -/
def RecSt.num : RecSt → Nat
  | .idle => 0
  | .running => 1
  | .stopping => 2
  | .full => 3
  | .fault => 4

/-- REC_STATUS (R364, R460); before any commit is known the last COMMIT_SEQ is a free value (log 7). -/
def bodyRecStatus : Body := fun _ _ s =>
  if s.isAQ then (s, some (reply 0x0302))
  else
    let q := s.recd
    (if q.lastCommit.isNone then s.useFree else s, some <| replyWith (response 0x0807 ([q.st.num, q.ns] ++ two q.nextLba ++ two q.oldest ++ [q.wraps % 2 ^ 32] ++ two (q.lastCommit.getD (freeNat s)) ++ two q.bytesIn ++ two q.bytesOut
      ++ [sat32 q.gapTotal] ++ q.blocks.flatMap two ++ [q.warn.toNat, q.temp]) []))

/-! Events of the recording port. -/

/-- NVME_COMPLETION: the oldest outstanding command has completed with a status, 0 for success; one that fails is issued once more (R449, R455, R461). -/
def execNvmeCompletion (dt status : Nat) (s : State) : Host.Outcome State Fault Refusal := runUp dt s fun t =>
  let q := t.recd
  if q.writes = 0 || q.st == .idle || q.st == .fault then t
  else if status != 0 then
    if q.retried then t.recFault status
    else
      let x := q.outst.headD (0, 0, [])
      { t with recd := { q with retried := true } }.emit .nvme x.1 x.2.1 x.2.2
  else
    let t := { t with recd := { q with writes := q.writes - 1, outst := q.outst.drop 1, retried := false } }
    if q.phase == .record then t.commitDone
    else if q.phase == .none then t.recPump
    else t.commitNext

/-- REC_COMMIT: a commit of an extent of 64 MB starts, or the one in progress goes on (R455). -/
def execRecCommit (dt : Nat) (s : State) : Host.Outcome State Fault Refusal := runUp dt s fun t =>
  if t.recd.phase == .none then (if t.recd.st == .running && t.recd.extBytes ≥ 67108864 then t.startCommit 0 else t) else t.commitNext

/-- REC_COMMIT_TIMER: 100 ms since the last commit with data pending (R455). -/
def execRecCommitTimer (dt : Nat) (s : State) : Host.Outcome State Fault Refusal := runUp dt s fun t =>
  let q := t.recd
  let data := !q.chunk.sizes.isEmpty || !q.input.isEmpty || q.chunks != 0 || !q.pend.isEmpty
  if q.st == .running && q.phase == .none && data && t.now ≥ q.commitAt + ms 100 then t.startCommit 1 else t

/-- REC_FAULT: a controller fatal status or a lost link, with the status the error record carries (R461). -/
def execRecFault (dt status : Nat) (s : State) : Host.Outcome State Fault Refusal := runUp dt s fun t => t.recFault status

/-- REFCLK_PCIE2_LOSS: recording goes to FAULT as for an abandoned write (R33, R461); no NVMe status exists for it, so the record's is a free value (log 7). -/
def execRefclkPcie2Loss (dt : Nat) (s : State) : Host.Outcome State Fault Refusal := run dt s fun t =>
  let u := { t with pins := { t.pins with refPcie2 := false } }
  if !u.holdUp || u.recd.st == .idle || u.recd.st == .fault then u else (u.useFree).recFault (freeNat u)

/-- SMART_POLL: every 10 s the drive's health is read; a new critical warning bit is reported (R449). -/
def execSmartPoll (dt warn temp : Nat) (s : State) : Host.Outcome State Fault Refusal := runUp dt s fun t =>
  let q := t.recd
  if q.st == .idle || t.now < q.smartAt + sec 10 then t
  else
    let w := BitVec.ofNat 8 warn
    let u := { t with recd := { q with warn := w, temp := temp, smartAt := t.now } }.emit .nvme 8 0 []
    if (w &&& ~~~ q.warn) != 0 then u.post 0x5008 0 0 [w.toNat] else u

/-- REC_GAP: the gap ends once the fill has fallen 10 points below WM_WAVE (R456). -/
def execRecGap (dt : Nat) (s : State) : Host.Outcome State Fault Refusal := runUp dt s fun t =>
  let t := t.updWm 5
  if t.recd.inGap && t.regionFill 5 * 100 + 10 * t.regionSize 5 < t.pf 9 0x1C 0 8 * t.regionSize 5 then { t with recd := { t.recd with inGap := false } } else t

/-! MIRROR chunks at a root (R453, R467). -/

/-- A MIRROR chunk arrives at the root: it goes to the drive unchanged, or is discarded and counted (R453, R467). -/
def State.mirrorIn (s : State) (c : Bytes) : State :=
  if !(chunkOk c) then { s with recd := { s.recd with mirBad := s.recd.mirBad + 1 } }
  else if s.pf 8 0x0C 14 1 != 1 then s
  else if s.recd.st == .running then ({ s with recd := { s.recd with mirQ := s.recd.mirQ ++ [c] } }).recPump
  else if s.recd.st == .stopping then { s with recd := { s.recd with mirBad := s.recd.mirBad + 1 } }
  else s

/-! The Silo (R435, R437, R438, R466). -/

/-- Sizes of the regions under a Silo descriptor (R438, R464). -/
def regionSizes (d : Bytes) : List Nat :=
  [268435456, 134217728, num d 0x0C 4 * 1048576, num d 0x10 4 * 1048576, num d 0x14 4 * 1048576, num d 0x18 4 * 1048576]

/-- The regions take the sizes of the active Silo descriptor; a region that shrinks keeps what R441 would keep, and SCRATCH is cut (R438, R466). -/
def State.siloApply (s : State) : State :=
  if (s.part 9).isEmpty then s
  else
    let new := regionSizes (s.part 9)
    let s := if new == s.silo.regions then s
      else
        let t := { s with silo := { s.silo with regions := new, scratch := Memory.cut s.silo.scratch (new.getD 5 0) } }
        let n := (t.streamHeld).length + 1
        let t := (State.streamRoom 0 n t).1
        t.each (List.range 4) fun p u =>
          let l := (u.port p).spill
          match makeRoom (u.regionSize (p + 1)) 0 (l.length + 1) l [] with
          | some (keep, gone) => (u.mapPort p fun q => { q with spill := keep }).countLost gone.length
          | none => u
    s.each (List.range 6) fun w u => u.updWm w

/-- A record that waits in STREAM is discarded for every ring that takes it (R437, R439). -/
def State.discardHeld (s : State) (rc : Bytes) : State :=
  s.each ringNums fun r t =>
    let q := t.srings.get r
    if q.held.contains rc || q.heldAlerts.contains rc then
      (t.mapRing r fun q => { q with held := q.held.erase rc, heldAlerts := q.heldAlerts.erase rc }).dropMark r
    else t

/-- DDR_UE: an uncorrectable DDR5 error in region `region`, after `ce` single-bit errors that were corrected on read and counted; it hits record `n` of those
held for ring or port `ring`, oldest first, alerts before others (R437, R467, R512). -/
def execDdrUe (dt region ring n ce : Nat) (s : State) : Host.Outcome State Fault Refusal := runUp dt s fun t =>
  let t := { t with silo := { t.silo with ceCount := t.silo.ceCount + ce } }
  let lost (u : State) : State := { u with silo := { u.silo with heldDrop := u.silo.heldDrop + 1 } }
  let u := match region with
    | 2 =>
      let q := t.srings.get ring
      match (q.heldAlerts ++ q.held)[n]? with
      | some rc => lost (t.discardHeld rc)
      | none => t
    | 3 => if n < (t.port ring).spill.length then lost (t.mapPort ring fun q => { q with spill := q.spill.eraseIdx n }) else t
    | 4 =>
      match t.recd.pend[n]? with
      | some r => { t with recd := { t.recd with
          pend := t.recd.pend.set n (List.replicate r.length 0), gaps := t.recd.gaps + 1, gapped := t.recd.gapped + 1, gapTotal := t.recd.gapTotal + 1 } }
      | none => t
    | 5 => t
    | 1 => t.integrityFault 1
    | _ => t.integrityFault 6
  u.post 0x4007 0 0 [region]

/-- BQ_SHARE_FULL: share `share` of the burst queues has been full for `fullFor` ticks; 1 ms of it posts an error (R435). -/
def execBqShareFull (dt share fullFor : Nat) (s : State) : Host.Outcome State Fault Refusal := runUp dt s fun t =>
  if fullFor ≥ ms 1 then t.post 0x4006 0 0 [share] else t

/-- SILO_STATUS. The specification names no contents; the model gives capacity, sizes, fills, levels and counts (R364, R399; log 17). -/
def bodySiloStatus : Body := answer fun _ s =>
  let fills := [s.regionFill 0, s.regionFill 1 + s.regionFill 2 + s.regionFill 3 + s.regionFill 4, s.regionFill 5]
  replyWith (response 0x0802 (two (2 * s.silo.perCh) ++ s.silo.regions.flatMap two ++ fills.flatMap two
    ++ [maskOf 6 fun w => s.silo.wmWave.getD w false, maskOf 6 fun w => s.silo.wmDump.getD w false,
        sat32 s.silo.notStored, sat32 s.silo.heldDrop, sat32 s.silo.ceCount, sat32 s.silo.dumpDrop] ++ [s.silo.waveQ]) [])

/-- OUTPUT_STATUS. The specification names no contents; the model gives the output descriptor's words and a block per stream ring (R364, R399; log 17). -/
def bodyOutputStatus : Body := answer fun _ s =>
  replyWith (response 0x0602 [num (s.part 8) 0x0C 4, num (s.part 8) 0x10 4, b2n s.stream.opened, sat32 s.stream.sheavesLost, sat32 s.stream.capsLost]
    (ringNums.map fun r =>
      let q := s.srings.get r
      [b2n q.en, b2n q.full, b2n q.opened, b2n q.heldDrop, sat32 q.records, sat32 ((bytesIn q.held + bytesIn q.heldAlerts) / 1024)]))

/-- REC_START (R458). -/
def execRecStart (dt sub : Nat) (drive : DriveInfo) (s : State) : Host.Outcome State Fault Refusal := runGcs dt 0x0805 sub none s (bodyRecStart drive)
/-- REC_STOP (R459). -/
def execRecStop (dt sub : Nat) (s : State) : Host.Outcome State Fault Refusal := runGcs dt 0x0806 sub none s bodyRecStop
/-- REC_STATUS (R460). -/
def execRecStatus (dt sub : Nat) (s : State) : Host.Outcome State Fault Refusal := runGcs dt 0x0807 sub none s bodyRecStatus
/-- SILO_STATUS (R399). -/
def execSiloStatus (dt sub : Nat) (s : State) : Host.Outcome State Fault Refusal := runGcs dt 0x0802 sub none s bodySiloStatus
/-- OUTPUT_STATUS (R399). -/
def execOutputStatus (dt sub : Nat) (s : State) : Host.Outcome State Fault Refusal := runGcs dt 0x0602 sub none s bodyOutputStatus

end Sys2Proof.Machine
end

