-- ==== Sys2Proof/Machine/DroverLink.lean ====
section
/-! DEFINITION. Drover ports and lanes: frames, acknowledgement and resending, training, one lane of a port, port loss and ring failover
(R401 to R413, R423 to R426, R434 of 12_lanes_drover; R32 of 01_ranging_loop). -/

namespace Sys2Proof.Machine

/-- The port carries frames: on one lane or two. -/
def Port.up (q : Port) : Bool := q.st == .two || q.st == .one
/-- DOMAIN of the active Drover descriptor (R430). -/
def State.domain (s : State) : Nat := s.pf 10 0x0C 0 16
/-- The port is one of a ring pair. -/
def State.isRing (s : State) (p : Nat) : Bool := s.prole p == 3 || s.prole p == 4
/-- This end of the port's link is the nearer to the root: TOPO, PLAN, ADMIT and SYNC leave on it (R411, R414, R418). -/
def State.upstream (s : State) (p : Nat) : Bool :=
  (s.role == 1 && s.prole p ≥ 2) || (s.role == 2 && (s.prole p == 2 || (s.isRing p && s.upPort != some p)))
/-- Whether records may leave on the port now: a member's upward port, outside a reroute's wait (R414, R426). -/
def State.mayRecords (s : State) (p : Nat) : Bool := s.role == 2 && s.upPort == some p && s.drover.reroute.isNone

/-! Control messages (R411). -/

/-- A message value of 32 bytes: MSG, SRC, and the fields after byte 3. -/
def State.mkMsg (s : State) (m : Nat) (fields : Bytes) : Bytes := fit 32 (le 1 m ++ [0] ++ le 2 s.devId ++ fields)
/-- A message waits to be sent on a port that carries frames. -/
def State.sendMsg (s : State) (p : Nat) (m : Bytes) : State :=
  if (s.port p).up then s.mapPort p fun q => { q with ctlOut := q.ctlOut ++ [m] } else s
/-- A message waits on every port for which `f` holds. -/
def State.sendOver (s : State) (f : Nat → Bool) (m : Bytes) : State := (List.range 4).foldl (fun t p => if f p then t.sendMsg p m else t) s
/-- HELLO of a port (R411). -/
def State.hello (s : State) (p : Nat) : State :=
  (s.sendMsg p (s.mkMsg 1 (le 2 s.domain ++ le 1 (pack [(0, s.role), (2, s.prole p)]) ++ le 1 p))).mapPort p fun q => { q with helloAt := s.now }
/-- LANE: a lane's state, its loopback mode, and a rejoin SEQ (R411). -/
def State.laneMsg (s : State) (l st mode seqNo : Nat) : State := s.sendMsg (l / 2) (s.mkMsg 9 (le 1 l ++ le 1 st ++ le 1 mode ++ [0] ++ le 2 seqNo))
/-- BREAK: the device at the break (R411, R426). -/
def State.breakTo (s : State) (p dev : Nat) : State := s.sendMsg p (s.mkMsg 10 (le 2 dev))

/-! Lanes and port loss (R423 to R426). -/

/-- Every frame kept is to be resent (R412, R423). -/
def Port.resendAll (q : Port) : Port := { q with resend := q.kept.length }

/-- The member's other ring port. -/
def State.otherRing (s : State) (p : Nat) : Option Nat := (List.range 4).find? fun r => s.isRing r && r != p

/-- A ring member's other port becomes upward; BREAK, which names device `dev`, goes out on it, and the 200 us wait begins (R426). -/
def State.rerouteFrom (s : State) (p dev : Nat) : State :=
  match s.otherRing p with
  | none => s
  | some r => ({ s with drover := { s.drover with upSec := s.prole r == 4, reroute := some s.now } }).breakTo r dev

/-- The port has lost both lanes (R425, R426): frames are kept, an error is posted, a ring member reroutes, another member goes into HOLDOVER. -/
def State.portLost (s : State) (p : Nat) : State :=
  let q := s.port p
  let lost := [2 * p, 2 * p + 1].filter fun l => (s.lane l).state == 0
  let out := [2 * p, 2 * p + 1].all fun l => (s.lane l).outBy
  let s := s.count (352 + 8 * p + 7) lost.length
  let s := s.each lost fun l t => t.mapLane l fun x => { x with state := if x.outBy then 1 else 2, relocked := false, relockAt := s.now }
  let s := s.mapPort p fun _ => { q with
    st := if out then .down else .training, stepAt := s.now, ueRun := 0, shed := 0, hiSince := none, loSince := none, bothSince := none
    rejoin := none, helloRx := false, nak := false, resend := 0 }
  let s := s.post 0x5003 6 p
  if s.role == 2 && s.upPort == some p then
    if s.isRing p then s.rerouteFrom p s.devId
    else if s.drover.join == .joined then { s with drover := { s.drover with join := .holdover } } else s
  else s

/-- The port goes on with its remaining lane: SINGLE, shed level 1, frames not acknowledged are resent (R423, R424). -/
def State.toOne (s : State) (p : Nat) : State :=
  s.mapPort p fun q => { (({ q with st := .one, shed := 1, hiSince := none, loSince := none, bothSince := none, rejoin := none } : Port).resendAll) with
    ackAt := s.now }

/-- Lane `l` leaves service; the port goes on with its other lane, or is lost (R407, R423, R425, R434). -/
def State.dropLane (s : State) (l : Nat) : State :=
  let p := l / 2
  let other := s.lane (if l % 2 = 0 then l + 1 else l - 1)
  if other.state == 0 && (s.lane l).state == 0 && (s.port p).st == .two then
    (((s.count (352 + 8 * p + 7) 1).mapLane l fun x => { x with state := if x.outBy then 1 else 2, relocked := false, relockAt := s.now }).toOne p)
  else if (s.lane l).state == 0 && (s.port p).up then s.portLost p
  else ((s.mapLane l fun x => { x with relocked := false }).mapPort p fun q => { q with rejoin := none })

/-- A lane is lost (R423): its error is posted and the partner is told. -/
def State.laneLost (s : State) (l : Nat) : State :=
  let was := (s.lane l).state == 0 && (s.port (l / 2)).up
  let s := s.dropLane l
  if was then (s.post 0x5005 5 l).laneMsg l 1 0 0 else s

/-- The port runs on both lanes from this frame boundary (R423, R424). -/
def State.toTwo (s : State) (p : Nat) : State :=
  ((s.mapLane (2 * p) fun x => { x with state := 0, relocked := false }).mapLane (2 * p + 1) fun x => { x with state := 0, relocked := false }).mapPort p fun q =>
    { q with st := .two, shed := 0, hiSince := none, loSince := none, bothSince := some s.now, rejoin := none }

/-- Symbol errors attributed to the lane and corrected in the last 1 ms (R423). -/
def State.recentErrs (s : State) (l : Nat) : Nat := (((s.lane l).symErr.filter fun x => decide (s.now < x.1 + ms 1)).map (·.2)).sum

/-- A lane is lost (R423): its CDR has lost lock, its signal has been lost for 1 us (`silent` ticks), or too many of its symbols were corrected. -/
def State.laneGone (s : State) (l : Nat) (cdr : Bool) (silent : Nat) : Bool := cdr || silent ≥ us 1 || s.recentErrs l > 1000

/-- LANE_LOSS (R423, R434). -/
def execLaneLoss (dt l : Nat) (cdr : Bool) (silent : Nat) (s : State) : Host.Outcome State Fault Refusal := runUp dt s fun t =>
  if t.laneGone l cdr silent then t.laneLost l else t

/-- PORT_LOSS: every lane that the port runs on is lost at once; `sense` shows the CDR and the silence of its lower and its upper lane (R423, R425, R426). -/
def execPortLoss (dt port : Nat) (sense : List (Bool × Nat)) (s : State) : Host.Outcome State Fault Refusal := runUp dt s fun t =>
  let gone (i : Nat) : Bool := let x := sense.getD i (false, 0); (t.lane (2 * port + i)).state != 0 || t.laneGone (2 * port + i) x.1 x.2
  if (t.port port).up && gone 0 && gone 1 then t.portLost port else t

/-- REFCLK_SDS_LOSS: both ports of the clock lose both lanes (R32, R434). -/
def execRefclkSdsLoss (dt i : Nat) (s : State) : Host.Outcome State Fault Refusal := run dt s fun t =>
  let t := { t with pins := { t.pins with refSds := updAt t.pins.refSds i fun _ => false } }
  if t.holdUp then t.each [2 * i, 2 * i + 1] fun p u => if (u.port p).up then u.portLost p else u else t

/-- RELOCK_ATTEMPT: every 10 ms an attempt runs on a lane that a one-lane port has lost; it succeeds when steps 1 to 4, which took `took`, end within 8 ms
(R404, R423). The precoders start from 0 (R402). -/
def execRelockAttempt (dt l : Nat) (took : List Nat) (s : State) : Host.Outcome State Fault Refusal := runUp dt s fun t =>
  let x := t.lane l
  if (t.port (l / 2)).st == .one && x.state == 2 && !x.relocked && t.now ≥ x.relockAt + ms 10 then
    if took.length = 4 && took.sum ≤ ms 8 then t.mapLane l fun x => { x with relockAt := t.now, relocked := true, clean := 0, txP := 0, rxP := 0 }
    else t.mapLane l fun x => { x with relockAt := t.now }
  else t

/-- LANE_REJOIN: after 1,000 consecutive codewords without error, 102.4 us, a rejoin SEQ is proposed by LANE message; which SEQ is a free value (R423, log 7). -/
def execLaneRejoin (dt port : Nat) (s : State) : Host.Outcome State Fault Refusal := runUp dt s fun t =>
  match [2 * port, 2 * port + 1].find? fun l => (t.lane l).state == 2 && (t.lane l).relocked with
  | none => t
  | some l =>
    if (t.port port).st == .one && (t.port port).rejoin.isNone && (t.lane l).clean ≥ 1000 then
      let q := freeNat t % 4096
      ((t.useFree).mapPort port fun x => { x with rejoin := some (l, q) }).laneMsg l 0 0 q
    else t

/-! Training (R404, R405). -/

/-- Time limits of training steps 1 to 5 (R404). -/
def stepLimits : List Nat := [ms 10, ms 40, ms 30, ms 10, ms 10]
/-- Steps that took `took` have all ended within their limits. -/
def stepsInTime (took : List Nat) : Bool := (took.zip stepLimits).all fun x => decide (x.1 ≤ x.2)

/-- TRAINING_STEP_TIMEOUT: the step after those that took `took` runs past its limit; the attempt fails and the next begins (R404). -/
def execTrainingStepTimeout (dt port : Nat) (took : List Nat) (s : State) : Host.Outcome State Fault Refusal := runUp dt s fun t =>
  let q := t.port port
  if q.st == .training && stepsInTime took && t.now ≥ q.stepAt + took.sum + stepLimits.getD took.length 0 then
    t.mapPort port fun q => { q with stepAt := t.now, helloRx := false }
  else t

/-- What training has set on lane `l` (R401, R402, R404): polarity, the transmit equaliser from its preset, receive adaptation; the precoders start from 0. -/
def LaneSt.trained (x : LaneSt) (m : LaneMeas) : LaneSt := { x with
  state := 0, relocked := false, inv := m.inv, ctle := m.ctle, ffe := m.ffe, dfe := m.dfe, txP := 0, rxP := 0, symErr := []
  txEq := (List.range 3).map fun i => (m.updates.map fun u => u.getD i 0).sum }

/-- The difference of two stamps in nanoseconds: they count 1/256 ns (R418, log 55). -/
def stampDiff (a b : Nat) : Rat := (signed 64 ((a + (2 ^ 64 - b % 2 ^ 64)) % 2 ^ 64) : Rat) / 256
/-- The link delay from its four stamps: ((T2 - T1) + (T4 - T3)) / 2 (R418). -/
def linkDelay (t1 t2 t3 t4 : Nat) : Rat := (stampDiff t2 t1 + stampDiff t4 t3) / 2

/-- The training attempt has gone through: every step within its limit, at most 8.0 ns between the lanes, 8 codewords with the tag (R403, R404). -/
def trainGood (m : TrainMeas) : Bool := m.took.length == 5 && stepsInTime m.took && m.skew ≤ 8000 && m.tags ≥ 8

/-- TRAINING_COMPLETE: codeword lock, the link delay, lane order, polarity and HELLO (R401, R403, R404, R405, R411). A delay over 5.0 us holds the port down. -/
def execTrainingComplete (dt port : Nat) (m : TrainMeas) (s : State) : Host.Outcome State Fault Refusal := runUp dt s fun t =>
  let q := t.port port
  let delay := linkDelay (m.stamps.getD 0 0) (m.stamps.getD 1 0) (m.stamps.getD 2 0) (m.stamps.getD 3 0)
  if q.st != .training || !(trainGood m) || t.now < q.stepAt + m.took.sum then t
  else if delay > 5000 then t.mapPort port fun q => { q with st := .down, tooLong := true, delay := delay }
  else
    let lanes := [2 * port, 2 * port + 1].filter fun l => !(t.lane l).outBy
    let t := t.each lanes fun l u => u.mapLane l fun x => (m.lanes[l % 2]?).elim { x with state := 0 } x.trained
    let t := { t with pins := { t.pins with refSds := updAt t.pins.refSds (port / 2) fun _ => true } }
    let t := t.mapPort port fun q =>
      let q := { q with delay := delay, swapped := m.swapped, ueRun := 0, helloRx := true, peerDev := num m.hello 2 2, peerDomain := num m.hello 4 2, ackAt := t.now }
      match lanes.length with
      | 2 => { q with st := .two, shed := 0, bothSince := some t.now }
      | 1 => { q with st := .one, shed := 1 }
      | _ => { q with st := .down }
    (t.mapPort port fun q => q.resendAll).hello port

/-! Sending (R409, R410, R412). -/

/-- A frame body is filled from a class's records: the body so far, the offset of the first record that starts in it, the rest of a record
that did not fit, the records that remain (R409, R410). -/
def fillBody : Bytes → Option Nat → List Bytes → Bytes × Option Nat × Bytes × List Bytes
  | body, first, [] => (body, first, [], [])
  | body, first, r :: rest =>
    if body.length ≥ 624 then (body, first, [], r :: rest)
    else
      let n := 624 - body.length
      let f := some (first.getD (body.length / 16))
      if r.length ≤ n then fillBody (body ++ r) f rest else (body ++ r.take n, f, r.drop n, rest)

/-- The bytes of a frame (R409). -/
def State.frameBytes (s : State) (p : Nat) (f : Frame) : Bytes :=
  let q := s.port p
  let v := le 8 (pack [(0, f.cls), (4, f.seqNo), (16, q.rxSeq), (28, b2n q.nak), (29, b2n (q.st == PortSt.one)), (32, f.first), (38, f.used), (48, s.devId)])
  v ++ compl v ++ fit 624 f.body

/-- The levels of one codeword leave on the lanes `ls`, which share it (R402, R403). -/
def State.lineOut (s : State) (ls : List Nat) (f : Bytes) : State :=
  let word := frameWord f
  s.each ls fun l t =>
    let v := laneOut (t.lane l).txP (stripe ls.length (l % 2) word)
    (t.emit .lane l 0 (v.map lineLevel)).mapLane l fun x => { x with txP := lastVal x.txP v }

/-- Lanes of the port that are in service. -/
def State.liveLanes (s : State) (p : Nat) : List Nat := [2 * p, 2 * p + 1].filter fun l => (s.lane l).state == 0
/-- A lane that has relocked and carries IDLE codewords on its own (R423). -/
def State.idleLanes (s : State) (p : Nat) : List Nat := [2 * p, 2 * p + 1].filter fun l => (s.lane l).state == 2 && (s.lane l).relocked

/-- A frame leaves on the port; NAK has been sent with it (R412, R413). At the SEQ agreed for a rejoin both lanes are in service again (R423). -/
def State.putFrame (s : State) (p : Nat) (f : Frame) (again : Bool) : State :=
  let s := match (s.port p).rejoin with
    | some (_, q) => if f.cls != 0 && !again && f.seqNo == q && (s.port p).st == PortSt.one then s.toTwo p else s
    | none => s
  let b := s.frameBytes p f
  let s := (s.emit .frame p 0 b).lineOut (s.liveLanes p) b
  let s := s.each (s.idleLanes p) fun l t => t.lineOut [l] (t.frameBytes p { cls := 0, seqNo := (t.port p).txSeq })
  let s := s.count (352 + 8 * p) 1
  (if again then s.count (352 + 8 * p + 4) 1 else s).mapPort p fun q => { q with nak := false }

/-- A new frame is numbered, kept and sent (R409, R412). -/
def State.newFrame (s : State) (p cls first : Nat) (body : Bytes) : State :=
  let n := ((s.port p).txSeq + 1) % 4096
  let f : Frame := { cls := cls, seqNo := n, first := first, used := body.length / 16, body := body }
  (s.mapPort p fun q => { q with txSeq := n, kept := q.kept ++ [f], ackAt := if q.kept.isEmpty then s.now else q.ackAt }).putFrame p f false

/-- A time stamp: device time in units of 1/256 ns, modulo 2^64, which holds 1/8 UI (R418, log 55). -/
def State.stamp (s : State) : Nat := s.time.units / 20000000000 % 2 ^ 64

/-- A timing message is stamped as it is coded: T1 in SYNC, T3 in DREQ, which the port remembers (R418). -/
def State.stampMsg (s : State) (p : Nat) (m : Bytes) : State × Bytes :=
  let now := s.stamp
  match byteAt m 0 with
  | 6 => (s, splice m 8 (le 8 now))
  | 7 => (s.mapPort p fun q => { q with t3 := now }, splice m 8 (le 8 now))
  | _ => (s, m)

/-- The messages `l` are coded into a body: each is stamped and followed by its complement (R411, R418). -/
def State.codeMsgs (s : State) (p : Nat) (l : List Bytes) : State × Bytes :=
  l.foldl (fun (a : State × Bytes) m =>
    let x := a.1.stampMsg p m
    (x.1, a.2 ++ x.2 ++ compl x.2)) (s, [])

/-- The message values of a CONTROL body. -/
def bodyMsgs (b : Bytes) : List Bytes := (List.range (b.length / 64)).map fun i => slice b (64 * i) 32

/-- Records that wait in the port's share of DROVER follow into its queue while they fit (R424, R435). -/
def State.refill (p : Nat) : Nat → State → State
  | 0, s => s
  | fuel + 1, s =>
    let q := s.port p
    match q.spill with
    | [] => s
    | r :: rest =>
      let c := droverClass r
      if q.shed ≥ shedFrom c then State.refill p fuel ((s.mapPort p fun q => { q with spill := rest }).count (352 + 8 * p + 6) 1)
      else if q.queued + r.length ≤ 65536 || q.queued = 0 then
        State.refill p fuel (s.mapPort p fun q => { q with spill := rest, txq := q.txq.upd c (· ++ [r]) })
      else s

/-- The class that is sent next: the highest with data ready, records only where they may leave (R410). -/
def State.readyClass (s : State) (p : Nat) : Option Nat :=
  let q := s.port p
  (List.range 8).find? fun c =>
    if c = 2 then !q.ctlOut.isEmpty
    else c != 0 && s.mayRecords p && !((q.txq.get c).isEmpty && (q.part.get c).isEmpty)

/-- One frame boundary of a port (R410, R412): a frame to be resent, else an IDLE frame while 256 are kept or nothing is ready, else a new one. -/
def State.transmit (s : State) (p : Nat) : State :=
  let q := s.port p
  match (if q.resend = 0 then none else q.kept[q.kept.length - q.resend]?) with
  | some f =>
    let s := s.mapPort p fun q => { q with resend := q.resend - 1 }
    if f.cls = 2 then let x := s.codeMsgs p (bodyMsgs f.body); x.1.putFrame p { f with body := x.2 } true
    else s.putFrame p f true
  | none =>
    match (if q.kept.length ≥ 256 then none else s.readyClass p) with
    | none => s.putFrame p { cls := 0, seqNo := q.txSeq } false
    | some 2 =>
      let l := s.codeMsgs p (q.ctlOut.take 9)
      (l.1.mapPort p fun q => { q with ctlOut := q.ctlOut.drop 9 }).newFrame p 2 63 l.2
    | some c =>
      let part := q.part.get c
      let x := if part.length > 624 then (part.take 624, none, part.drop 624, q.txq.get c) else fillBody part none (q.txq.get c)
      let t := s.mapPort p fun q => { q with part := q.part.set c x.2.2.1, txq := q.txq.set c x.2.2.2 }
      let t := t.newFrame p c (x.2.1.getD 63) x.1
      let t := State.refill p ((t.port p).spill.length) t
      (t.mapPort p fun q => q.mark t.now).updWm (p + 1)

/-- FRAME_BOUNDARY_TRANSMIT (R410). -/
def execFrameBoundaryTransmit (dt port : Nat) (s : State) : Host.Outcome State Fault Refusal := runUp dt s fun t =>
  if (t.port port).up then
    let t := if t.mayRecords port && (t.port port).queued = 0 then State.refill port ((t.port port).spill.length) t else t
    t.transmit port
  else t

/-- RETRANSMIT_TIMEOUT: ACK has not advanced for 20 us while frames are outstanding (R412). -/
def execRetransmitTimeout (dt port : Nat) (s : State) : Host.Outcome State Fault Refusal := runUp dt s fun t =>
  let q := t.port port
  if q.up && !q.kept.isEmpty && t.now ≥ q.ackAt + us 20 then t.mapPort port fun q => { q.resendAll with ackAt := t.now } else t

/-- SHED_LEVEL_CHANGE (R424). -/
def execShedLevelChange (dt port : Nat) (s : State) : Host.Outcome State Fault Refusal := runUp dt s fun t =>
  let q := t.port port
  if q.st != .one then t
  else
    let up := q.hiSince.any fun a => decide (t.now ≥ a + us 10)
    let down := q.loSince.any fun a => decide (t.now ≥ a + ms 10)
    if up && q.shed < 3 then t.mapPort port fun q => { q with shed := q.shed + 1, hiSince := some t.now }
    else if down && q.shed > 1 then t.mapPort port fun q => { q with shed := q.shed - 1, loSince := some t.now }
    else t

/-! Receiving (R409, R411, R412, R414). -/

/-- Frames up to ACK are acknowledged (R412). -/
def Port.acked (now ack : Nat) (q : Port) : Port :=
  match q.kept.findIdx? fun f => f.seqNo == ack with
  | some i => let l := q.kept.drop (i + 1); { q with kept := l, resend := min q.resend l.length, ackAt := now }
  | none => q

/-- Length of the record or chunk that starts `b` (R298, R452). -/
def streamLen (c : Nat) (b : Bytes) : Nat := if c = 5 then chunkLen b else 16 * bits (num b 0 4) 4 12

/-- Whole records are cut from a class's byte stream; the rest waits (R410). -/
def cutStream (c : Nat) : Nat → Bytes → List Bytes × Bytes
  | 0, b => ([], b)
  | fuel + 1, b =>
    let n := streamLen c b
    if b.length < 16 || n = 0 || b.length < n then ([], b)
    else
      let x := cutStream c fuel (b.drop n)
      (b.take n :: x.1, x.2)

/-- A record or MIRROR chunk received on a port (R414, R453): the root takes it, a member sends it out of its upward port. -/
def State.relay (s : State) (p c : Nat) (r : Bytes) : State :=
  if s.role == 1 then (if c = 5 then s.mirrorIn r else s.relayAtRoot r)
  else if s.role == 2 && s.upPort != some p then s.sendUp r
  else s

/-- The messages of a CONTROL body: one whose complement fails is discarded and counted, and an error is posted (R411). -/
def State.takeCtl (s : State) (p used : Nat) (body : Bytes) : State :=
  s.each (List.range (min 9 (used / 4))) fun i t =>
    let m := slice body (64 * i) 32
    if slice body (64 * i + 32) 32 != compl m then
      (((t.mapPort p fun q => { q with msgBad := q.msgBad + 1 }).integrityFault 7).post 0x5001 6 p)
    else t.mapPort p fun q => { q with ctlIn := q.ctlIn ++ [m ++ le 8 t.stamp] }

/-- A good frame in sequence delivers its body (R409, R410). -/
def State.deliverBody (s : State) (p c first used : Nat) (body : Bytes) : State :=
  if c = 2 then s.takeCtl p used body
  else
    let body := body.take (16 * used)
    let part := (s.port p).rxPart.get c
    let pre := if first = 63 then body else body.take (16 * first)
    let head := if part.isEmpty then ([], []) else cutStream c (part.length / 16 + 40) (part ++ pre)
    let tail := if first = 63 then ([], head.2) else cutStream c 40 (body.drop (16 * first))
    let s := s.mapPort p fun q => { q with rxPart := q.rxPart.set c tail.2 }
    (head.1 ++ tail.1).foldl (fun t r => t.relay p c r) s

/-- A frame of a codeword with `corrected` symbol errors (R412, R413). -/
def State.frameIn (s : State) (p corrected : Nat) (f : Bytes) : State :=
  let v := slice f 0 8
  let h := leVal v
  let cls := bits h 0 4
  let nak (t : State) : State := t.mapPort p fun q => { q with nak := true }
  let s := (s.mapPort p fun q => { q with ueRun := 0 }).count (352 + 8 * p + 1) 1
  let s := if corrected = 0 then s else s.count (352 + 8 * p + 2) 1
  if slice f 8 8 != compl v || cls ≥ 8 then nak ((s.count (352 + 8 * p + 5) 1).integrityFault 7)
  else
    let s := s.mapPort p fun q => { (q.acked s.now (bits h 16 12)) with peerDev := bits h 48 16 }
    let s := if bits h 28 1 = 1 then s.mapPort p (·.resendAll) else s
    let seqNo := bits h 4 12
    let last := (s.port p).rxSeq
    if cls = 0 then (if seqNo = last then s else nak s)
    else if seqNo != (last + 1) % 4096 then nak s
    else (s.mapPort p fun q => { q with rxSeq := seqNo }).deliverBody p cls (bits h 32 6) (bits h 38 6) (slice f 16 624)

/-- The symbols that lane `l` has received, from the PAM4 values 0 to 3 decided on it (R401, R402). -/
def State.symsIn (s : State) (rx : List (Nat × List Nat)) (l : Nat) : List Nat := laneIn (s.lane l).inv (s.lane l).rxP ((rx.lookup l).getD [])

/-- The codeword received on the lanes `ls` of port `p`: corrected, with the positions that were in error, or none (R401 to R403). -/
def State.wordIn (s : State) (p : Nat) (rx : List (Nat × List Nat)) (ls : List Nat) : Option (List Nat × List Nat) :=
  match ls with
  | [l] => rsDecode (s.symsIn rx l)
  | [a, b] => if (s.port p).swapped then rsDecode (unstripe (s.symsIn rx b) (s.symsIn rx a)) else rsDecode (unstripe (s.symsIn rx a) (s.symsIn rx b))
  | _ => none

/-- The receivers of the lanes `ls` go on from the last value received; an inverted pair has turned it about (R401, R402). -/
def State.rxOn (s : State) (rx : List (Nat × List Nat)) (ls : List Nat) : State :=
  s.each ls fun l t => t.mapLane l fun x =>
    { x with rxP := match ((rx.lookup l).getD []).getLast? with | some v => if x.inv then 3 - v % 4 else v % 4 | none => x.rxP }

/-- Errors at codeword positions `es` are attributed to the lanes that carried them (R402, R423). -/
def State.attribute (s : State) (p : Nat) (ls es : List Nat) : State :=
  let of (i : Nat) : Nat := match ls with
    | [a, b] => if (i % 2 == 0) != (s.port p).swapped then a else b
    | _ => ls.headD (2 * p)
  s.each ls fun l t =>
    let n := (es.filter fun i => of i == l).length
    t.mapLane l fun x => { x with symErr := if n = 0 then x.symErr else (t.now, n) :: x.symErr.filter fun y => decide (t.now < y.1 + ms 1) }

/-- A codeword on a lane that has relocked: 1,000 in a row without error let it rejoin (R423). -/
def State.idleWordIn (s : State) (p : Nat) (rx : List (Nat × List Nat)) (l : Nat) : State :=
  let good := (s.wordIn p rx [l]).any fun x => x.2.isEmpty && (wordFrame x.1).isSome
  (s.rxOn rx [l]).mapLane l fun x => { x with clean := if good then min (x.clean + 1) 1000 else 0 }

/-- A codeword on the lanes that the port runs on (R403, R412, R413, R423): it carries a frame, or is uncorrectable, the 16th of which in a row loses both
lanes. A word without the frame tag is discarded as one out of sequence is (log 98). -/
def State.dataWordIn (s : State) (p : Nat) (rx : List (Nat × List Nat)) : State :=
  let ls := s.liveLanes p
  let t := s.rxOn rx ls
  match s.wordIn p rx ls with
  | none =>
    let u := (t.count (352 + 8 * p + 3) 1).mapPort p fun q => { q with ueRun := q.ueRun + 1, nak := true }
    if (u.port p).ueRun ≥ 16 then u.portLost p else u
  | some (c, es) =>
    match wordFrame c with
    | none => t.mapPort p fun q => { q with ueRun := 0, nak := true }
    | some f => (t.attribute p ls es).frameIn p es.length f

/-- FRAME_RECEIVED: the PAM4 values of one codeword on each lane that carries it, `rx` (R402, R403, R412, R413, R423). -/
def execFrameReceived (dt port : Nat) (rx : List (Nat × List Nat)) (s : State) : Host.Outcome State Fault Refusal := runUp dt s fun t =>
  if !(t.port port).up then t
  else match (t.idleLanes port).find? fun l => rx.map (·.1) == [l] with
    | some l => t.idleWordIn port rx l
    | none => t.dataWordIn port rx

/-! Ring failover (R426). -/

/-- Frames to be sent again on another port take that port's numbers (R425, R426). -/
def Port.adopt (l : List Frame) (q : Port) : Port :=
  l.foldl (fun q f => let n := (q.txSeq + 1) % 4096; { q with txSeq := n, kept := q.kept ++ [{ f with seqNo := n }], resend := q.resend + 1 }) q

/-- What the old upward port still holds goes to the new one: kept frames with records first, then the rest of its queue, then what waits in
its share of DROVER (R425, R426). On an old port that still runs, the link keeps its own copies for R412. -/
def State.moveTraffic (s : State) (old new : Nat) : State :=
  let q := s.port old
  let mine := q.kept.filter fun f => f.cls != 2
  let s := s.mapPort new fun x =>
    let x := x.adopt mine
    { x with part := ⟨[], (List.range 8).map fun c => (c, x.part.get c ++ q.part.get c)⟩
             txq := ⟨[], (List.range 8).map fun c => (c, q.txq.get c ++ x.txq.get c)⟩, spill := q.spill ++ x.spill, ackAt := s.now }
  let s := s.mapPort old fun x => { x with part := ⟨[], []⟩, txq := ⟨[], []⟩, spill := [] }
  let s := if q.up then s
    else s.mapPort old fun x => { x with kept := [], resend := 0, txSeq := match x.kept with | f :: _ => (f.seqNo + 4095) % 4096 | [] => x.txSeq }
  (s.updWm (old + 1)).updWm (new + 1)

/-- REROUTE_WAIT_END: 200 us after the reroute, kept frames and new traffic go out on the new port (R426). -/
def execRerouteWaitEnd (dt : Nat) (s : State) : Host.Outcome State Fault Refusal := runUp dt s fun t =>
  match t.drover.reroute, t.upPort with
  | some a, some new =>
    if t.now < a + us 200 then t
    else
      let u := { t with drover := { t.drover with reroute := none } }
      match u.otherRing new with
      | some old => u.moveTraffic old new
      | none => u
  | _, _ => t

/-- RING_RETURN: both lanes of RING_PRI have been in service for 10 s; the same wait precedes the return (R426). -/
def execRingReturn (dt : Nat) (s : State) : Host.Outcome State Fault Refusal := runUp dt s fun t =>
  match (List.range 4).find? fun p => t.prole p == 3 with
  | none => t
  | some p =>
    let due := (t.port p).bothSince.any fun a => decide (t.now ≥ a + sec 10)
    if t.role == 2 && t.drover.upSec && t.drover.reroute.isNone && due then
      { t with drover := { t.drover with upSec := false, reroute := some t.now } }
    else t

/-! Lane service, loopback and the eye scan (R406 to R408). -/

/-- Bits checked and errors found of every lane in loopback: what the checkers hold is a free value each (R408, log 7). -/
def State.readLoops (s : State) : State :=
  s.each (List.range 8) fun l t =>
    if (t.lane l).loop = 0 then t
    else
      let b := freeNat t % 2 ^ 64
      let t := t.useFree
      let e := freeNat t % 2 ^ 64
      (t.useFree).mapLane l fun x => { x with bits := b, errs := e }

/-- A lane begins to retrain (R407, R408, R423). -/
def State.retrain (s : State) (l : Nat) : State :=
  if (s.lane l).state == 0 then s
  else
    let p := l / 2
    let s := s.mapLane l fun x => { x with state := 2, outBy := false, loop := 0, relocked := false, relockAt := s.now }
    let s := s.laneMsg l 2 0 0
    if (s.port p).st == .down && s.prole p != 0 && !(s.port p).tooLong then s.mapPort p fun q => { q with st := .training, stepAt := s.now } else s

/-- A lane is taken out of service (R407). -/
def State.takeOut (s : State) (l : Nat) : State :=
  let s := (s.mapLane l fun x => { x with outBy := true }).dropLane l
  (s.mapLane l fun x => { x with state := 1, relocked := false, loop := 0 }).laneMsg l 1 0 0

/-- LANE_SERVICE (R407). -/
def bodyLaneService : Body := fun e _ s =>
  let l := e.p 0 0 3
  (if e.p 0 8 1 = 1 then s.takeOut l else s.retrain l, some (reply 0))

/-- LOOPBACK (R408). -/
def bodyLoopback : Body := fun e _ s =>
  let l := e.p 0 0 3
  let mode := e.p 0 8 4
  if mode > 3 then (s, some (reply 0x0102))
  else if (s.lane l).state == 0 then (s, some (reply 0x0200))
  else
    let s := s.readLoops
    if mode = 0 then (s.retrain l, some (reply 0))
    else
      let t := s.mapLane l fun x => { x with state := 3, loop := mode, outBy := true, relocked := false, bits := 0, errs := 0 }
      (if mode = 1 then t else t.laneMsg l 3 mode 0, some (reply 0))

/-- An error count over 2^21 symbols is within an error ratio of 10^-6 (R406). -/
def eyeOpen (n : Nat) : Bool := decide (n * 1000000 ≤ 2097152)
/-- Steps in a row within the error ratio around step `mid`, that step among them (R406, log 56). -/
def openRun (l : List Nat) (mid : Nat) : Nat :=
  if eyeOpen (l.getD mid 0) then ((l.drop mid).takeWhile eyeOpen).length + ((l.take mid).reverse.takeWhile eyeOpen).length else 0

/-- EYE_SCAN: the error counts come with the command; each eye's width is taken at its slicer's threshold, its height at the data sampling instant (R406,
logs 9, 56). -/
def bodyEyeScan (counts : List (List Nat)) : Body := fun e _ s =>
  let l := e.p 0 0 3
  let res := e.p 0 8 4
  if res > 3 then (s, some (reply 0x0102))
  else if s.isA0 && (s.lane l).state == 0 then (s, some (reply 0x0200))
  else
    let ph := 16 * 2 ^ res
    let blocks := (List.range 192).map fun i => (padTo ph 0 (counts.getD i [])).map fun v => v % 2 ^ 32
    let eyes := (List.range 3).flatMap fun e =>
      [openRun (blocks.getD (64 * e + 32) []) (ph / 2), openRun ((List.range 64).map fun v => (blocks.getD (64 * e + v) []).getD (ph / 2) 0) 32]
    (s, some (replyWith (response 0x0B03 ([l, ph, 64, 2097152] ++ eyes) blocks)))

/-- LANE_SERVICE (R407). -/
def execLaneService (dt sub : Nat) (s : State) : Host.Outcome State Fault Refusal := runGcs dt 0x0704 sub none s bodyLaneService
/-- LOOPBACK (R408). -/
def execLoopback (dt sub : Nat) (s : State) : Host.Outcome State Fault Refusal := runGcs dt 0x0B04 sub none s bodyLoopback
/-- EYE_SCAN (R406). -/
def execEyeScan (dt sub : Nat) (counts : List (List Nat)) (s : State) : Host.Outcome State Fault Refusal :=
  runGcs dt 0x0B03 sub none s (bodyEyeScan counts)

end Sys2Proof.Machine
end

