-- ==== Sys2Proof/Machine/DroverDomain.lean ====
section
/-! DEFINITION. Drover domains: messages, admission, time transfer and the code plan; device time (R411, R414 to R422, R426, R433 of
12_lanes_drover). -/

namespace Sys2Proof.Machine

/-- The oldest message `m` received on a port and not yet acted on: its 32 bytes with the 8 of its arrival, and the state without it. -/
def State.takeMsg (s : State) (p m : Nat) : Option (Bytes × State) :=
  (((s.port p).ctlIn).find? fun b => byteAt b 0 == m).map fun b => (b, s.mapPort p fun q => { q with ctlIn := q.ctlIn.erase b })

/-- A step that acts on the oldest message `m` of a port. -/
def onMsg (dt p m : Nat) (s : State) (f : Bytes → State → State) : Host.Outcome State Fault Refusal := runUp dt s fun t =>
  match t.takeMsg p m with
  | some (b, u) => f b u
  | none => t

/-- The member's upward port is `p`. -/
def State.fromAbove (s : State) (p : Nat) : Bool := s.role == 2 && s.upPort == some p
/-- A member's message from above goes on downward, unchanged (R414). -/
def State.passDown (s : State) (b : Bytes) : State := s.sendOver s.upstream (b.take 32)

/-! HELLO (R404, R411). -/

/-- HELLO (R411). -/
def execHello (dt port : Nat) (s : State) : Host.Outcome State Fault Refusal := onMsg dt port 1 s fun b t =>
  t.mapPort port fun q => { q with peerDev := num b 2 2, peerDomain := num b 4 2, helloRx := true }

/-- HELLO_TIMER: every 100 ms (R411). -/
def execHelloTimer (dt port : Nat) (s : State) : Host.Outcome State Fault Refusal := runUp dt s fun t =>
  if (t.port port).up && t.now ≥ (t.port port).helloAt + ms 100 then t.hello port else t

/-! The code plan (R421, R422). -/

/-- The bitwise complement of a plan (R421). -/
def PlanSt.compl (p : PlanSt) : PlanSt := { base := ~~~ p.base, stride := 65535 - p.stride % 65536, epoch := 65535 - p.epoch % 65536, act := ~~~ p.act }
/-- A plan agrees with the complement held beside it. -/
def planOk (p : PlanSt) (c : Option PlanSt) : Bool := c == some p.compl
/-- A plan becomes the domain's plan in force (R421). -/
def State.setDomPlan (s : State) (p : PlanSt) : State := { s with drover := { s.drover with domPlan := some p, domPlanC := some p.compl } }
/-- A plan waits for its activation, or for the Furrow boundary at which it is adopted late (R421, R422). -/
def State.setPendPlan (s : State) (p : PlanSt) : State := { s with drover := { s.drover with pendPlan := some p, pendPlanC := some p.compl } }
/-- Epoch of the domain plan in force; 0 while none is known. -/
def State.domEpoch (s : State) : Nat := (s.drover.domPlan.map PlanSt.epoch).getD 0

/-- The PLAN message of a plan (R411). -/
def State.planMsg (s : State) (p : PlanSt) : Bytes := s.mkMsg 5 (le 4 p.base.toNat ++ le 2 p.stride ++ le 2 p.epoch ++ le 8 p.act.toNat)

/-- PLAN: a member holds a plan it does not yet hold, and passes it on (R421, R422). One whose activation has passed is adopted late. -/
def execPlan (dt port : Nat) (s : State) : Host.Outcome State Fault Refusal := onMsg dt port 5 s fun b t =>
  if !t.fromAbove port then t
  else
    let p : PlanSt := { base := BitVec.ofNat 31 (num b 4 4), stride := num b 8 2, epoch := num b 10 2, act := BitVec.ofNat 64 (num b 12 8) }
    let passed := decide (p.act.toNat ≤ t.deviceTime.toNat)
    let t := t.passDown b
    if t.drover.domPlan.any (fun d => d.epoch == p.epoch) || t.drover.pendPlan == some p then t
    else if t.drover.domPlan.isNone && passed then t.setDomPlan p
    else
      let u := t.setPendPlan p
      if passed then { u with drover := { u.drover with late := u.drover.late + 1 } } else u

/-- PLAN_ISSUE (R421, R434). -/
def bodyPlanIssue : Body := fun e _ s =>
  let base := e.p 0 0 32
  let stride := e.p 4 0 16
  let epoch := e.p 4 16 16
  let act := e.p64 8
  let now := s.deviceTime.toNat
  if s.role != 1 then (s, some (reply 0x0200))
  else if base = 0 || base ≥ 2 ^ 31 || stride < 1 || stride > 1023 || epoch = 0 || epoch = s.domEpoch || act < now + 10000000 || act > now + 60000000000 then
    (s, some (reply 0x0102))
  else (s.setPendPlan { base := BitVec.ofNat 31 base, stride := stride, epoch := epoch, act := BitVec.ofNat 64 act }, some (reply 0))

/-- PLAN_ISSUE (R421). -/
def execPlanIssue (dt sub : Nat) (s : State) : Host.Outcome State Fault Refusal := runGcs dt 0x0703 sub none s bodyPlanIssue

/-! TOPO, JOIN and ADMIT (R415, R416, R420). -/

/-- The TOPO message that this device sends downward (R411, R415). -/
def State.topoMsg (s : State) (root hops path epoch : Nat) (prev : Nat) : Bytes :=
  s.mkMsg 2 (le 2 root ++ le 2 hops ++ le 4 path ++ le 2 epoch ++ le 2 s.domain ++ le 8 prev)

/-- TOPO_TIMER: every 1 ms the root sends TOPO, with any pending PLAN; every 100 ms the plan in force (R411, R421). In SAFE it does not (R434). -/
def execTopoTimer (dt : Nat) (s : State) : Host.Outcome State Fault Refusal := runUp dt s fun t =>
  if t.role != 1 || t.code == 7 || t.now < t.drover.topoAt + ms 1 then t
  else
    let now := t.deviceTime
    let u := t.sendOver t.upstream (t.topoMsg t.devId 0 0 t.seq.planEpoch t.drover.prevTopo.toNat)
    let u := match u.drover.pendPlan with
      | some p => if p.act.toNat > now.toNat then u.sendOver u.upstream (u.planMsg p) else u
      | none => u
    let u := match u.drover.domPlan with
      | some p => if t.now ≥ t.drover.planAt + ms 100 then
          let v := u.sendOver u.upstream (u.planMsg p)
          { v with drover := { v.drover with planAt := t.now } } else u
      | none => u
    { u with drover := { u.drover with topoAt := t.now, prevTopo := now } }

/-- The member sends JOIN toward the root (R411, R415). -/
def State.sendJoin (s : State) : State :=
  match s.upPort with
  | none => s
  | some p =>
    let ack := (s.drover.pendPlan.map PlanSt.epoch).getD s.domEpoch
    let m := s.mkMsg 3 (le 2 s.domain ++ le 2 s.drover.hops ++ le 4 s.drover.pathNs ++ le 2 s.seq.planEpoch ++ le 2 ack ++ le 1 s.dev.timeSource)
    let t := s.sendMsg p m
    { t with drover := { t.drover with joinAt := s.now } }

/-- TOPO: a member takes the root, its hops and its path from it and forwards it; the first makes it send JOIN (R415). The delay is rounded to whole nanoseconds. -/
def execTopo (dt port : Nat) (s : State) : Host.Outcome State Fault Refusal := onMsg dt port 2 s fun b t =>
  if !t.fromAbove port || num b 14 2 != t.domain then t
  else
    let path := (num b 8 4 + 180 + (roundQ (t.port port).delay).toNat) % 2 ^ 32
    let was := t.drover.join
    let u := { t with drover := { t.drover with
      root := num b 4 2, hops := num b 6 2 + 1, pathNs := path, topoAt := t.now, topoEpoch := num b 12 2, prevTopo := BitVec.ofNat 64 (num b 16 8)
      join := if was == JoinSt.search then .joining else if was == JoinSt.holdover then .joined else was } }
    let u := u.sendOver u.upstream (u.topoMsg (num b 4 2) (num b 6 2 + 1) path (num b 12 2) (num b 16 8))
    if was == JoinSt.search then u.sendJoin else u

/-- TOPO_TIMEOUT: no TOPO for 10 ms (R415). -/
def execTopoTimeout (dt : Nat) (s : State) : Host.Outcome State Fault Refusal := runUp dt s fun t =>
  if t.role != 2 || t.now < t.drover.topoAt + ms 10 then t
  else
    let j := t.drover.join
    { t with drover := { t.drover with join := if j == JoinSt.joined then .holdover else if j == JoinSt.joining then .search else j } }

/-- JOIN_TIMER: every 10 ms until answered, then every 1 s (R411, R415). -/
def execJoinTimer (dt : Nat) (s : State) : Host.Outcome State Fault Refusal := runUp dt s fun t =>
  let period := match t.drover.join with
    | .joining => some (ms 10)
    | .search => none
    | _ => some (sec 1)
  match period with
  | some d => if t.role == 2 && t.now ≥ t.drover.joinAt + d then t.sendJoin else t
  | none => t

/-- The member with ID `id` in the root's table. -/
def State.member (s : State) (id : Nat) : Option Member := s.drover.members.find? fun m => m.id == id
/-- The table without member `id`. -/
def State.dropMember (s : State) (id : Nat) : State := { s with drover := { s.drover with members := s.drover.members.filter fun m => m.id != id } }

/-- RESULT for a JOIN that reaches the root (R415, R420): an admitted member stays admitted over its budget (R426), and is known again on
either port of the ring pair. -/
def State.admitResult (s : State) (p id hops path source domain : Nat) : Nat :=
  let known := s.member id
  let taken := id == s.devId || known.any fun m => !((m.port == p && m.hops == hops) || (s.isRing m.port && s.isRing p))
  if taken then 1
  else if known.isNone && path > s.pf 10 0x10 0 32 then 2
  else if source != 2 then 4
  else if domain != s.domain then 3
  else 0

/-- JOIN: the root answers with ADMIT; a member passes it on (R415, R416, R420, R421, R426). -/
def execJoin (dt port : Nat) (s : State) : Host.Outcome State Fault Refusal := onMsg dt port 3 s fun b t =>
  if t.role == 2 then
    match t.upPort with
    | some u => if u != port then t.sendMsg u (b.take 32) else t
    | none => t
  else if t.role != 1 then t
  else
    let id := num b 2 2
    let path := num b 8 4
    let r := t.admitResult port id (num b 6 2) path (byteAt b 16 % 4) (num b 4 2)
    let old := t.member id
    let budget := t.pf 10 0x10 0 32
    let u := if r = 0 then
        let v := t.dropMember id
        let v := { v with drover := { v.drover with members :=
          { id := id, hops := num b 6 2, pathNs := path, ackEpoch := num b 14 2, lastReport := t.now, port := port } :: v.drover.members } }
        if path > budget && old.any (fun m => m.pathNs ≤ budget) then v.post 0x5004 10 id [path] else v
      else if r = 1 then t else t.dropMember id
    u.sendMsg port (u.mkMsg 4 (le 2 id ++ le 1 r))

/-- ADMIT: the member named is JOINED or refused; others pass it on (R415, R420, R422). A JOINED member leaves a DUPLICATE_ID to its namesake. -/
def execAdmitMsg (dt port : Nat) (s : State) : Host.Outcome State Fault Refusal := onMsg dt port 4 s fun b t =>
  if !t.fromAbove port then t
  else if num b 4 2 != t.devId then t.passDown b
  else
    let r := byteAt b 6
    let joined := t.drover.join == .joined || t.drover.join == .holdover
    if r = 0 then
      if joined then t
      else { t with drover := { t.drover with join := .joined, refusedBy := 0, firstSync := true, reseedDue := true } }
    else if r = 1 && joined then t.passDown b
    else
      let u := ({ t with drover := { t.drover with join := .refused, refusedBy := r } }).post 0x5002 0 0 [r]
      if r = 4 then u.post 0x100C 0 0 [t.dev.timeSource] else u

/-- MEMBER_FORGET: 5 s without a JOIN report (R416). -/
def execMemberForget (dt id : Nat) (s : State) : Host.Outcome State Fault Refusal := runUp dt s fun t =>
  if t.role == 1 && (t.member id).any (fun m => decide (t.now ≥ m.lastReport + sec 5)) then t.dropMember id else t

/-! Time transfer (R417 to R420). -/

/-- The units of one nanosecond of device time. -/
def nsUnits : Nat := 5120000000000

/-- Device time changed by a number of nanoseconds. -/
def State.shiftTime (s : State) (d : Rat) : State :=
  { s with time := { s.time with units := ((s.time.units : Int) + roundQ (d * (nsUnits : Rat))).toNat } }

/-- A rate offset of at most 100 ppm. -/
def clampPpb (v : Int) : Int := max (-100000) (min 100000 v)

/-- A member with source 2 follows its upward link: a step on the first exchange and beyond 10 us, else a slew with a 1 s time constant (R418). -/
def State.follow (s : State) (o : Rat) : State :=
  if s.drover.firstSync || o > 10000 || o < -10000 then
    { (s.shiftTime (-o)) with drover := { s.drover with firstSync := false, lastOfs := o } }
  else { s with time := { s.time with ppb := clampPpb (roundQ (-o)) }, drover := { s.drover with lastOfs := o } }

/-- SYNC_TIMER: every 1 ms the end nearer the root sends SYNC; its T1 is stamped as it is coded (R411, R418). -/
def execSyncTimer (dt port : Nat) (s : State) : Host.Outcome State Fault Refusal := runUp dt s fun t =>
  let q := t.port port
  if q.up && t.upstream port && t.now ≥ q.syncAt + ms 1 then
    let n := (q.syncSeq + 1) % 65536
    (t.sendMsg port (t.mkMsg 6 (le 2 n))).mapPort port fun q => { q with syncSeq := n, syncAt := t.now }
  else t

/-- SYNC: the downstream end keeps T1 and T2 and sends DREQ (R418). -/
def execSync (dt port : Nat) (s : State) : Host.Outcome State Fault Refusal := onMsg dt port 6 s fun b t =>
  if t.upstream port then t
  else
    (t.sendMsg port (t.mkMsg 7 (le 2 (num b 4 2)))).mapPort port fun q => { q with syncSeq := num b 4 2, t1 := num b 8 8, t2 := num b 32 8 }

/-- DREQ: the upstream end answers with T4, its arrival (R418). -/
def execDreq (dt port : Nat) (s : State) : Host.Outcome State Fault Refusal := onMsg dt port 7 s fun b t =>
  if t.upstream port then t.sendMsg port (t.mkMsg 8 (le 2 (num b 4 2) ++ le 2 0 ++ le 8 (num b 32 8))) else t

/-- DRESP: the downstream end computes its delay and offset; a JOINED member with source 2 follows its upward port's (R418). -/
def execDresp (dt port : Nat) (s : State) : Host.Outcome State Fault Refusal := onMsg dt port 8 s fun b t =>
  let q := t.port port
  if t.upstream port || num b 4 2 != q.syncSeq then t
  else
    let d := linkDelay q.t1 q.t2 q.t3 (num b 8 8)
    let a : Rat := (signed 16 (t.pf 10 (0x44 + 16 * port) 0 16) : Rat) / 1000
    let u := t.mapPort port fun q => { q with delay := d }
    let o := stampDiff q.t2 q.t1 - d - a / 2
    if !u.fromAbove port then u
    else if u.dev.timeSource = 2 && u.drover.join == .joined then u.follow o
    else { u with drover := { u.drover with lastOfs := o } }

/-! LANE and BREAK (R411, R423, R426, R434). -/

/-- The lane of this end that a partner's lane number means: lanes may be swapped within the port (R401). -/
def State.partnerLane (s : State) (p n : Nat) : Nat := 2 * p + (if (s.port p).swapped then 1 - n % 2 else n % 2)

/-- LANE: the partner reports a lane's state, asks for a loopback, or agrees a rejoin SEQ (R408, R411, R423). -/
def execLane (dt port : Nat) (s : State) : Host.Outcome State Fault Refusal := onMsg dt port 9 s fun b t =>
  let l := t.partnerLane port (byteAt b 4)
  let x := t.lane l
  match byteAt b 5 with
  | 0 =>
    if x.state == 2 && x.relocked && (t.port port).st == .one then
      let n := num b 8 2 % 4096
      let known := (t.port port).rejoin.isSome
      let u := if known then t else t.mapPort port fun q => { q with rejoin := some (l, n) }
      if known then u else u.laneMsg l 0 0 n
    else t
  | 1 => if x.state == 0 then t.laneLost l else t
  | 2 => if x.outBy && x.loop < 2 then t else if x.state == 0 then t.laneLost l else t.mapLane l fun x => { x with state := 2, loop := 0, outBy := false }
  | _ =>
    let mode := byteAt b 6
    let u := if x.state == 0 then t.laneLost l else t
    u.mapLane l fun x => { x with state := 3, loop := mode, outBy := true, relocked := false, bits := 0, errs := 0 }

/-- BREAK: on its upward ring port a member reroutes; elsewhere it goes no further (R426). -/
def execBreakMsg (dt port : Nat) (s : State) : Host.Outcome State Fault Refusal := onMsg dt port 10 s fun b t =>
  if t.fromAbove port && t.isRing port then t.rerouteFrom port (num b 4 2) else t

/-! Device time (R417). -/

/-- The error of device time at a PPS edge, in units, folded into half a second either way (R417). -/
def ppsError (units : Nat) : Int :=
  let one := 1000000000 * nsUnits
  let r := units % one
  if 2 * r > one then (r : Int) - one else r

/-- Device time, in its own units, at the instant `t` just past (R29). -/
def State.unitsAt (s : State) (t : Nat) : Nat :=
  if s.time.running then s.time.units - (s.now - t) * (1000000000 + s.time.ppb).toNat else s.time.units

/-- A PPS_IN edge, at its timestamp of 15.625 ps units (R29), disciplines source 1: an edge 1 s within 100 us of the last accepted one, or the first (R417). The loop's law is not stated:
within 10 us its rate is a free value of at most 100 ppm (log 7). -/
def State.pps (s : State) : State :=
  let edge := tdcStamp s.now
  let good := match s.time.lastPps with
    | none => true
    | some a => decide (edge + us 100 ≥ a + sec 1 ∧ edge ≤ a + sec 1 + us 100)
  if !good then s
  else
    let e := ppsError (s.unitsAt edge)
    let s := { s with time := { s.time with lastPps := some edge, ppsLost := false } }
    if e > (10000 * nsUnits : Nat) || e < -((10000 * nsUnits : Nat) : Int) then { s with time := { s.time with units := ((s.time.units : Int) - e).toNat } }
    else { s.useFree with time := { s.time with ppb := ((freeNat s % 200001 : Nat) : Int) - 100000 } }

/-- PPS_EDGE: a waiting TIME_SET with AT_PPS steps the time; then the edge disciplines source 1 (R399, R417). -/
def execPpsEdge (dt : Nat) (s : State) : Host.Outcome State Fault Refusal := runUp dt s fun t =>
  let u := match t.waiting .pps with
    | some e => (t.stepTime e.arg).finish e.sub (timeSetReply t.deviceTime.toNat e.arg)
    | none => t
  if u.dev.timeSource = 1 then u.pps else u

/-- TIME_PPS_LOST: no accepted edge for 1.5 s (R417). -/
def execTimePpsLost (dt : Nat) (s : State) : Host.Outcome State Fault Refusal := runUp dt s fun t =>
  if t.dev.timeSource = 1 && !t.time.ppsLost && t.now ≥ t.time.lastPps.getD t.time.srcAt + ms 1500 then
    ({ t with time := { t.time with lastPps := none, ppsLost := true } }).post 0x100A 0 0
  else t

/-- TIME_STALE: source 3, 60 s without TIME_SET or TIME_SLEW (R417). -/
def execTimeStale (dt : Nat) (s : State) : Host.Outcome State Fault Refusal := runUp dt s fun t =>
  if t.dev.timeSource = 3 && t.now ≥ t.time.lastHostSet + sec 60 then
    ({ t with time := { t.time with lastHostSet := t.now } }).post 0x100B 0 0
  else t

/-- TIME_SLEW_END: the rate offset ends with its duration (R417). -/
def execTimeSlewEnd (dt : Nat) (s : State) : Host.Outcome State Fault Refusal := runUp dt s fun t =>
  if t.time.slewEnd.any fun a => decide (t.now ≥ a) then { t with time := { t.time with ppb := 0, slewEnd := none } } else t

/-- TIME_SET_PPS_TIMEOUT: 2 s without an edge (R399). -/
def execTimeSetPpsTimeout (dt : Nat) (s : State) : Host.Outcome State Fault Refusal := runUp dt s fun t =>
  match t.waiting .pps with
  | some e => if t.now ≥ e.since + sec 2 then t.finish e.sub (reply 0x0200) else t
  | none => t

/-! DROVER_STATUS, and an APPLY of the descriptor (R399, R433). -/

/-- Join state as DROVER_STATUS numbers it: 0 SEARCH, 1 JOINING, 2 JOINED, 3 REFUSED, 4 HOLDOVER (log 17). -/
def JoinSt.num : JoinSt → Nat
  | .search => 0
  | .joining => 1
  | .joined => 2
  | .refused => 3
  | .holdover => 4
/-- Port state: 0 DOWN, 1 TRAINING, 2 TWO_LANE, 3 ONE_LANE (log 17). -/
def PortSt.num : PortSt → Nat
  | .down => 0
  | .training => 1
  | .two => 2
  | .one => 3

/-- Device time is locked to its source. -/
def State.timeLocked (s : State) : Bool :=
  (s.dev.timeSource == 1 && s.time.lastPps.isSome) || (s.dev.timeSource == 2 && s.drover.join == .joined && !s.drover.firstSync)

/-- DROVER_STATUS. The order is that of the chapter's list; the member entries follow the object blocks (R364, R399, R421; log 17). -/
def bodyDroverStatus : Body := fun _ _ s =>
  let s := s.readLoops
  let d := s.drover
  let dev := [s.devId, s.domain, d.join.num, d.refusedBy, d.root, d.hops, d.pathNs, s.dev.timeSource, b2n s.timeLocked, twos 32 (roundQ d.lastOfs),
    s.seq.planEpoch, (d.pendPlan.map PlanSt.epoch).getD 0] ++ two ((d.pendPlan.map fun p => p.act.toNat).getD 0)
  let blocks := (List.range 4).map fun p =>
    let q := s.port p
    let lanes := [s.lane (2 * p), s.lane (2 * p + 1)]
    [s.prole p, q.st.num] ++ lanes.map (·.state) ++ [(roundQ q.delay).toNat % 2 ^ 32, q.shed]
      ++ lanes.flatMap (fun x => two x.bits ++ two x.errs) ++ (List.range 8).flatMap fun i => two (s.priv.cnt.get (352 + 8 * p + i)).toNat
  let entries := if s.role != 1 then [] else d.members.flatMap fun m => [m.id, m.hops, m.pathNs, m.ackEpoch] ++ two (s.timeAt m.lastReport).toNat
  (s, some (replyWith (response 0x0702 dev blocks ++ entries.flatMap fun v => le 4 v)))

/-- DROVER_STATUS (R399). -/
def execDroverStatus (dt sub : Nat) (s : State) : Host.Outcome State Fault Refusal := runGcs dt 0x0702 sub none s bodyDroverStatus

/-- The active Drover descriptor has replaced `old` (R405, R431, R433): ports whose PROLE or TX_PRESET changed, and those held down as too long,
retrain; a member whose DEV_ID, DOMAIN or ROLE changed leaves and rejoins. -/
def State.droverApply (s : State) (old : Bytes) : State :=
  let new := s.part 10
  let w (b : Bytes) (p : Nat) : Nat := fieldOf b (0x40 + 16 * p) 0 12
  let s := s.each (List.range 4) fun p t =>
    let q := t.port p
    if w new p = w old p && !q.tooLong then t
    else
      let on := t.prole p != 0
      let t := t.mapPort p fun q =>
        if on then { q with st := .training, stepAt := t.now, tooLong := false, shed := 0, ueRun := 0, bothSince := none, rejoin := none, helloRx := false, resend := 0, nak := false }
        else {}
      t.each [2 * p, 2 * p + 1] fun l u => u.mapLane l fun x =>
        { x with state := if on && !x.outBy then 2 else if x.state == 3 then 3 else 1, preset := fieldOf new (0x40 + 16 * p) 8 4, relocked := false, relockAt := t.now }
  if num new 0x08 4 = num old 0x08 4 && num new 0x0C 2 = num old 0x0C 2 then s
  else { s with drover := { s.drover with
    join := .search, refusedBy := 0, members := [], firstSync := true, reseedDue := false, pendPlan := none, pendPlanC := none, domPlan := none
    domPlanC := none, reroute := none, upSec := false } }

end Sys2Proof.Machine
end

