-- ==== Sys2Proof/Machine/Repair.lean ====
section
/-! DEFINITION. Engines, spares, banks and the repair log (R268 to R296 of 08_range_engines_repair). -/

namespace Sys2Proof.Machine

/-- Channel `c` is dead with cause 1 INPUT, 2 TDC or 3 ENGINE (R284, R290, R292). Of its open channel-sheaves only the one that closes first still writes its record
(R325), but with cause ENGINE every one that was open at the error does (R282): DEDUCED (log 89). The alerts of the others are retracted as ABORTED. -/
def State.killChannel (s : State) (c cause : Nat) : State :=
  if (s.ch c).dead != 0 && (s.ch c).dead != 4 then s
  else
    let t := ((s.mapCh c fun q => { q with dead := cause, dying := 0 }).post 0x3005 2 c [cause]).addReason 3
    let gone := if cause = 3 then [] else (t.ch c).sheaves.drop 1
    let t := if gone.isEmpty then t else t.mapCh c fun q => { q with sheaves := q.sheaves.take 1 }
    let t := (t.thresh.outstanding.filter fun r => r.ch == c && gone.any fun h => h.cellNo == r.cellNo).foldl (fun u r => u.retract r 3 0 0) t
    t.logRepair 5 (if cause = 3 then 1 else 3) c 0xFFFF

/-- Channel `c` has failed: it is dead from its next sheaf boundary (R282, R284, R325). CH_REF, which has no channel-sheaves, and a channel at boot are dead at once. -/
def State.channelFails (s : State) (c cause : Nat) : State :=
  if c ≥ 512 || !s.holdUp then s.killChannel c cause
  else if (s.ch c).dying != 0 then s
  else s.mapCh c fun q => { q with dying := cause }

/-- A flag on the channel's oldest channel-sheaf that satisfies `p`. -/
def State.flagSheaf (s : State) (c b : Nat) (p : Sheaf → Bool) : State :=
  s.mapCh c fun q =>
    match q.sheaves.find? p with
    | some h => { q with sheaves := q.sheaves.map fun x => if x.cellNo = h.cellNo && x.str = h.str then x.flagNow b else x }
    | none => q

/-- A lit channel-sheaf whose record is not formed. -/
def Sheaf.openLit (h : Sheaf) : Bool := h.kind == 0 && !(h.ph == .ready)

/-- An engine error: a channel-sheaf closes without returns and with the engine-error flag (R282). -/
def Sheaf.engineError (h : Sheaf) : Sheaf := { h.flag 19 with noRet := true }

/-- An engine of channel `c` with no run has an error: the sheaf that it works on is affected; where only a STALE or NO_ILLUM place is open, the error shows in the next
NORMAL record (R296, R325). -/
def State.engineError (s : State) (c : Nat) : State :=
  s.mapCh c fun q =>
    match q.sheaves.find? Sheaf.openLit with
    | some h => { q with sheaves := q.sheaves.map fun x => if x.cellNo = h.cellNo then x.engineError else x }
    | none => { q with errPend := true }

/-- A spare begins its self-test beside a position (R275, R276). -/
def State.startRun (s : State) (p e : Nat) (audit : Bool) : State :=
  let t := s.mapEngine e fun x => { x with st := .testing }
  { t with repair := { t.repair with runs := t.repair.runs ++ [{ pos := p, spare := e, audit := audit }], suspects := t.repair.suspects.filter (· != p) } }

/-- A run at a position ends without a verdict: its spare is IDLE (R276). -/
def State.cancelRun (s : State) (p : Nat) : State :=
  match s.runAt p with
  | some r => (s.endRun p).mapEngine r.spare fun x => { x with st := .idle }
  | none => s

/-- No spare for a confirmed cause at position `p`: the channel's open sheaves close without returns, and it is dead from the next sheaf boundary. Its partner engine goes
IDLE, with no run and no suspicion left, and does not join the spares (R282). -/
def State.noSpare (s : State) (p : Nat) : State :=
  let c := p / 2
  let m := Nat.xor p 1
  let t := (s.mapCh c fun q => { q with sheaves := q.sheaves.map fun h => if h.openLit then h.engineError else h }).cancelRun m
  let t := t.mapEngine (t.holder m) fun x => { x with st := if x.st == .retired then .retired else .idle, unspared := true }
  let t := (t.mapEngine (t.holder p) fun x => { x with st := .retired }).logRepair 1 (t.eng (t.holder p)).cause (t.holder p) 0xFFFF
  { t with repair := { t.repair with suspects := t.repair.suspects.filter fun x => x != p && x != m } }.channelFails c 3

/-- The SUSPECT positions in the order of R276: confirmed causes first, then in the order in which the engines became SUSPECT. -/
def State.suspectOrder (s : State) : List Nat :=
  let x (p : Nat) := s.eng (s.holder p)
  let l := sortBy (fun p q => decide ((x p).suspAt < (x q).suspAt)) s.repair.suspects
  (l.filter fun p => confirmed (x p).cause) ++ l.filter fun p => !(confirmed (x p).cause)

/-- One waiting SUSPECT position is served, if it can be: by an IDLE spare of its group, else by that of a running audit that has found no difference (R276, R282, R283).
Of several IDLE spares the one of the lowest engine number is taken, so an engine restored under R281 before the group's own spares: DESIGN CHOICE (log 87), R276 names none. -/
def State.servePos (s : State) (p : Nat) : State :=
  let g := p / 256
  if !(s.repair.suspects.contains p) then s
  else match s.idleSpares g with
  | e :: _ => s.sparesChange (s.startRun p e false) g
  | [] =>
    match s.repair.runs.find? fun r => r.audit && !r.mismatch && r.pos / 256 == g with
    | some r => s.sparesChange ((s.endRun r.pos).startRun p r.spare false) g
    | none => if confirmed (s.eng (s.holder p)).cause then s.noSpare p else s

/-- Spares are assigned to every SUSPECT engine that waits; only in RANGING and DEGRADED (R276, R547). -/
def State.assignSpares (s : State) : State := if s.ranges then s.suspectOrder.foldl (fun t p => t.servePos p) s else s

/-- A cause is raised against the engine at position `p` (R274, R281). Of HOST and an internal cause in one engine cycle the internal one is recorded (R296). -/
def State.raiseCause (s : State) (p c : Nat) : State :=
  let e := s.holder p
  let x := s.eng e
  if x.st == .suspect then
    if (confirmed c && !(confirmed x.cause)) || (x.cause == 6 && x.suspAt / 5120 == s.now / 5120) then (s.mapEngine e fun x => { x with cause := c }).assignSpares else s
  else if x.st == .active then
    let t := (s.cancelRun p).mapEngine e fun x => { x with st := .suspect, cause := c, suspAt := s.now }
    ({ t with repair := { t.repair with suspects := t.repair.suspects ++ [p] } }).assignSpares
  else s

/-- First shadowed instant of a run: 2 us after its self-test (R277). -/
def EngRun.shadowFrom (r : EngRun) : Option Nat := r.testOk.map (· + us 2)
/-- A sheaf is shadowed by a run (R277). -/
def EngRun.shadows (r : EngRun) (h : Sheaf) : Bool := match r.shadowFrom with | some t => h.kind == 0 && decide (t ≤ h.tOpen) | none => false

/-- The compare gate of a run works: the spare has passed its self-test, and a shadowed sheaf is not yet released. Other outputs pass it unchecked (R277). -/
def State.gated (s : State) (p : Nat) : Bool :=
  match s.runAt p with | some r => (s.ch (p / 2)).sheaves.any r.shadows | none => false

/-- The gate resolves a difference in the spare's favour (R277, R296); `c` is the cause that the difference gives an engine without a confirmed one. -/
def State.gateSpare (s : State) (p : Nat) (c : Nat := 3) : State :=
  match s.runAt p with
  | none => s
  | some r =>
    let e := s.holder p
    let t := (s.engCount e 5 1).mapEngine e fun x => { x with
      cause := if x.st == .suspect && confirmed x.cause then x.cause else c, suspAt := if x.st == .suspect then x.suspAt else s.now, st := .suspect }
    let t := ((t.mapRun p fun r => { r with mismatch := true }).mapEngine r.spare fun x => { x with st := .shadow }).flagSheaf (p / 2) 18 r.shadows
    s.sparesChange t (p / 256)

/-- The spare of the run at `p` fails: it is RETIRED with `cause`. A SUSPECT engine waits for the next one; an audit goes on with the next IDLE spare, if there is one
(R276, R277; log 88). -/
def State.spareFails (s : State) (p cause : Nat) : State :=
  match s.runAt p with
  | none => s
  | some r =>
    let t := ((s.endRun p).mapEngine r.spare fun x => { x with st := .retired, cause := cause }).logRepair 1 cause r.spare 0xFFFF
    let t := s.sparesChange t (p / 256)
    if (t.eng (t.holder p)).st == .suspect then { t with repair := { t.repair with suspects := t.repair.suspects ++ [p] } }.assignSpares
    else match t.idleSpares (p / 256) with
      | e :: _ => t.startRun p e true
      | [] => t

/-- The takeover instant of a run (R278, R281): an audit without a mismatch ends; otherwise the spare takes the position. -/
def State.takeover (s : State) (r : EngRun) : State :=
  let e := s.holder r.pos
  let x := s.eng e
  if r.audit && !r.mismatch then ((s.endRun r.pos).mapEngine r.spare fun y => { y with st := .idle }).engCount e 4 1 |>.assignSpares
  else
    let again := !(confirmed x.cause) && !x.suspectedBefore
    let t := ((s.endRun r.pos).mapEngine r.spare fun y => { y with st := .active }).mapEngine e fun y => { y with
      st := if again then .testing else .retired, suspectedBefore := true, testEnd := s.now + ms 1 }
    let t := { t with repair := { t.repair with map := t.repair.map.set r.pos (some r.spare) } }
    (t.post 0x4001 4 r.pos [e, r.spare, x.cause]).logRepair 1 x.cause e r.spare

/-- A record of channel `c` has been released: runs beside its two positions count their shadowed sheaves (R278). Outside RANGING and
DEGRADED no takeover is made (R296, R547). -/
def State.releasedSheaf (s : State) (c : Nat) (h : Sheaf) : State :=
  if !s.ranges then s
  else [2 * c, 2 * c + 1].foldl (fun t p =>
    match t.runAt p with
    | some r => if r.shadows h then
        (if r.released + 1 ≥ 2 then t.takeover r else t.mapRun p fun r => { r with released := r.released + 1 })
      else t
    | none => t) s

/-- What a histogram bank holds: 0 the alert store of the slice of its number, 1 coarse slots, 2 fine histograms (R287). -/
def bankKind (b : Nat) : Nat := if b < 32 then 0 else if b < 92 then 1 else 2

/-- A word of histogram bank `bank` is read with an uncorrectable error and taken as 0 (R288). `hit` names it: the channel; the half of the alert store, the coarse slot, or
the pass of the fine histograms; then the alert entry's key, the coarse bin, or the fine histogram's place in its pass * 128 + its bin. The channel-sheaf that owns the word
carries the flag; nobody does where the word is not in use. -/
def State.histError (s : State) (bank : Nat) (hit : List Nat) : State :=
  match hit with
  | [c, own, w] => s.mapCh c fun q => { q with sheaves := q.sheaves.map fun h =>
      if !h.openLit then h
      else (match bankKind bank with
        | 0 => if h.str = bank && h.half = own && !h.alertCleared then { h.flag 20 with alerts := h.alerts.upd w fun a => { a with weight := 0, bad := true } } else h
        | 1 => if h.slot = some own then { h.flag 20 with bins := h.bins.set w 0, coarseBad := true } else h
        | _ => if h.ph == .processing then { h.flag 20 with fineBad := h.fineBad ++ [(own, w)] } else h) }
  | _ => s

/-! The steps. -/

/-- An error of the engine at `pos` with cause `c`: on a shadowed sheaf the gate releases the spare's output; else the sheaf is affected and the cause is raised (R274,
R277, R296). -/
def State.engineFails (s : State) (pos c : Nat) : State :=
  let shadowed : Bool := match s.runAt pos with | some r => (s.ch (pos / 2)).sheaves.any fun h => h.openLit && r.shadows h | none => false
  if shadowed then s.gateSpare pos c else (s.engineError (pos / 2)).raiseCause pos c

/-- ENGINE_UE: an uncorrectable local-store error at position `pos`, or in its spare (R274, R277, R282, R296). -/
def execEngineUe (dt pos : Nat) (inSpare : Bool) (s : State) : Host.Outcome State Fault Refusal := runUp dt s fun t =>
  let t := t.count (cntGroup (pos / 256) 4) 1
  if inSpare then
    match t.runAt pos with
    | some r => (t.engCount r.spare 1 1).spareFails pos 1
    | none => t
  else (t.engCount (t.holder pos) 1 1).engineFails pos 1
/-- ENGINE_TRAP (R274). -/
def execEngineTrap (dt pos : Nat) (s : State) : Host.Outcome State Fault Refusal := runUp dt s fun t => (t.engCount (t.holder pos) 2 1).engineFails pos 2

/-- The engine that has an error at position `pos`: the one that holds it, or the spare of its run. -/
def State.engineOf (s : State) (pos : Nat) (inSpare : Bool) : Option Nat := if inSpare then (s.runAt pos).map (·.spare) else some (s.holder pos)

/-- A corrected error of engine `e` at instant `now` is remembered for 1 s, at most sixteen of them (R274). -/
def Engine.corrected (x : Engine) (now : Nat) : Engine := { x with ceAt := (now :: x.ceAt.filter fun a => decide (now < a + sec 1)).take 16 }

/-- LS_CE: one corrected error in a local store, of the engine at `pos` or of the spare beside it. Each counts; the sixteenth of an engine within 1 s raises the cause, and
the count of sixteen starts afresh (R274, R295). -/
def execLsCe (dt pos : Nat) (inSpare : Bool) (s : State) : Host.Outcome State Fault Refusal := runUp dt s fun t =>
  match t.engineOf pos inSpare with
  | none => t
  | some e =>
    let u := ((t.count (cntGroup (pos / 256) 3) 1).engCount e 0 1).mapEngine e fun x => x.corrected t.now
    if inSpare || (u.eng e).ceAt.length < 16 then u else (u.mapEngine e fun x => { x with ceAt := [] }).raiseCause pos 4

/-- The next ACTIVE position of a group from `p` on, wrapping (R275). -/
def State.nextActive (s : State) (g p : Nat) : Option Nat :=
  ((List.range 256).map fun i => 256 * g + (p - 256 * g + i) % 256).find? fun q => (s.eng (s.holder q)).st == .active && (s.runAt q).isNone

/-- AUDIT_START of group `grp` (R275). -/
def execAuditStart (dt grp : Nat) (s : State) : Host.Outcome State Fault Refusal := run dt s fun t =>
  if !t.ranges || t.now < t.repair.lastAudit.getD grp 0 + ms 1 then t
  else
    let u := { t with repair := { t.repair with lastAudit := updAt t.repair.lastAudit grp fun _ => t.now } }
    if (u.repair.runs.any fun r => r.audit && r.pos / 256 == grp) then u
    else match u.idleSpares grp, u.nextActive grp (u.repair.nextAudit.getD grp 0) with
      | e :: _ :: _, some p =>
        let v := u.startRun p e true
        { v with repair := { v.repair with nextAudit := updAt v.repair.nextAudit grp fun _ => 256 * grp + (p + 1 - 256 * grp) % 256 } }
      | _, _ => u

/-- SPARE_SELF_TEST_DONE of the run at `pos` (R276). SHADOW_RUNS counts on the spare, AUDITS_PASSED and MISMATCHES on the engine beside it, GATE_TIMEOUTS on the one that is
silent: DESIGN CHOICE (log 86), R295 does not say which of the two counts. -/
def execSpareSelfTestDone (dt pos : Nat) (ok : Bool) (s : State) : Host.Outcome State Fault Refusal := runUp dt s fun t =>
  match t.runAt pos with
  | none => t
  | some r =>
    if r.testOk.isSome then t
    else if !ok then t.spareFails pos 2
    else
      let u := (t.mapRun pos fun r => { r with testOk := some t.now }).mapEngine r.spare fun x => { x with st := if r.audit then .audit else .shadow }
      if r.audit then u else (u.engCount r.spare 3 1).count (cntGroup (pos / 256) 5) 1
/-- COMPARE_GATE: both outputs of a shadowed sheaf have met, the first of them held for `held` engine cycles, at most 64 (R277, R279, R295). -/
def execCompareGate (dt pos : Nat) (mismatch : Bool) (held : Nat) (s : State) : Host.Outcome State Fault Refusal := runUp dt s fun t =>
  if !t.gated pos then t
  else
    let u := t.count (cntGroup (pos / 256) 2) held
    if mismatch then u.gateSpare pos else u
/-- GATE_TIMEOUT: of a shadowed sheaf, one output alone within 64 cycles, the spare's or the engine's (R277). -/
def execGateTimeout (dt pos : Nat) (spareOnly : Bool) (s : State) : Host.Outcome State Fault Refusal := runUp dt s fun t =>
  match (if t.gated pos then t.runAt pos else none) with
  | none => t
  | some r =>
    let u := t.count (cntGroup (pos / 256) 2) 64
    if spareOnly then (u.engCount (u.holder pos) 6 1).gateSpare pos else (u.engCount r.spare 6 1).spareFails pos 2
/-- OFFLINE_TEST_DONE of engine `eng` (R281). -/
def execOfflineTestDone (dt eng : Nat) (ok : Bool) (s : State) : Host.Outcome State Fault Refusal := runUp dt s fun t =>
  let x := t.eng eng
  if x.st == .testing && (t.repair.runs.all fun r => r.spare != eng) && t.now ≥ x.testEnd then
    if ok then ((t.mapEngine eng fun x => { x with st := .idle }).logRepair 1 x.cause eng (t.substOf eng) true).assignSpares
    else t.mapEngine eng fun x => { x with st := .retired }
  else t
/-- A bank asks for a spare on condition `cause`: the copier starts, or the bank waits for it, while spares are left (R287). -/
def State.askBank (s : State) (bank cause : Nat) : State :=
  let r := s.repair
  if r.banks.contains bank || r.bankCopy.any (fun x => x.1 == bank) || r.bankQ.any (fun x => x.1 == bank) || decide (r.spareBanks ≤ r.bankQ.length + b2n r.bankCopy.isSome) then s
  else if r.bankCopy.isSome then { s with repair := { r with bankQ := r.bankQ ++ [(bank, cause)] } }
  else { s with repair := { r with bankCopy := some (bank, s.now), bankCause := cause } }

/-- Bank `b` is retired, the next spare bank in its place; CAUSE `cause` goes to the repair log (R287, R289, R292, R293). -/
def State.retireBank (s : State) (b cause : Nat) : State :=
  let sp := 4 - s.repair.spareBanks
  let u := { s with repair := { s.repair with banks := s.repair.banks ++ [b], spareBanks := s.repair.spareBanks - 1 } }
  let u := (u.post 0x4003 13 b [sp]).logRepair 4 cause b sp
  if u.repair.spareBanks = 0 then u.spareZero 4 0 else u

/-- BANK_SUBST: `cause` 1 an uncorrectable error, 2 sixty-four corrected errors within 1 s, 3 one word corrected four times within 1 s (R287, R288). -/
def execBankSubst (dt bank cause : Nat) (hit : List Nat) (s : State) : Host.Outcome State Fault Refusal := runUp dt s fun t =>
  (if cause = 1 then t.histError bank hit else t).askBank bank cause
/-- BANK_COPY_DONE: reads move to the spare, the bank is retired, and the next bank that waits is copied (R287, R289). `hit` is a word that the copier found uncorrectable.
CAUSE in the log is 1 after an uncorrectable error, else 3, the rule of this chapter (R293). -/
def execBankCopyDone (dt : Nat) (hit : List Nat) (s : State) : Host.Outcome State Fault Refusal := runUp dt s fun t =>
  match t.repair.bankCopy with
  | none => t
  | some (b, _) =>
    let u := t.histError b hit
    let u := ({ u with repair := { u.repair with bankCopy := none } }).retireBank b (if u.repair.bankCause = 1 then 1 else 3)
    match u.repair.bankQ with
    | [] => u
    | x :: rest => { u with repair := { u.repair with bankQ := rest, bankCopy := some (x.1, u.now), bankCause := x.2 } }

/-- A waiting repair merges with the log's entry for its object, or takes a free place of the 256 (R292). -/
def State.writeLog (s : State) (e : RepairEnt) : State :=
  let same (x : RepairEnt) : Bool := x.kind == e.kind && x.object == e.object
  if s.repair.log.any same then { s with repair := { s.repair with log := s.repair.log.map fun x => if same x then e else x } }
  else match s.repair.log.findIdx? fun x => x.kind == 0 with
    | some i => { s with repair := { s.repair with log := updAt s.repair.log i fun _ => e } }
    | none =>
      if s.repair.log.length < 256 then { s with repair := { s.repair with log := s.repair.log ++ [e] } }
      else { s with repair := { s.repair with logFull := true } }

/-- REPAIR_LOG_WRITE (R292). -/
def execRepairLogWrite (dt : Nat) (s : State) : Host.Outcome State Fault Refusal := runUp dt s fun t =>
  t.repair.logQ.foldl (fun u e => u.writeLog e) { t with repair := { t.repair with logQ := [] } }
/-- CHANNEL_INPUT_FAIL (R284). -/
def execChannelInputFail (dt ch : Nat) (s : State) : Host.Outcome State Fault Refusal := runUp dt s fun t =>
  if t.pf 3 (0x100 + 16 * ch) 2 1 = 1 then t.channelFails ch 1 else t

/-! Commands. -/

/-- ENGINE_RETIRE (R273). -/
def bodyEngineRetire : Body := fun e _ s =>
  let p := e.p 0 0 10
  if (s.eng (s.holder p)).st == .suspect then (s, some (reply 0x0214))
  else if (s.idleSpares (p / 256)).isEmpty then (s, some (reply 0x0310))
  else (s.raiseCause p 6, some (reply 0))

/-- Converter `a` has its spare slice (R289). -/
def State.sliceSpare (s : State) (a : Nat) : Nat := if (s.gw.get a).spare.isSome then 1 else 0
/-- Channel `c` has its spare timing lane (R161, R289). -/
def State.laneSpare (s : State) (c : Nat) : Nat := if (s.ch c).laneAFail || (s.ch c).laneBFail then 0 else 1
/-- Spare rows and columns left to SRAM macro `m` (R286, R289). -/
def State.macroSpare (s : State) (m : Nat) : Nat := (s.repair.rowcol.get m).1 + (s.repair.rowcol.get m).2
/-- The lowest number of a list and its place. -/
def worst (l : List Nat) : Nat := let m := l.foldl min (l.headD 0); (l.idxOf? m).getD 0

/-- REDUNDANCY_STATUS (R272, R289, R292, R364): for each class in code order the installed and remaining spares per domain and the worst domain,
then the entries in the log and LOG_FULL. -/
def bodyRedundancyStatus : Body := answer fun _ s =>
  let cls (inst : Nat) (l : List Nat) : List Nat := [inst] ++ l ++ [worst l]
  replyWith (response 0x0A20 (cls 16 ((List.range 4).map s.sparesLeft) ++ cls 1 ((List.range 32).map s.sliceSpare)
    ++ cls 1 ((List.range 513).map s.laneSpare) ++ cls 4 [s.repair.spareBanks] ++ cls 6 ((List.range Config.sramMacros).map s.macroSpare)
    ++ cls 1 [b2n s.fw.standbyOk] ++ [(s.repair.log.filter fun x => x.kind != 0).length, b2n s.repair.logFull]) [])

/-- The code of an engine state, in the order of R270. -/
def EngSt.num : EngSt → Nat
  | .active => 0
  | .suspect => 1
  | .idle => 2
  | .testing => 3
  | .shadow => 4
  | .audit => 5
  | .retired => 6

/-- The position that engine `e` holds or shadows, 0xFFFF for none. -/
def State.posOf (s : State) (e : Nat) : Nat :=
  match s.repair.runs.find? fun r => r.spare == e with
  | some r => r.pos
  | none => s.heldPos e

/-- ENGINE_STATUS (R272, R295, R364). -/
def bodyEngineStatus : Body := answer fun _ s =>
  replyWith (response 0x0A21 ((List.range 1024).map s.holder ++ [s.repair.mcRun, s.repair.mcNew]) ((List.range 1088).map fun e =>
    let x := s.eng e
    [x.st.num, x.cause, s.posOf e] ++ x.cnt.map sat32))

/-- REPAIR_LOG_CLEAR: `count` entries from the first named, all when the count is 0 (R294, R399). -/
def bodyRepairLogClear : Body := fun e _ s =>
  let first := e.p 0 0 8
  let n := if e.p 0 8 9 = 0 then 256 else e.p 0 8 9
  let keep := (List.range s.repair.log.length).map fun i => if first ≤ i && decide (i < first + n) then ({} : RepairEnt) else s.repair.log.getD i {}
  ({ s with repair := { s.repair with log := keep, logFull := false, logBad := s.repair.logBad.filter fun i => !(decide (first ≤ i) && decide (i < first + n)) } }, some (reply 0))

/-- ENGINE_RETIRE (R273). -/
def execEngineRetire (dt sub : Nat) (s : State) : Host.Outcome State Fault Refusal := run dt s fun t => t.gcs 0x0A22 sub none bodyEngineRetire
/-- REDUNDANCY_STATUS (R272). -/
def execRedundancyStatus (dt sub : Nat) (s : State) : Host.Outcome State Fault Refusal := run dt s fun t => t.gcs 0x0A20 sub none bodyRedundancyStatus
/-- ENGINE_STATUS (R272). -/
def execEngineStatus (dt sub : Nat) (s : State) : Host.Outcome State Fault Refusal := run dt s fun t => t.gcs 0x0A21 sub none bodyEngineStatus
/-- REPAIR_LOG_CLEAR (R294). -/
def execRepairLogClear (dt sub : Nat) (s : State) : Host.Outcome State Fault Refusal := run dt s fun t => t.gcs 0x0A24 sub none bodyRepairLogClear

end Sys2Proof.Machine
end

