-- ==== Sys2Proof/Machine/Gleaner.lean ====
section
/-! DEFINITION. Waveform capture: samples, gain, slices and the waveform record (R235 to R267 of 07_gleaner_capture, R315 of 09). -/

namespace Sys2Proof.Machine

/-! The steps. -/

/-- A step of the Gleaner: the requests of the engine cycles before it have been taken (R254). -/
def runGw (dt : Nat) (s : State) (f : State → State) : Host.Outcome State Fault Refusal := runUp dt s fun t => f (t.arbitrate false)


/-- The window of capture `c` is closed: that of the running one, or of the one that waits behind a closed one (R248, R255). -/
def GwState.closeWindow (c : Capture) (g : GwState) : GwState :=
  match g.running with
  | some r => if r.closed then { g with waiting := g.waiting.map fun x => if x = c then { x with closed := true } else x }
    else { g with running := some { r with closed := true } }
  | none => g

/-- The gain changes that waited for the converter's open windows follow at instant `now`, before sample `n`, once none is open (R248). -/
def GwState.noneOpen (now n : Nat) (low : Bool) (g : GwState) : GwState :=
  if g.openCaps = 0 then { g.applyPending n low with closedAt := now } else { g with closedAt := now }

/-- CAPTURE_WINDOW_CLOSE: the last sample of the oldest open window has been taken (R247, R248); `low` tells whether its last 64 valid samples are
all at code 204 or below. -/
def execCaptureWindowClose (dt gw : Nat) (low : Bool) (s : State) : Host.Outcome State Fault Refusal := runGw dt s fun t =>
  let g := t.gw.get gw
  match (g.running.toList ++ g.waiting).find? fun c => !c.closed with
  | none => t
  | some c =>
    match t.place gw c with
    | none => t
    | some (n, _, _) =>
      if t.now < c.last n * 3200 then t
      else t.mapGw gw fun g => (g.closeWindow c).noneOpen t.now (t.sampleNow + 1) low

/-! Samples (R235, R236, R238, R243, R244, R264). -/

/-- Factor of a gain step (R236, R246). -/
def stepGain (g : Nat) : Nat := [1, 4, 16].getD g 1
/-- A voltage of `uv` microvolts at the TIA output lies beyond converter full scale at a gain step (R236, R243). -/
def overRange (g uv : Nat) : Bool := decide (stepGain g * uv > 500000)
/-- What an ideal slice makes of a voltage at a gain step, in 1/16 LSB: code 1,023 is 500 mV at x1, 125 mV at x4 and 31.25 mV at x16 (R236). -/
def idealRaw (g uv : Nat) : Int := roundQ (((16 * 1023 * stepGain g * uv : Nat) : Rat) / 500000)
/-- A slice's output in 1/16 LSB with its offset in 1/16 LSB and its gain error in 1/65,536 taken out, as a code (R238). How the coefficients act is not stated:
DESIGN CHOICE (log 79). -/
def correctRaw (raw off gain : Int) : Nat := min 1023 (roundQ (((raw - off) * 65536 : Int) / ((65536 + gain) * 16 : Int) : Rat)).toNat
/-- The test DAC's code at sample `n` for a pattern: 0 a DC level, 1 a 16-step staircase, 2 a ramp, with the level in the bits above (R244). -/
def dacAt (pat n : Nat) : Nat := match pat % 4 with | 0 => pat / 4 | 1 => Config.testWalk n % 16 * 273 | _ => Config.testWalk n % 4096

/-- Sample `n` of converter `a` before the filter: what its slice makes of the voltage or, in TEST, of the test DAC across the converter's full scale, corrected with
that slice's coefficients in use (R235, R236, R238, R244). -/
def State.sampleCode (s : State) (a : Nat) (c : Capture) (h : List SEv) (n : Nat) (x : SampleIn) : Nat :=
  let raw := match evAt h [.test] n with
    | some (p + 1) => roundQ (((16 * 1023 * dacAt p n : Nat) : Rat) / 4095)
    | _ => idealRaw (gainAt h n) x.uv
  let sl := sliceAt h n
  correctRaw (raw + x.err) (s.useDie c.use (tSlice a sl 0)) (s.useDie c.use (tSlice a sl 1))

/-- The filter at sample `n`, over the samples before it as `x` gives them: the output is addressed by sampling instant, so its delay of (FLEN - 1) / 2 samples is
taken out (R237, R264). -/
def filtered (h : List SEv) (n : Nat) (x : Nat → Nat) : Nat :=
  match evOf h [.filt] n with
  | none => x n
  | some e =>
    if e.val % 8 = 0 then x n
    else
      let f := tapsOf e.data
      min 1023 (roundQ ((((List.range f).map fun i => signed 16 (num e.data (2 + 2 * i) 2) * (x (n + (f - 1) / 2 - i) : Int)).sum : Int) / 8192 : Rat)).toNat

/-- The waveform record of a capture, from the voltages at its sampling instants: `smp` runs from 15 samples before the window to 15 after it, as far as the longest
filter reaches (R235 to R238, R243, R250, R259, R261, R264, R315). -/
def State.waveform (s : State) (a : Nat) (c : Capture) (n frac method : Nat) (smp : List SampleIn) : Bytes :=
  let h := (s.gw.get a).hist
  let l := (List.range c.window).map fun i => (i, c.first n + i)
  let valid (m : Nat) : Bool := smpValid h c.ch m
  let inAt (m : Nat) : SampleIn := smp.getD (m + 15 - c.first n) { uv := 0, err := 0 }
  let isOver (m : Nat) : Bool := (evAt h [.test] m).getD 0 == 0 && overRange (gainAt h m) (inAt m).uv
  let code (m : Nat) : Nat := if isOver m then 1023 else filtered h m fun k => s.sampleCode a c h k (inAt k)
  let word (p : Nat × Nat) : Nat :=
    pack [(0, if smpExists h c.ch p.2 then code p.2 else 0), (10, if smpRt h p.2 then 3 else gainAt h p.2), (12, b2n (valid p.2)),
      (13, b2n (isOver p.2 && modeAt h p.2 != 1))]
  let words := l.map word
  let clip (w : Nat) : Bool := w % 1024 == 1023 && (w / 4096 % 2 == 1 || w / 1024 % 4 == 3)
  let pre := (l.take c.pre).filter fun p => valid p.2
  let firstV := ((l.find? fun p => valid p.2).map (·.1)).getD 4096
  let rchg := (l.drop 1).filter fun p => gainAt h p.2 != gainAt h (p.2 - 1)
  let calOvl := l.any fun p => evAt h [.cal] p.2 == some 1
  mkRecord 8 s.devId c.time.toNat (
    le 4 (pack [(0, a), (5, c.ch), (14, c.prof), (18, c.src), (20, modeAt h n), (22, (evAt h [.filt] n).getD 0 % 8), (25, b2n calOvl), (26, b2n c.dir)])
    ++ le 4 (c.cell % 65536) ++ le 4 c.furrow ++ le 4 (pack [(0, c.window), (16, c.pre)])
    ++ le 4 (pack [(0, frac), (6, method), (8, pre.length), (19, firstV)])
    ++ le 4 (pack [(0, (words.filter clip).length), (16, (words.filter fun w => w / 1024 % 4 == 3).length)])
    ++ le 4 (pack [(0, (words.filter fun w => w / 4096 % 2 == 0).length), (16, min 255 rchg.length)])
    ++ le 4 (if c.src = 2 then c.tag else 0) ++ le 16 0 ++ words.flatMap fun w => le 2 w)

/-- CAPTURE_READOUT_DONE: the running capture has been read out, no sooner than R256 allows; its record is released, and the next request runs (R237, R255, R256). -/
def execCaptureReadoutDone (dt gw : Nat) (smp : List SampleIn) (s : State) : Host.Outcome State Fault Refusal := runGw dt s fun t =>
  match (t.gw.get gw).running with
  | none => t
  | some c =>
    match c.closed && decide (t.now ≥ t.readEnd gw [c] c.runAt), t.place gw c with
    | true, some (n, frac, method) =>
      let rc := t.waveform gw c n frac method smp
      let u := t.mapGw gw fun g => { g with
        running := none, captures := g.captures + 1, fallback := g.fallback + b2n (method == 1), unmeasured := g.unmeasured + b2n (method == 2) }
      let u := { u with silo := { u.silo with waveQ := u.silo.waveQ - c.bytes } }
      (((u.count (192 + 2 * gw) 1).count (193 + 2 * gw) c.window).release rc).nextCapture gw
    | _, _ => t

/-- GAIN_SATURATION_SWITCH: four consecutive samples at 1,023 (R247, R248). -/
def execGainSaturationSwitch (dt gw : Nat) (s : State) : Host.Outcome State Fault Refusal := runGw dt s fun t =>
  t.mapGw gw fun g =>
    if g.mode == .off || g.mode == .dead || g.gainMode != 0 || g.gain = 0 then g
    else { g.setGain (t.sampleNow + 1) (g.gain - 1) (if g.openCaps = 0 then .gain else .sat) with pendUp := false }

/-- GAIN_RANGE_STEP: `cond` 0 a sample at code 921 or above, 1 sixteen consecutive samples at 204 or below, 2 sixty-four consecutive valid samples at
204 or below (R247). -/
def execGainRangeStep (dt gw cond : Nat) (s : State) : Host.Outcome State Fault Refusal := runGw dt s fun t =>
  t.mapGw gw fun g =>
    if g.mode == .off || g.mode == .dead || g.gainMode != 0 then g
    else if cond = 0 then { g with pendUp := g.pendUp || g.gain > 0 }
    else if cond = 1 then if g.openCaps = 0 && g.pendUp then { g.setGain (t.sampleNow + 1) (g.gain - 1) .gain with pendUp := false } else g
    else if g.gain ≥ 2 then g
    else if g.openCaps = 0 then g.setGain (t.sampleNow + 1) (g.gain + 1) .gain else { g with pendDown := true }

/-! Slices (R238 to R242). -/

/-- CALROT in microseconds (R264). -/
def State.calrot (s : State) : Nat := max 100 (s.pf 6 0x0C 0 16)

/-- A converter samples. -/
def GwState.on (g : GwState) : Bool := !(g.mode == .off) && !(g.mode == .dead)

/-- The converter is dead (R242, R286, R290). -/
def State.converterDead (s : State) (a : Nat) : State :=
  ((s.mapGw a fun g => { g with mode := .dead, mustRepl := none, dueSince := none, calgap := false, fgSlice := none }).post 0x4005 3 a).addReason 4

/-- Slice `sl`, whose failure leaves the converter dead, is retired and logged (R242, R292). -/
def State.gwDies (s : State) (a sl : Nat) : State :=
  ((s.mapGw a fun g => { g with failed := if g.failed.contains sl then g.failed else sl :: g.failed }).logRepair 2 3 (a * 8 + sl) 0xFFFF).converterDead a

/-- The spare slice of a converter fails and is retired (R241, R289); where a position waits for it, that is the second failure (R242). -/
def State.spareSliceFails (s : State) (a sl : Nat) : State :=
  let waits := (s.gw.get a).mustRepl
  let t := ((s.mapGw a fun g => { g with spare := none, failed := sl :: g.failed, dueSince := none, calgap := false }).logRepair 2 3 (a * 8 + sl) 0xFFFF).spareZero 2 a
  match waits with
  | some p => t.gwDies a ((t.gw.get a).pos.getD p 0)
  | none => t

/-- The slice in position `p` of a converter is judged failed: it waits for the next swap point, or the converter is dead (R241, R242). -/
def State.sliceFails (s : State) (a p : Nat) : State :=
  let g := s.gw.get a
  if g.mustRepl = some p || !g.on then s
  else if g.spare.isNone || g.mustRepl.isSome then s.gwDies a (g.pos.getD p 0)
  else s.mapGw a fun g => { g with mustRepl := some p, failed := g.pos.getD p 0 :: g.failed }

/-- The spare takes a failed slice's position for good from sample `n` on, and RECOVERY begins (R241, R289). In TEST the converter stays in TEST and enters no RECOVERY
afterwards: DESIGN CHOICE (log 84), the spec gives RECOVERY no place in TEST. -/
def State.replaceSlice (s : State) (a p sp n : Nat) : State :=
  let old := (s.gw.get a).pos.getD p 0
  let t := s.mapGw a fun g => { ((g.setPos n (g.pos.set p sp)).setMode n (if g.mode == .test then .test else .recovery)) with
    spare := none, mustRepl := none, dueSince := none, calgap := false, swaps := g.swaps + 1 }
  (((t.post 0x4004 3 a [old]).logRepair 2 3 (a * 8 + old) sp).spareZero 2 a)

/-- A slice's new offset and gain, checked as a result of pass 7 (R238, R500 to R503). -/
def State.sliceCoef (s : State) (a sl : Nat) (o k : Int) : State :=
  let w := 4 + 3 * sl
  let bad := [s.calJudge 3 a w o true, s.calJudge 3 a (w + 1) k true].find? (· != 0)
  match bad with
  | some c => s.calReject 3 a 7 c
  | none =>
    let s := s.calTake (tSlice a sl 0) (s.calAt (tSlice a sl 0) (s.gwT a)) o
    s.calTake (tSlice a sl 1) (s.calAt (tSlice a sl 1) (s.gwT a)) k

/-- A slice out of service has been calibrated against the test DAC: offset in 1/16 LSB and gain in 1/65,536 of 1; beyond the bounds of R241 it has failed (R238). -/
def State.sliceCal (s : State) (a sl : Nat) (o k : Int) : State :=
  if o < -512 || o > 512 || k * 10 < 589824 || k * 10 > 720896 then s.spareSliceFails a sl
  else (s.sliceCoef a sl o (k - 65536)).mapGw a fun g => { g with calDone := if g.calDone.contains sl then g.calDone else g.calDone ++ [sl] }

/-- SLICE_ROTATION: CALROT has passed, so a swap falls due. The spare's calibration, where it was not complete yet, is complete: `meas` gives its offset in 1/16 LSB and
its gain in 1/65,536 (R238, R240, R242). -/
def execSliceRotation (dt gw : Nat) (meas : List Int) (s : State) : Host.Outcome State Fault Refusal := runGw dt s fun t =>
  let g := t.gw.get gw
  match g.spare with
  | none => t
  | some sp =>
    if !g.on || t.now < g.rotAt + us t.calrot then t
    else
      let u := if g.calPend then t.sliceCal gw sp (meas.getD 0 0) (meas.getD 1 65536) else t
      u.mapGw gw fun g => { g with rotAt := t.now, calPend := false, dueSince := if g.dueSince.isSome || g.spare.isNone then g.dueSince else some t.now }

/-- A swap is given up, the incoming slice `sp` and the one in service disagreeing: three in a row, at more than one slice, fail the spare (R239). -/
def State.swapAborts (s : State) (a sp old : Nat) (fails : List (Nat × Nat)) : State :=
  let l := fails.take 3
  let t := s.mapGw a fun g => { g with swapAborts := g.swapAborts + 1, agreeFails := l }
  if l.length = 3 && l.all (fun x => x.1 == sp) && l.any (fun x => x.2 != old) then t.spareSliceFails a sp else t

/-- Slice `sp` takes the position that fell due from sample `n` on, and the relieved slice `old` is the spare, to be calibrated; `skew` is the incoming slice's
timing skew in 0.1 ps (R238, R239). -/
def State.swapIn (s : State) (a sp old n : Nat) (skew : Int) : State :=
  let t := s.mapGw a fun g => { g.setPos n (g.pos.set ((g.nextPos + 3) % 4) sp) with spare := some old, calPend := true, agreeFails := [], swaps := g.swaps + 1 }
  t.calTake (tSlice a sp 2) (t.calAt (tSlice a sp 2) (t.gwT a)) skew

/-- SLICE_SWAP, 64 samples after a swap point: no window was open there, and none has opened for 64 samples (R239; log 80). A failed slice's position is taken at once;
else the incoming slice has shadowed the position for 256 of its samples. `meas` gives the rms disagreement in 1/16 LSB and the incoming slice's timing skew in 0.1 ps,
measured on the live signal meanwhile (R238, R239, R241). -/
def execSliceSwap (dt gw : Nat) (meas : List Int) (s : State) : Host.Outcome State Fault Refusal := runGw dt s fun t =>
  let g := t.gw.get gw
  let n := t.sampleNow - 63
  if !g.on || g.openCaps != 0 || decide (t.now < g.closedAt + 64 * 3200) then t
  else match g.spare, g.mustRepl, g.dueSince with
    | none, _, _ => t
    | some sp, some p, _ => t.replaceSlice gw p sp n
    | some _, none, none => t
    | some sp, none, some d =>
      if t.now < d + 1024 * 3200 then t
      else
        let old := g.pos.getD g.nextPos 0
        let t := t.mapGw gw fun g => { g with dueSince := none, calgap := false, nextPos := (g.nextPos + 1) % 4 }
        if meas.getD 0 0 > 32 then t.swapAborts gw sp old ((sp, old) :: g.agreeFails) else t.swapIn gw sp old n (meas.getD 1 0)

/-- SLICE_MEAN_CHECK of the slice in position `pos`: `far` when its mean departs by more than 8 LSB from the median of the others (R241). -/
def execSliceMeanCheck (dt gw pos : Nat) (far : Bool) (s : State) : Host.Outcome State Fault Refusal := runGw dt s fun t =>
  if far then t.sliceFails gw pos else t
/-- CALGAP: 100 ms without a swap point after a swap fell due (R240). -/
def execCalgap (dt gw : Nat) (s : State) : Host.Outcome State Fault Refusal := runGw dt s fun t =>
  match (t.gw.get gw).dueSince with
  | some d => if t.now ≥ d + ms 100 then t.mapGw gw fun g => { g with calgap := true } else t
  | none => t
/-- GLEANER_START_COMPLETE: each of the five slices has completed one calibration (R242, R243). -/
def execGleanerStartComplete (dt gw : Nat) (s : State) : Host.Outcome State Fault Refusal := runGw dt s fun t =>
  let g := t.gw.get gw
  if g.mode == .start && g.allCal then t.mapGw gw fun g => g.setMode (t.sampleNow + 1) .normal else t
/-- RECOVERY_COMPLETE (R243). -/
def execRecoveryComplete (dt gw : Nat) (s : State) : Host.Outcome State Fault Refusal := runGw dt s fun t =>
  if (t.gw.get gw).mode == .recovery then t.mapGw gw fun g => g.setMode (t.sampleNow + 1) .normal else t

/-! Commands. -/

/-- GLEAN_TEST (R244, R263): the pattern follows the captures ahead of it (R267). -/
def bodyGleanTest : Body := fun e _ s =>
  let a := e.p 0 0 5
  let on := e.p 0 8 1 == 1
  let pat := e.p 0 16 2
  if pat = 3 then (s, some (reply 0x0102))
  else if !on then (s.endTest a, some (reply 0))
  else if !(s.gw.get a).on then (s, some (reply 0x0212))
  else ((s.mapGw a fun g => { g with testPat := some (pat + 4 * e.p 4 0 12) }).nextCapture a, some (reply 0))

/-- GLEAN_FORCE (R254, R258, R260, R263): the request reaches the converter with the others of its engine cycle, after them, and the command completes then. -/
def bodyGleanForce : Body := fun e _ s =>
  let a := e.p 0 0 5
  let c : Capture := {
    ch := e.p 0 16 9, prof := e.p 4 0 4, profB := s.profile (e.p 4 0 4), src := 2, tTrig := some (s.sampleNow * 3200), cellNo := s.seq.cellNo, str := a
    cell := (((s.str a).runs.head?).map (·.cell)).getD 0, furrow := s.seq.furrow, dir := s.seq.dir, time := s.timeAt (s.sampleNow * 3200), tag := e.tag }
  let s := s.mapCmd e.sub fun x => { x with wait := .force, since := s.now }
  (s.ask a c false (some e.sub), none)

/-- A request register as a word: bit 31 in use, bits 8:0 channel, 12:9 profile, 14:13 source (log 17). -/
def capWord (c : Option Capture) : Nat :=
  match c with
  | some c => pack [(0, c.ch), (9, c.prof), (13, c.src), (31, 1)]
  | none => 0
/-- The number of a converter mode: the MODE codes of R315, then 4 disabled, 5 dead (log 17). -/
def GwMode.num (m : GwMode) : Nat := match m with | .off => 4 | .dead => 5 | m => m.code

/-- GLEAN_STATUS (R264, R364; log 17). -/
def bodyGleanStatus : Body := answer fun e s =>
  let m := e.p 0 0 32
  replyWith (response 0x0502 [] ((if m = 0 then List.range 32 else bitsOf 32 m).map fun a =>
    let g := s.gw.get a
    [g.mode.num, pack ((List.range 4).map (fun p => (3 * p, g.pos.getD p 0)) ++ [(12, g.spare.getD 7), (16, maskOf 5 fun i => g.failed.contains i)]),
      g.ch, g.gain, g.filt, capWord g.running, capWord (g.waiting[0]?), capWord (g.waiting[1]?), sat32 g.captures, sat32 g.overrun, sat32 g.noSpace]
      ++ g.refused.map sat32 ++ [sat32 g.noFire, sat32 g.fallback, sat32 g.unmeasured, sat32 g.swaps, sat32 g.swapAborts]))

/-- GLEAN_STATUS (R264). -/
def execGleanStatus (dt sub : Nat) (s : State) : Host.Outcome State Fault Refusal := run dt s fun t => (t.arbitrate false).gcs 0x0502 sub none bodyGleanStatus
/-- GLEAN_TEST (R244, R263). -/
def execGleanTest (dt sub : Nat) (s : State) : Host.Outcome State Fault Refusal := run dt s fun t => (t.arbitrate false).gcs 0x0503 sub none bodyGleanTest
/-- GLEAN_FORCE (R254, R263). -/
def execGleanForce (dt sub : Nat) (s : State) : Host.Outcome State Fault Refusal := run dt s fun t => (t.arbitrate false).gcs 0x0504 sub none bodyGleanForce

end Sys2Proof.Machine
end

