-- ==== Sys2Proof/Machine/Guard.lean ====
section
/-! DEFINITION. The emission budget guard (R73 to R85 of 02_shot_schedule). -/

namespace Sys2Proof.Machine

/-- Length in ticks of a bucket of window `w`: 625 ns, 62.5 us, 6.25 ms, 625 ms (R77). -/
def bucketLen (w : Nat) : Nat := [ns 625, ns 62500, us 6250, ms 625].getD w 1
/-- Length of window `w` (R76). -/
def windowLen (w : Nat) : Nat := 16 * bucketLen w
/-- End of the current bucket of window `w` (R77). -/
def State.bucketEnd (s : State) (w : Nat) : Nat := s.seq.guardT0 + (s.seq.guardIdx.getD w 0 + 1) * bucketLen w

/-- The value half of string `i`'s budget block. -/
def State.budget (s : State) (i : Nat) : Bytes := (budgetAt s.sched i).take 1024
/-- L100, with the bound of R74. -/
def State.l100 (s : State) (i : Nat) : Nat := min 65534 (num (s.budget i) 0 8)
/-- The limit of bucketed window `w` (R82). -/
def State.limit (s : State) (i w : Nat) : Nat := num (s.budget i) (8 + 8 * w) 8
/-- The reset fill of bucketed window `w` (R82). -/
def State.fill (s : State) (i w : Nat) : Nat := num (s.budget i) (0x30 + 8 * w) 8

/-- Voltage band of `mv` millivolts, for voltages up to 60 V (R73). -/
def bandOf (mv : Nat) : Nat := min 11 ((mv - 12000) / 4000)
/-- The charge of a shot in nJ (R73, R74). -/
def State.charge (s : State) (i pw mv vres : Nat) : Nat :=
  if mv > 60000 then 65535
  else num (s.budget i) (0x50 + (pw * 12 + max (bandOf mv) (bandOf (vres * 20))) * 2) 2

/-- The 17-bucket sum (R78). -/
def GuardW.sum (g : GuardW) : Nat := (g.buckets.take 17).sum
/-- A block holds on some window of the string (R80). -/
def StrState.blocked (q : StrState) : Bool := q.guard.any fun g => g.release.isSome
/-- Add `e` to the current bucket, which ends at `t` (R78, R79). -/
def GuardW.add (g : GuardW) (e t : Nat) : GuardW :=
  { g with buckets := match g.buckets with | [] => [e] | b :: rest => (b + e) :: rest, lastAdmit := t }
/-- Clear every sum and block of the guard (R84). -/
def State.guardClear (s : State) : State :=
  (s.each (List.range 32) fun i t => t.mapStr i fun q => { q with guard := [{}, {}, {}, {}], filled := false })|> restart
where
  /-- The bucket count starts again. -/
  restart (s : State) : State := { s with seq := { s.seq with guardT0 := s.now, guardIdx := [0, 0, 0, 0] } }

/-- A block on window `w` of string `i` starts (R79, R81). -/
def State.startBlock (s : State) (i w : Nat) : State :=
  let g := ((s.str i).guard.getD w {})
  let t := s.mapStr i fun q => { q with guard := updAt q.guard w fun g => { g with release := some (g.lastAdmit + windowLen w), blocks := g.blocks + 1 } }
  t.post 0x2001 1 i ([w] ++ two s.deviceTime.toNat ++ two g.sum)

/-- Windows of string `i` that a shot of charge `e` would exceed and on which no block holds yet (R78, R80). -/
def State.overWindows (s : State) (i e : Nat) : List Nat :=
  (List.range 4).filter fun w =>
    let g := (s.str i).guard.getD w {}
    g.release.isNone && decide (g.sum + e > s.limit i w)

/-- Gate 5 on a shot of charge `e` of string `i` (R78, R80, R83): the state with the blocks it starts, and whether it is admitted. -/
def State.gate5 (s : State) (i e : Nat) : State × Bool :=
  if (s.str i).tableBad then (s, false)
  else
    let hit := s.overWindows i e
    let ok := decide (e ≤ s.l100 i) && !(s.str i).blocked && hit.isEmpty
    (hit.foldl (fun t w => t.startBlock i w) s, ok)

/-- An admitted shot is charged to all four bucketed windows (R46, R78). -/
def State.chargeShot (s : State) (i e : Nat) : State :=
  (List.range 4).foldl (fun t w => t.mapStr i fun q => { q with guard := updAt q.guard w fun g => g.add e (s.bucketEnd w) }) s

/-- String `i`'s budget table fails its complement check: every limit is 0 until a valid table is applied (R83). -/
def State.tableFails (s : State) (i : Nat) : State :=
  if (s.str i).tableBad then s
  else ((s.mapStr i fun q => { q with tableBad := true }).integrityFault 2).post 0x2002 1 i

/-- The tables of a newly applied set take effect on the guard: a valid table ends R83, and the first after a clear loads its fills (R85). -/
def State.applyBudget (s : State) : State :=
  s.each (List.range 32) fun i t =>
    let t := t.mapStr i fun q => { q with tableBad := false }
    if (t.str i).filled then t
    else (List.range 4).foldl (fun u w => u.mapStr i fun q => { q with filled := true, guard := updAt q.guard w fun g => g.add (t.fill i w) (t.bucketEnd w) }) t

/-- GUARD_BUCKET_BOUNDARY: the current bucket of window `w` is over (R77). The count of engine cycles runs whatever the state. -/
def execGuardBucketBoundary (dt w : Nat) (s : State) : Host.Outcome State Fault Refusal := run dt s fun t =>
  if t.now ≥ t.bucketEnd w then
    let u := t.each (List.range 32) fun i t => t.mapStr i fun q => { q with guard := updAt q.guard w fun g => { g with buckets := 0 :: g.buckets.take 16 } }
    { u with seq := { u.seq with guardIdx := updAt u.seq.guardIdx w (· + 1) } }
  else t

/-- GUARD_BLOCK_END: the block of window `w` on string `str` reaches its release time (R79, R80). -/
def execGuardBlockEnd (dt str w : Nat) (s : State) : Host.Outcome State Fault Refusal := run dt s fun t =>
  match ((t.str str).guard.getD w {}).release with
  | some r => if t.now ≥ r then t.mapStr str fun q => { q with guard := updAt q.guard w fun g => { g with release := none } } else t
  | none => t

/-- BUDGET_STATUS: per string the sums, active blocks, release times and block counts (R81, R399); mask 0 asks for every string. -/
def bodyBudgetStatus : Body := answer fun e s =>
  let m := e.p 0 0 32
  let l := if m = 0 then List.range 32 else bitsOf 32 m
  replyWith (response 0x0303 [] (l.map fun i =>
    let g := (s.str i).guard
    g.flatMap (fun w => two w.sum) ++ [maskOf 4 fun w => (g.getD w {}).release.isSome]
      ++ g.flatMap (fun w => two (match w.release with | some r => s.deviceTime.toNat + (r - s.now) / 5120 | none => 0))
      ++ g.map fun w => sat32 w.blocks))

/-- BUDGET_STATUS (R81). -/
def execBudgetStatus (dt sub : Nat) (s : State) : Host.Outcome State Fault Refusal := run dt s fun t => t.gcs 0x0303 sub none bodyBudgetStatus

end Sys2Proof.Machine
end

