-- ==== Sys2Proof/Machine/Drive.lean ====
section
/-! DEFINITION. Emitter drive, judging, verification, SATBUS and the scan actuator (R90 to R129 of 03_emitter_drive_steering; R45, R89 of 02
for ARM_EN; R157 of 04). -/

namespace Sys2Proof.Machine

/-- Verification age of a string in ticks (R106). -/
def State.verAge (s : State) (i : Nat) : Nat := s.seq.rangingClk - (s.str i).verAt
/-- GOOD judgements of the trailing 100 ms. -/
def State.goodsNow (s : State) (i : Nat) : List Nat := (s.str i).goods.filter fun t => decide (s.now < t + ms 100)
/-- The drive arms the string's proof entry (R106, R107). -/
def State.proofArmed (s : State) (i : Nat) : Bool :=
  (s.str i).aged && (decide (s.verAge i > ms 100) || decide ((s.goodsNow i).length < 16))

/-- String `i` is faulted with cause `c` (R102, R104, R156): an ERROR, or for GATE_STUCK the FATAL that stands in its place. A string that is
faulted already keeps its first cause, except that GATE_STUCK replaces it. -/
def State.faultString (s : State) (i c : Nat) : State :=
  let q := s.str i
  let t := s.mapStr i fun q => { q with
    mode := .faulted, cause := if q.mode == .faulted && c != 8 then q.cause else c, dlCount := 0, gateHeld := q.gateHeld || c == 4 || c == 8 }
  if c = 8 then t.postHw 0x2009 1 i
  else if q.mode == .faulted then t
  else t.post 0x2008 1 i [c]

/-- The result of judging a shot: 0 GOOD, 1 SHORT, 2 OPEN, 3 DIVERT (R100, R101), from its droop in mV, its return charge in 0.01 nC, and whether
the return sense exceeded its full scale, with the calibration values `u` of its cell. -/
def State.judge (s : State) (i : Nat) (u : CalUse) (h : Shot) (drop q : Nat) (clip : Bool) : Nat :=
  let b := bandOf h.vMeas
  let pct (lo : Nat) : Nat := s.pf 2 (0x4C + 16 * i) lo 8
  let dv := s.useDie u (tDV i h.pw b)
  let qr := s.useDie u (tQ i h.pw b)
  if s.calHeld u.chg (tDV i h.pw b) && s.calHeld u.chg (tQ i h.pw b) then
    if clip || decide ((q : Int) * 100 > pct 8 * qr) || decide ((drop : Int) * 100 > pct 8 * dv) then 1
    else if decide ((q : Int) * 100 < pct 0 * qr) && decide ((drop : Int) * 100 < pct 0 * dv) then 2
    else if decide ((drop : Int) * 2 ≥ dv) && decide ((q : Int) * 100 < pct 16 * qr) then 3
    else 0
  else if clip then 1 else if q < 50 then 2 else 0

/-- The oldest fired shot of string `i` whose judgement window is not over. -/
def State.unjudgedShot (s : State) (i : Nat) : Option (CellRun × Shot) :=
  (s.str i).runs.reverse.findSome? fun r => (r.shots.find? fun h => h.st == .fired && !h.judged).map fun h => (r, h)

/-- What a judged result does to the string (R102, R106, R108). -/
def State.judged (s : State) (i : Nat) (h : Shot) (res : Nat) : State :=
  let s := s.mapStr i fun q => { q with
    judg := updAt q.judg res (· + 1)
    goods := if res = 0 then s.now :: s.goodsNow i else q.goods
    verAt := if res = 0 then s.seq.rangingClk else q.verAt
    hist := if h.proof then q.hist else (res :: q.hist).take 8
    mode := if res = 0 && h.proof && q.mode == .unverified then .inService else q.mode
    fromFault := if res = 0 && h.proof && q.mode == .unverified then false else q.fromFault }
  let bad := ((s.str i).hist.filter fun x => x == 2 || x == 3).length
  if res = 1 || (h.proof && (res = 2 || res = 3)) || (!h.proof && (res = 2 || res = 3) && bad ≥ 3) then s.faultString i res else s

/-- The setpoint to which the stage of string `i` regulates: at the end of the judgement window of the cell's last scheduled shot it moves to that of the
next cell (R96). -/
def State.setpoint (s : State) (i : Nat) : Nat :=
  let q := s.str i
  match q.moveAt with
  | some (t, v) => if s.now ≥ t then v else q.target
  | none => q.target

/-- SHOT_JUDGEMENT: 40 ns after a fired shot it is judged, unless the stage kept switching through the window (`duty`; never for a proof shot,
R99, R100). -/
def execShotJudgement (dt str drop q : Nat) (clip duty : Bool) (s : State) : Host.Outcome State Fault Refusal := runUp dt s fun t =>
  match t.unjudgedShot str with
  | none => t
  | some (r, h) =>
    if t.now < h.f * 80 + ns 40 then t
    else
      let skip := duty && !h.proof
      let u := t.mapStr str fun p => p.mapRun r.cellNo fun r => r.mapShot h.j fun h => { h with judged := true, unjudged := skip }
      if skip then u.mapStr str fun p => { p with judg := updAt p.judg 4 (· + 1) }
      else u.judged str h (t.judge str r.use h drop q clip)

/-- FIRE_SKEW: sixteen consecutive skewed edges post a WARN and request a recalibration of the delay line (R93); `ps` is the last error. -/
def execFireSkew (dt str ps : Nat) (s : State) : Host.Outcome State Fault Refusal := runUp dt s fun t =>
  if (t.str str).skewRun ≥ 16 then (t.mapStr str fun q => { q with skewRun := 0, recalReq := q.recalReq + 1 }).post 0x2006 1 str [ps] else t
/-- RES_OVERVOLT_COMPARATOR: the comparator holds or frees the stage's gate (R97). -/
def execResOvervoltComparator (dt str : Nat) (high : Bool) (s : State) : Host.Outcome State Fault Refusal := run dt s fun t =>
  t.mapStr str fun q => { q with overV := high, overVSince := if high && !q.overV then t.now else q.overVSince }
/-- RES_OVERVOLT: above 62.0 V for 1 ms (R97). -/
def execResOvervolt (dt str : Nat) (s : State) : Host.Outcome State Fault Refusal := runUp dt s fun t =>
  let q := t.str str
  if q.overV && t.now ≥ q.overVSince + ms 1 && !(q.mode == .faulted && q.cause == 4) then
    (t.faultString str 4).mapStr str fun q => { q with gateHeld := true }
  else t
/-- RES_REGULATION: the stage of string `str` with its reservoir at `mv` and its inductor current at ILIM or not (`ilim`): below VRES - 2.0 V and at ILIM for
10 ms without a break posts one WARN; a lapse of either condition starts the 10 ms again (R98). -/
def execResRegulation (dt str mv : Nat) (ilim : Bool) (s : State) : Host.Outcome State Fault Refusal := runUp dt s fun t =>
  let q := t.str str
  if !(ilim && decide (mv + 2000 < t.setpoint str * 20)) then t.mapStr str fun q => { q with regSince := none, regPosted := false }
  else
    let since := q.regSince.getD t.now
    let u := t.mapStr str fun q => { q with regSince := some since }
    if !q.regPosted && t.now ≥ since + ms 10 then (u.mapStr str fun q => { q with regPosted := true }).post 0x2007 1 str [mv] else u
/-- GATE_STUCK: return current while FIRE is low (R103). -/
def execGateStuck (dt str : Nat) (s : State) : Host.Outcome State Fault Refusal := runUp dt s fun t => t.faultString str 8
/-- STRING_UNVERIFIED: the age reaches 200 ms (R106, R108). -/
def execStringUnverified (dt str : Nat) (s : State) : Host.Outcome State Fault Refusal := runUp dt s fun t =>
  let q := t.str str
  if q.aged && q.mode == .inService && t.ranges && t.verAge str ≥ ms 200 then
    (t.mapStr str fun q => { q with mode := .unverified, fromFault := false }).post 0x200A 1 str
  else t
/-- CH_REF is in use (R156, R162). -/
def State.refOn (s : State) : Bool := s.pf 3 (0x100 + 16 * 512) 2 1 == 1 && !(s.deadCh 512)
/-- NO_LIGHT: 1,000 counted shots and fewer than 1 % of them with a reference event (R157). -/
def execNoLight (dt str : Nat) (s : State) : Host.Outcome State Fault Refusal := runUp dt s fun t =>
  let q := t.str str
  if t.refOn && q.refShots ≥ 1000 then
    let u := t.mapStr str fun q => { q with refShots := 0, refHits := 0 }
    if q.refHits * 100 < q.refShots then u.faultString str 5 else u
  else t

/-! ARM_EN (R45, R89). -/

/-- ARM_EN_FALL: no line fires any more; a pulse that is high is cut short (R571). -/
def execArmEnFall (dt : Nat) (s : State) : Host.Outcome State Fault Refusal := run dt s fun t =>
  { t.cutPulses with pins := { t.pins with
    armFell := if t.pins.armEn then t.now else t.pins.armFell, armKept := if t.pins.armEn then some (t.pins.armOk, t.pins.armHighAt, t.pins.armStable) else t.pins.armKept
    armEn := false, armOk := false, armHighAt := none, armStable := false } }
/-- ARM_EN_RISE: after a low of less than 5 ns the arming may or may not stand as before, which a free value settles (R89, R559; log 7). -/
def execArmEnRise (dt : Nat) (s : State) : Host.Outcome State Fault Refusal := run dt s fun t =>
  let brief := t.pins.armKept.isSome && decide (t.now < t.pins.armFell + ns 5)
  let kept : Option (Bool × Option Nat × Bool) := if brief && freeNat t % 2 == 1 then t.pins.armKept else none
  let t := if brief then t.useFree else t
  if t.pins.armEn then t
  else match kept with
  | some k => { t with pins := { t.pins with armEn := true, armOk := k.1, armHighAt := k.2.1, armStable := k.2.2, armKept := none } }
  | none => { t with pins := { t.pins with armEn := true, armHighAt := some t.now, armStable := false } }
/-- ARM_EN_STABLE: high for 1 ms. -/
def execArmEnStable (dt : Nat) (s : State) : Host.Outcome State Fault Refusal := run dt s fun t =>
  match t.pins.armHighAt with
  | some a => if t.now ≥ a + ms 1 then { t with pins := { t.pins with armStable := true } } else t
  | none => t

/-! SATBUS (R109 to R115). -/

/-- VSET of satellite `k`: the constant VRES of its strings (R111, R115). -/
def State.satVset (s : State) (k : Nat) : Nat :=
  match (List.range 32).find? fun i => s.strMode i == 2 && s.satIdx i == k with
  | some i => eVres (entryAt s.sched 0 0 i)
  | none => 0
/-- The frame of the present state: RUN while the device is armed or ranging, SAFE in HOLD and SAFE (R111, R113). -/
def State.satRefresh (s : State) : State := if s.armedUp then s.satFrame 0 s.satVset else s.satSafe

/-- SATBUS_REFRESH: 10 ms after the last frame (R113). -/
def execSatbusRefresh (dt : Nat) (s : State) : Host.Outcome State Fault Refusal := runUp dt s fun t =>
  if t.holdUp && t.now ≥ t.satbus.lastSent + ms 10 then t.satRefresh else t
/-- SATBUS_ECHO_CHECK: 6.25 us after the frame the echo word is judged (R114); the third break in a row faults every string beyond satellite
`lastGood`, all of them when `lastGood` is 16 or more and so names no satellite. -/
def execSatbusEchoCheck (dt : Nat) (ok : Bool) (lastGood : Nat) (s : State) : Host.Outcome State Fault Refusal := runUp dt s fun t =>
  match t.satbus.endAt with
  | none => t
  | some e =>
    if t.now < e + ns 6250 then t
    else if ok then { t with satbus := { t.satbus with endAt := none, breakRun := 0 } }
    else
      let u := { t with satbus := { t.satbus with endAt := none, breaks := t.satbus.breaks + 1, breakRun := t.satbus.breakRun + 1 } }
      if u.satbus.breakRun = 3 then
        let v := u.post 0x200B 0 0 [lastGood]
        v.each ((List.range 32).filter fun i => v.strMode i == 2 && (decide (v.satIdx i > lastGood) || decide (lastGood ≥ 16))) fun i w => w.faultString i 6
      else u

/-! Fast axis, shot synchronisation, slow axis (R116 to R126). -/

/-- Half-period in ticks at a frequency in mHz (R123, R127). -/
def halfTicks (f : Nat) : Nat := sec 500 / max 1 f
/-- AMP of the active drive descriptor, /65,536 (R127). -/
def State.amp (s : State) : Nat := s.pf 2 0x14 16 16
/-- The fast-axis position comes from the encoder (R119). -/
def State.encFast (s : State) : Bool := s.pf 2 0x0C 0 1 == 1
/-- ENC_CPR (R127). -/
def State.encCpr (s : State) : Nat := num (s.part 2) 0x1C 4

/-- `a` lies within `p` per cent of `b`. -/
def nearPct (p a b : Nat) : Bool := decide (100 * ((a : Int) - b).natAbs ≤ p * b)

/-- A half-period meets both lock conditions: phase error below 0.05 % rms, amplitude within 2 % of AMP (R117). -/
def State.halfGood (s : State) (h : HalfMeas) : Bool := decide (h.phase < 500) && nearPct 2 h.amp s.amp

/-- Consecutive good half-periods after one more: a bad one starts the count again (R117). -/
def State.lockCount (s : State) (n : Nat) (h : HalfMeas) : Nat := if s.halfGood h then n + 1 else 0

/-- FAST_AXIS_LOCK: the half-periods since the last such report, in order, while the axis is not locked; no more of them count than fit in the time that has
passed at F_NOM + F_SPAN. 64 good ones in a row lock the axis (R117, R122). `peak` is the frequency in mHz of the pickoff's peak response, which the drive takes within
its search span, and `dac` the drive at which the amplitude stands at AMP, within DRV_MAX (R116). -/
def execFastAxisLock (dt peak dac : Nat) (halves : List HalfMeas) (s : State) : Host.Outcome State Fault Refusal := runUp dt s fun t =>
  if t.steer.running && !t.steer.locked then
    let l := halves.take ((t.now - t.steer.halfAt) / halfTicks (t.fNom + t.fSpan))
    let n := l.foldl t.lockCount t.steer.lockRun
    if n ≥ 64 then
      let u := { t with steer := { t.steer with
        locked := true, restarts := 0, lockRun := 0, halfAt := t.now, driveFreq := t.driveIn peak, driveLevel := t.levelIn dac } }
      u.dropReason 1
    else { t with steer := { t.steer with lockRun := n, halfAt := t.now } }
  else t

/-- Lock is lost under condition `cond` of R120: the current cell ends, and the axis is acquired again (R121, R122). -/
def State.loseLock (s : State) (cond : Nat) : State :=
  let u := s.endCells
  let u := { u with steer := { u.steer with locked := false, acqStart := u.now, restarts := 0, firstAcq := true, lockRun := 0, halfAt := u.now } }
  (u.addReason 1).post 0x200C 0 0 [cond]

/-- The count at ENC_Z differs from ENC_CPR by more than 2 (R120). -/
def State.zBad (s : State) (count : Nat) : Bool := s.encFast && decide (((count : Int) - s.encCpr).natAbs > 2)

/-- The first condition of R120 that the senses meet, 1 to 4: the phase error above 1 % for two half-periods, the amplitude out of 10 %, no zero crossing of the pickoff for
1.5 nominal half-periods, and with FAST_SRC = 1, in place of it (R119), an illegal transition or a wrong count; 0 when none is met. -/
def State.lossCond (s : State) (m : AxisSense) : Nat :=
  if decide ((m.phase.take 2).length = 2) && (m.phase.take 2).all (fun p => decide (p > 10000)) then 1
  else if !(nearPct 10 m.amp s.amp) then 2
  else if !s.encFast && decide (2 * m.quiet ≥ 3 * halfTicks s.fNom) then 3
  else if s.encFast && (m.illegal || s.zBad m.count) then 4
  else 0

/-- LOSS_OF_LOCK: the senses of a locked axis meet a condition of R120 (R121, R122). -/
def execLossOfLock (dt : Nat) (m : AxisSense) (s : State) : Host.Outcome State Fault Refusal := runUp dt s fun t =>
  if t.steer.running && t.steer.locked && t.lossCond m != 0 then t.loseLock (t.lossCond m) else t

/-- ACQUISITION_TIMEOUT: 1 s without lock restarts the sequence; the third failed restart is FATAL outside SAFE (R122). -/
def execAcquisitionTimeout (dt : Nat) (s : State) : Host.Outcome State Fault Refusal := runUp dt s fun t =>
  if t.steer.running && !t.steer.locked && t.now ≥ t.steer.acqStart + sec 1 then
    let n := if t.steer.firstAcq then 0 else t.steer.restarts + 1
    let u := t.startAxis n false
    if n = 3 && t.code != 7 then u.post 0x200D 0 0 else u
  else t

/-- Half-period at F_NOM in ticks (R123, R127). -/
def State.halfPeriod (s : State) : Nat := halfTicks s.fNom

/-- The drive frequency after one trim toward the edges: the law is not stated, so its amount is a free value, of at most 0.1 % of the frequency and within the search
span; a half-period takes one trim (R123, log 7). -/
def State.trim (s : State) : State :=
  if s.steer.trimAt.any fun a => decide (s.now < a + s.halfPeriod) then s
  else
    let f := s.steer.driveFreq * 1000
    let step : Rat := (((freeNat s % 2001 : Nat) : Rat) - 1000) / 1000000
    { s.useFree with steer := { s.steer with driveFreq := s.driveIn (f + f * step), trimAt := some s.now } }

/-- SHOT_SYNC_EDGE (R29, R123): its timestamp, in units of 15.625 ps, is recorded in modes 1 and 2, and followed in mode 2 by a trim. -/
def execShotSyncEdge (dt : Nat) (s : State) : Host.Outcome State Fault Refusal := runUp dt s fun t =>
  let m := t.pf 2 0x30 0 2
  if m = 0 then t
  else
    let e := tdcStamp t.now
    let a : Int := (e : Int) - t.seq.lastBoundary
    let o : Int := if 2 * a ≤ t.halfPeriod then a else a - t.halfPeriod
    let u := { t with steer := { t.steer with
      syncTime := t.timeAt e, syncOfs := o, syncCount := t.steer.syncCount + 1, syncLast := t.now, syncLost := false } }
    if m = 2 && t.steer.running then u.trim else u

/-- SHOT_SYNC_LOST: 16 nominal half-periods without an edge in mode 2 (R123). -/
def execShotSyncLost (dt : Nat) (s : State) : Host.Outcome State Fault Refusal := runUp dt s fun t =>
  if t.pf 2 0x30 0 2 = 2 && t.steer.running && !t.steer.syncLost && t.now ≥ t.steer.syncLast + 16 * t.halfPeriod then
    { t with steer := { t.steer with syncLost := true } }.post 0x2010 0 0 [twos 32 (t.steer.syncOfs / 5120)]
  else t

/-- SLOW_AXIS_ERROR: the following error in counts rises above SLOW_TOL or falls below half of it (R125). -/
def execSlowAxisError (dt err : Nat) (s : State) : Host.Outcome State Fault Refusal := runUp dt s fun t =>
  let tol := t.pf 2 0x18 16 16
  if err > tol && !t.steer.slowErr then { t with steer := { t.steer with slowErr := true } }.post 0x200E 0 0 [err]
  else if err * 2 < tol then { t with steer := { t.steer with slowErr := false } }
  else t

/-! Commands. -/

/-- STRING_REVERIFY (R105). -/
def bodyStringReverify : Body := fun e _ s =>
  let i := e.p 0 0 5
  let q := s.str i
  if !(q.mode == .faulted) then (s, some (reply 0x0001))
  else if q.cause = 8 then (s, some (reply 0x0215))
  else (s.mapStr i fun q => { q with mode := .unverified, fromFault := true, cause := 0, hist := [], gateHeld := false }, some (reply 0))

/-- The number of a service state. -/
def StrMode.num : StrMode → Nat
  | .inService => 0
  | .unverified => 1
  | .faulted => 2

/-- DRIVE_STATUS (R114, R123, R127, R364): per string the regulation state (bits 1:0 the service state, bit 8 the gate held, bit 9 the
over-voltage comparator, bits 27:16 the setpoint), the verification age in ns, the five judgement counts and the cause; the lock state of both
axes, the SATBUS counters and the last SHOT_SYNC_IN edge stand in the device block. -/
def bodyDriveStatus : Body := answer fun _ s =>
  let dev := [b2n s.steer.locked, b2n (!s.steer.slowErr), sat32 s.satbus.frames, sat32 s.satbus.breaks]
    ++ two s.steer.syncTime.toNat ++ two (twos 64 (s.steer.syncOfs / 5120)) ++ [sat32 s.steer.syncCount]
  replyWith (response 0x0305 dev ((List.range 32).map fun i =>
    let q := s.str i
    [pack [(0, q.mode.num), (8, b2n q.gateHeld), (9, b2n q.overV), (16, s.setpoint i)]] ++ two (if q.aged then s.verAge i / 5120 else 0)
      ++ q.judg.map sat32 ++ [q.cause]))

/-- STRING_REVERIFY (R105). -/
def execStringReverify (dt sub : Nat) (s : State) : Host.Outcome State Fault Refusal := run dt s fun t => t.gcs 0x0306 sub none bodyStringReverify
/-- DRIVE_STATUS (R399). -/
def execDriveStatus (dt sub : Nat) (s : State) : Host.Outcome State Fault Refusal := run dt s fun t => t.gcs 0x0305 sub none bodyDriveStatus

end Sys2Proof.Machine
end

