-- ==== Sys2Proof/Machine/Rx.lean ====
section
/-! DEFINITION. Receive channels: events, stamps, candidates, the coincidence level, the detector bias and the optical reference
(R130 to R164 of 04_receive_front_end; R221, R222, R227 to R230 of 06). -/

namespace Sys2Proof.Machine

/-- A field of channel `c`'s block in the active receiver descriptor (R162). -/
def State.chBlk (s : State) (c i lo w : Nat) : Nat := s.pf 3 (0x100 + 16 * c + i) lo w
/-- EN of channel `c`. -/
def State.chEn (s : State) (c : Nat) : Bool := s.chBlk c 0 2 1 == 1
/-- A field of bias group `g`'s block (R162). -/
def State.grp (s : State) (g i lo w : Nat) : Nat := s.pf 3 (0x80 + 32 * g + i) lo w
/-- SKEW_TRIM of channel `c` in 1/16 LSB. -/
def State.skewTrim (s : State) (c : Nat) : Int := if c = 512 then 0 else signed 16 (s.chBlk c 4 0 16)
/-- ACC_MAX in candidates per second. -/
def State.accMax (s : State) : Nat := s.pf 3 0x08 0 16 * 10000

/-- The state with channel `c`'s sheaf of cell instance `n` changed. -/
def State.mapSheaf (s : State) (c n : Nat) (f : Sheaf → Sheaf) : State :=
  s.mapCh c fun q => { q with sheaves := q.sheaves.map fun h => if h.cellNo = n then f h else h }
/-- Channel `c`'s sheaf of cell instance `n`. -/
def State.sheafAt (s : State) (c n : Nat) : Option Sheaf := (s.ch c).sheaves.find? fun h => h.cellNo == n
/-! Fields of a reduction program's block (R231). -/

/-- K_MIN. -/
def rKMin (b : Bytes) : Nat := fieldOf b 0 0 3
/-- K_MAX. -/
def rKMax (b : Bytes) : Nat := fieldOf b 0 3 3
/-- OUT_MASK. -/
def rOut (b : Bytes) : Nat := fieldOf b 4 0 5
/-- PILE_EXT in ticks: 0.5 ns units. -/
def rPile (b : Bytes) : Nat := fieldOf b 0x14 8 8 * 2560

/-! The coincidence level and the ambient estimate (R147, R148). -/

/-- An estimate from `c` events in `span` ticks, in events per second (R147). -/
def estimate (c span : Nat) : Rat :=
  let live : Rat := max ((span : Rat) - (c : Rat) * (ns 2 : Nat)) ((span : Rat) / 256)
  if live ≤ 0 then 0 else (c : Rat) * 5120000000000 / live

/-- A rate in the 10,000 events/s units of the records, saturating. -/
def rate16 (r : Rat) : Nat := roundCap 65535 (r / 10000)

/-- The predicted accidental candidate rate R_k (R148). -/
def rateK (lam : Rat) (k : Nat) : Rat :=
  match k with
  | 0 | 1 => lam
  | 2 => lam * (lam * 16 / 10000000000)
  | 3 => lam * (lam * 16 / 10000000000) * (lam * 16 / 10000000000) / 2
  | _ => lam * (lam * 16 / 10000000000) * (lam * 16 / 10000000000) * (lam * 16 / 10000000000) / 6

/-- The smallest level from `k` on, at most `n` further, whose rate is within the limit; else the last (R148). -/
def lowestK (lam : Rat) (acc : Nat) : Nat → Nat → Nat
  | 0, k => k
  | n + 1, k => if rateK lam k ≤ acc then k else lowestK lam acc n (k + 1)

/-- The coincidence level of channel `c`'s next sheaf under a program block (R148). -/
def State.coincLevel (s : State) (c prog : Nat) (blk : Bytes) : Nat :=
  let q := s.ch c
  let lo := rKMin blk
  let hi := rKMax blk
  if lo = hi || q.fresh || q.lastProg != some prog then hi
  else
    let cur := max lo (min hi q.k)
    match q.lam with
    | none => cur
    | some l =>
      let want := lowestK l s.accMax (hi - lo) lo
      let low (x : Rat) : Bool := decide (rateK x (cur - 1) * 2 ≤ s.accMax)
      if want ≥ cur then want
      else if low l && q.lamPrev.any low then cur - 1 else cur

/-- Estimates that complete, oldest first: the last one and the one before it stay (R148). -/
def ChanState.estimates (q : ChanState) (l : List Rat) : ChanState := l.foldl (fun q x => { q with lamPrev := q.lam, lam := some x }) q

/-- CH_REF's estimates that are 100 ns old complete (R147, R156). -/
def State.refEstimate (s : State) : State :=
  let due (x : Nat × Nat × Nat) : Bool := decide (s.now ≥ x.1 + ns 100)
  let l := (s.rx.refSpans.filter due).map fun x => estimate x.2.2 x.2.1
  ({ s with rx := { s.rx with refSpans := s.rx.refSpans.filter fun x => !(due x) } }).mapCh 512 fun q => q.estimates l

/-- AMBIENT_ESTIMATE of channel `ch`: 100 ns after a counting span has ended (R147). -/
def execAmbientEstimate (dt ch : Nat) (s : State) : Host.Outcome State Fault Refusal := runUp dt s fun t =>
  if ch = 512 then t.refEstimate
  else t.mapCh ch fun q =>
    let due (h : Sheaf) : Bool := h.lam.isNone && h.spanLen.any fun l => decide (t.now ≥ h.spanStart + l + ns 100)
    let val (h : Sheaf) : Rat := estimate h.count (h.spanLen.getD 0)
    { q with sheaves := q.sheaves.map fun h => if due h then { h with lam := some (val h) } else h }.estimates ((q.sheaves.filter due).map val)

/-! Events (R132, R134 to R146). -/

/-- The TIA output in microvolts for an input current of `i` nanoamperes: 1, 3 or 10 kOhm by GAIN, up to the full scale of 500 mV (R132). -/
def State.tiaOut (s : State) (c i : Nat) : Nat := min 500000 (i * [1, 3, 10].getD (s.chBlk c 0 0 2) 1)

/-- The LT code in force on channel `c`: with LT_MODE = 0 half the interpolated single-photon peak, which a set holds in 1/16 LT code (R134, R499); its rounding and its
clamp to the DAC's range are the model's: DESIGN CHOICE (log 76). -/
def State.ltCode (s : State) (c : Nat) : Nat :=
  if s.chBlk c 0 4 1 = 1 then s.chBlk c 0 5 10 else min 1023 (roundQ ((s.calPix c (tSpp c) : Rat) / 32)).toNat

/-- The HT code of channel `c` (R134, R162). -/
def State.htCode (s : State) (c : Nat) : Nat := s.chBlk c 0 15 10

/-- A TIA output of `uv` microvolts crosses the threshold of a DAC code, whose LSB is 500/1,023 mV (R134). -/
def crosses (uv code : Nat) : Bool := decide (uv * 1023 > code * 500000)

/-- The photon estimate of a gated charge in 0.01 fC (R135). -/
def photons (q q1 : Int) : Nat := if q1 ≤ 0 then 1 else 1 + ((List.range 6).filter fun i => decide (2 * q > (2 * (i : Int) + 3) * q1)).length

/-- A stamp with its tap corrected, in 1/16 LSB, with the values `u` in use (R143). -/
def State.linStamp (s : State) (c lane stamp : Nat) (u : CalUse) : Int :=
  (stamp / 20 * 320 : Nat) + roundQ ((s.useDie u (tLin c lane (stamp % 20)) : Rat) / 16)

/-- The amplitude walk W(c, n, HT) with the values `u` in use (R143). It stands at the group's HK_TEMP, as the table of R497 says of W; R143 speaks of the die temperature
nearest the group: DESIGN CHOICE (log 78). -/
def State.walk (s : State) (c n : Nat) (ht : Bool) (u : CalUse) : Int := s.usePix u (tWalk c (if ht then 8 else n))

/-- D_L of string `i` in 1/16 LSB (R156). -/
def State.dl (s : State) (i : Nat) : Int :=
  let q := s.str i
  if s.refOn && q.dlCount ≥ 256 && !q.dl.isEmpty then
    roundQ ((q.dl.sum : Rat) / q.dl.length) - (num (s.part 3) (0x40 + 2 * i) 2 * 16 : Nat) - s.calDie 512 (tDel 512)
  else s.calEmit i (tDL i)

/-- The most recent fired shot of string `i`, among its cells that satisfy `cells`, that satisfies `p`, with its cell instance. -/
def State.lastShot (s : State) (i : Nat) (cells : CellRun → Bool) (p : Shot → Bool) : Option (CellRun × Shot) :=
  (((s.str i).runs.filter cells).flatMap fun r => (r.shots.filter fun h => h.st == .fired && p h).map fun h => (r, h)).foldl
    (fun b x => match b with | none => some x | some y => if x.2.f ≥ y.2.f then some x else some y) none

/-- The stamp of a latched count against a shot: elapsed LSB, counts wrapping at 2^16 coarse counts; none when the shot fired more than 10 us before
(R140, R141). -/
def State.stampOf (s : State) (code : Nat) (h : Shot) : Option Nat :=
  let d := (code + 1310720 - h.f % 1310720) % 1310720
  if d < 640000 && s.now < h.f * 80 + us 15 then some d else none

/-- The end of a declared cell of string `i`: the boundary with the next one. -/
def StrState.endOf (q : StrState) (r : CellRun) : Option Nat := (q.run (r.cellNo + 1)).map (·.tCell)

/-- The strings that light channel `c`, each with the cells whose shots count: the string of the present cell, every shot of which counts, and for 10 us after a boundary
the one that lit the channel until then, whose shots of the cells in which it did count (R140, R164, R197). -/
def State.lighting (s : State) (c : Nat) : List (Nat × (CellRun → Bool)) :=
  (List.range 32).filterMap fun i =>
    let q := s.str i
    let lists (r : CellRun) : Bool := (rowPos r.row c).isSome
    match q.runs with
    | [] => none
    | r :: rest =>
      if lists r then some (i, fun _ => true)
      else if rest.any fun o => lists o && (q.endOf o).any fun e => decide (s.now < e + us 10) then some (i, lists)
      else none

/-- The trigger unit of stripe `i` sees a candidate of channel `c` in the sheaf `h` (R227 to R229): its request goes to the converter with the others of the engine cycle
(R254). Of two candidates that qualify in one cycle, the lower channel's takes the request over, and the other is counted HOLDOFF_REJECT (R227, R228). -/
def State.trigger (s : State) (i c : Nat) (h : Sheaf) (d : Cand) (del : Int) : State :=
  let b := h.red
  let u := s.thresh.units.get i
  let mapU (t : State) (f : TrigUnit → TrigUnit) : State := { t with thresh := { t.thresh with units := t.thresh.units.upd i f } }
  let rng : Rat := (d.tCorr : Rat) * 9765625 / 10000000 * 149896229 / 1000000000
  let near := decide ((fieldOf b 0x0C 0 22 : Rat) ≤ rng) && decide (rng ≤ (fieldOf b 0x10 0 22 : Rat))
  let lvl := decide (d.n ≥ fieldOf b 8 7 3)
  let src := fieldOf b 8 5 2
  let qual : Bool := fieldOf b 8 4 1 == 1 && (match src with | 0 => lvl | 1 => d.ht | 2 => near | _ => lvl || d.ht || near)
  let same := u.lastReq.any fun e => e / 5120 == s.now / 5120
  let held := u.endAt.any (fun e => decide (s.now < e)) || u.candsLeft > 0 || same
  let hold := fieldOf b 8 16 16
  let ends := if fieldOf b 8 10 1 = 0 && hold != 0 then some (d.tEdge + ns hold) else none
  let p := fieldOf b 0x14 0 4
  let at' := ((d.tEdge : Int) - del * 5).toNat
  let asked : Capture := {
    ch := c, prof := p, profB := s.profile p, src := 0, tTrig := some at', cellNo := h.cellNo, str := i, cell := h.cell, furrow := h.furrow, dir := h.dir
    time := s.timeAt at' }
  let loses (r : GwReq) : Bool := r.gw == i && r.cap.src == 0 && r.cyc == s.now / 5120 && decide (r.cap.ch > c)
  let s := mapU s fun u => { u with candsLeft := u.candsLeft - 1 }
  if !qual || !s.ranges then s
  else if same && s.glq.any loses then
    let t := mapU s fun u => { u with holdRej := u.holdRej + 1, endAt := ends }
    { t with glq := t.glq.map fun r => if loses r then { r with cap := asked } else r }
  else if held then mapU s fun u => { u with holdRej := u.holdRej + 1 }
  else
    let inCell := if u.cellNo = h.cellNo then u.inCell else 0
    let cap := fieldOf b 0x14 4 4
    if cap != 0 && inCell ≥ cap then mapU s fun u => { u with trigCap := u.trigCap + 1 }
    else
      let s := mapU s fun u => { u with
        cellNo := h.cellNo, inCell := inCell + 1, requests := u.requests + 1, lastReq := some s.now, endAt := ends
        candsLeft := if fieldOf b 8 10 1 = 1 then hold else 0 }
      s.ask i asked false none

/-- One stamped event of channel `c` against string `x.1`, among the cells `x.2`: it becomes a candidate where R145 says so (R141 to R146). -/
def State.toCandidate (s : State) (c n : Nat) (ht : Bool) (code : Nat) (x : Nat × (CellRun → Bool)) : State :=
  let i := x.1
  match s.lastShot i x.2 fun h => !h.proof with
  | none => s
  | some (r, sh) =>
    match s.stampOf code sh, s.sheafAt c r.cellNo with
    | some st, some h =>
      if h.kind != 0 || h.str != i || n < h.k then s
      else
        let q := s.ch c
        let del := s.useDie h.use (tDel c)
        let raw := s.linStamp c (b2n q.onLaneB) st h.use - h.dlUse - del - s.walk c n ht h.use - h.skewUse
        let s := if raw < 0 then s.mapSheaf c r.cellNo (·.flag 7) else s
        let d : Cand := { ch := c, str := i, fRef := sh.f, tCorr := raw.toNat, tEdge := s.now, n := n, ht := ht, laneB := q.onLaneB }
        if q.candq.length ≥ 64 then (s.mapCh c fun q => { q with candDrop := q.candDrop + 1 }).mapSheaf c r.cellNo (·.flag 6)
        else (s.mapCh c fun q => { q with candq := q.candq ++ [d] }).trigger i c h d del
    | _, _ => s

/-- A CH_REF event is assigned to the one string in whose reference window it falls; in no window, it counts for the ambient estimate alone (R156 to R158). -/
def State.refEvent (s : State) (n : Nat) (ht : Bool) (code : Nat) : State :=
  let lo := s.pf 3 0x0C 0 16
  let hi := s.pf 3 0x0C 16 16
  let hits := (List.range 32).filterMap fun i =>
    match s.lastShot i (fun _ => true) fun _ => true with
    | some (r, h) =>
      match s.stampOf code h with
      | some st => if lo ≤ st && st ≤ hi then some (i, r.cellNo, h.j, st) else none
      | none => none
    | none => none
  match hits with
  | [] => s
  | [(i, cn, j, st)] =>
    let v := s.linStamp 512 (b2n (s.ch 512).onLaneB) st (s.useOf 512) - s.walk 512 n ht (s.useOf 512)
    let e := ((((s.str i).run cn).bind fun r => r.shots.find? fun h => h.j == j).map (·.charge)).getD 0
    let counted := (((s.str i).run cn).bind fun r => r.shots.find? fun h => h.j == j).any fun h => h.refSt == 1
    let s := s.mapStr i fun q => { q.mapRun cn fun r => r.mapShot j fun h => { h with refSt := if h.refSt = 1 then 2 else h.refSt } with
      slopeN := q.slopeN + n, slopeQ := q.slopeQ + e, dl := (v :: q.dl).take 4096, dlCount := q.dlCount + 1, refHits := q.refHits + b2n counted }
    let dev := s.dl i - s.calEmit i (tDL i)
    let far := decide (dev.natAbs * 9765625 > 2000000000)
    let was := (s.str i).dlMoved
    let s := s.mapStr i fun q => { q with dlMoved := far }
    if far && !was then s.post 0x3003 1 i [twos 32 (roundQ ((dev : Rat) * 9765625 / 10000000))] else s
  | _ => s.mapCh 512 fun q => { q with refAmbig := q.refAmbig + 1 }

/-- An event counts into every counting span that holds it (R147, R221, R222); `re` is when the comparator re-arms. -/
def Sheaf.countEvent (h : Sheaf) (now n re : Nat) : Sheaf :=
  if now < h.spanStart || h.spanLen.any (fun l => decide (now ≥ h.spanStart + l)) then h
  else
    let iv := if h.kind = 0 && h.tSpace > 0 then min (h.spanN - 1) ((now - h.spanStart) / h.tSpace) else 0
    { h with count := h.count + 1, ivals := h.ivals.upd iv (· + 1), pile := if n = 7 || re > now + ns 2 + rPile h.red then h.pile + 1 else h.pile }

/-- PHOTON_EVENT: a pulse on channel `ch` with gated charge `q` in 0.01 fC and a peak input current of `peak` nanoamperes within the gate, the counts that both lanes
latch, and how long after the edge the output falls below LT - 4 mV, in ticks. A pulse whose TIA output does not cross LT is no event (R134 to R146, R156, R164). -/
def execPhotonEvent (dt ch q peak code codeB lowAt : Nat) (s : State) : Host.Outcome State Fault Refusal := runGw dt s fun t =>
  let c := t.ch ch
  let uv := t.tiaOut ch peak
  let ht := crosses uv (t.htCode ch)
  if !t.chEn ch || t.deadCh ch || t.now < c.rearmAt || !(crosses uv (t.ltCode ch)) then t
  else
    let re := t.now + max (ns 2) lowAt
    let n := photons q (t.calPix ch (tQ1 ch))
    let flag := ht && t.chBlk ch 0 3 1 == 1
    let full := decide (c.evqBusy ≥ t.now + 32 * 12800)
    let t := if ch = 512 && t.rx.refFrom.isSome then { t with rx := { t.rx with refCount := t.rx.refCount + 1 } } else t
    let t := t.mapCh ch fun c => { c with
      rearmAt := re, sheaves := c.sheaves.map fun h => h.countEvent t.now n re
      evqBusy := if full then c.evqBusy else max c.evqBusy t.now + 12800, evtOvf := c.evtOvf + b2n full }
    if full then
      if ch = 512 then t
      else match (t.ch ch).sheaves.reverse.find? fun h => h.ph == .accumulating with
        | some h => t.mapSheaf ch h.cellNo (·.flag 5)
        | none => t
    else
      let code := if c.onLaneB then codeB else code
      if ch = 512 then t.refEvent n flag code
      else (t.lighting ch).foldl (fun u i => u.toCandidate ch n flag code i) t

/-- HOLDOFF_END: the trigger unit of stripe `slice` re-arms (R228). -/
def execHoldoffEnd (dt slice : Nat) (s : State) : Host.Outcome State Fault Refusal := runUp dt s fun t =>
  { t with thresh := { t.thresh with units := t.thresh.units.upd slice fun u =>
      if (u.endAt.any fun e => decide (t.now ≥ e)) then { u with endAt := none } else u } }

/-- INPUT_OVERLOAD: the DC input current has been beyond its limit for 100 us, or below 0.9 mA again for as long (R131). -/
def execInputOverload (dt ch : Nat) (on : Bool) (s : State) : Host.Outcome State Fault Refusal := runUp dt s fun t =>
  let t := t.mapCh ch fun q => { q with overload := on }
  if on then t.mapCh ch fun q => { q with sheaves := q.sheaves.map fun h => if h.ph == .ready then h else h.flag 4 } else t

/-- A flag on the channel-sheaves, open or in processing, of the channels that satisfy `p`. -/
def State.flagOpen (s : State) (p : Nat → Bool) (b : Nat) : State :=
  { s with rx := { s.rx with chans := { s.rx.chans with cells := s.rx.chans.cells.map fun (x : Nat × ChanState) =>
      (x.1, if p x.1 then { x.2 with sheaves := x.2.sheaves.map fun h => if h.ph == .ready then h else h.flag b } else x.2) } } }

/-- DET_HV_PG has been low for 10 ms while DET_HV_EN is high, or high for 10 ms (R155). -/
def execDetHvPg (dt : Nat) (level : Bool) (s : State) : Host.Outcome State Fault Refusal := runUp dt s fun t =>
  if !level && t.pins.detHvEn && !t.rx.hvBad then ({ t with rx := { t.rx with hvBad := true } }.flagOpen (fun _ => true) 9).post 0x3002 0 0
  else if level then { t with rx := { t.rx with hvBad := false } }
  else t

/-! Detector bias (R149 to R154). -/

/-- The enabled channels of a group, CH_REF in group 3. -/
def State.groupChans (s : State) (g : Nat) : List Nat :=
  (((List.range 128).map (· + 128 * g)) ++ (if g = 3 then [512] else [])).filter s.chEn
/-- The median of a list of rates, the mean of the middle two where their number is even. -/
def median (l : List Rat) : Option Rat :=
  let m := sortBy (fun a b => decide (a < b)) l
  if m.isEmpty then none
  else if m.length % 2 = 1 then m[m.length / 2]?
  else some ((m.getD (m.length / 2 - 1) 0 + m.getD (m.length / 2) 0) / 2)

/-- The temperature in degrees Celsius that a group's HK_TEMP gives now, or none when the result is OPEN or UNSETTLED (R151). -/
def State.biasT (s : State) (g : Nat) : Option Rat :=
  let h := s.hk.chans.get (s.hkTemp g)
  if h.valid && !h.isOpen then some ((h.value : Rat) / 1000) else none

/-- A group's channel-sheaves carry the bias-uncertain flag: its HK_TEMP was OPEN or UNSETTLED at a Furrow boundary, and no valid result has returned (R151). -/
def State.biasUncertain (s : State) (g : Nat) : Bool := (s.group g).uncertain && (s.biasT g).isNone

/-- The code that R149 computes for group `g`, before it is clamped. -/
def State.biasWant (s : State) (g : Nat) : Int :=
  let temp := (s.biasT g).getD (-40)
  let vbd : Rat := (s.grp g 4 0 16 : Rat) + (s.group g).vbdAdj + (signed 16 (s.grp g 4 16 16) : Rat) * (temp - 25) / 100
  let lo : Rat := s.grp g 8 0 16
  let hi : Rat := s.grp g 8 16 16
  let aLo : Rat := (s.grp g 12 0 16 * 100000 : Nat)
  let aHi : Rat := (s.grp g 12 16 16 * 100000 : Nat)
  let amb := (median ((s.groupChans g).filterMap fun c => (s.ch c).lam)).getD aHi
  let vex := if amb ≤ aLo then hi else if amb ≥ aHi then lo else hi - (hi - lo) * (amb - aLo) / (aHi - aLo)
  roundQ ((vbd + vex - (s.grp g 16 16 16 : Nat)) * 100 / (max 1 (s.grp g 16 0 16) : Nat))

/-- MAX_CODE of group `g`. -/
def State.maxCode (s : State) (g : Nat) : Nat := s.grp g 0 12 12

/-- The R149 target of group `g`. -/
def State.biasTarget (s : State) (g : Nat) : Nat := min (s.maxCode g) (s.biasWant g).toNat

/-- The bias of group `g` at a Furrow boundary (R149 to R151). A dark-count pass holds the code (R160); what R151 says of the temperature holds all the same. -/
def State.biasGroup (s : State) (g : Nat) : State :=
  let q := s.group g
  let stby := s.grp g 0 0 12
  if (s.groupChans g).isEmpty then s.mapGroup g fun q => { q with code := stby, target := stby, changed := if q.code = stby then q.changed else s.now }
  else
    let target := s.biasTarget g
    let step := s.grp g 24 0 12
    let code := if q.deferred then q.code else if target ≥ q.code then min target (q.code + step) else max target (q.code - step)
    let bad := (s.biasT g).isNone
    let isOpen := (s.hk.chans.get (s.hkTemp g)).isOpen
    let s := s.mapGroup g fun q => { q with
      code := code, target := if q.deferred then q.target else target, changed := if code = q.code then q.changed else s.now
      uncertain := bad, tempOpen := isOpen, aimed := q.aimed || !q.deferred }
    let s := if bad then s.flagOpen (fun c => groupOf c == g) 9 else s
    if isOpen && !q.tempOpen then s.post 0x3001 11 g else s

/-- The bias codes of all groups at a Furrow boundary, in ARMED, RANGING and DEGRADED (R149, R152). -/
def State.biasUpdate (s : State) : State := if s.armedUp then (List.range 4).foldl (fun t g => t.biasGroup g) s else s
/-- Every group with an enabled channel stands at its target, computed since ARMED was entered (R152, R154). -/
def State.biasReady (s : State) : Bool :=
  (List.range 4).all fun g => (s.groupChans g).isEmpty || ((s.group g).aimed && (s.group g).code == (s.group g).target)

/-! Commands. -/

/-- State of a channel's lanes: bits 0 and 1 the lanes judged failed, bit 2 TDC-B in service (log 17). -/
def ChanState.laneWord (q : ChanState) : Nat := pack [(0, b2n q.laneAFail), (1, b2n q.laneBFail), (2, b2n q.onLaneB)]

/-- RX_STATUS (R150, R162, R364; log 17): groups and strings in the device block, one block per channel of the blocks that the mask names, and
CH_REF where it names all. -/
def bodyRxStatus : Body := answer fun e s =>
  let m := e.p 0 0 32
  let chans := if m = 0 then List.range 513 else (List.range 512).filter fun c => bit m (c / 16)
  let dev := ((List.range 4).flatMap fun g =>
      let k := s.grp g 20 24 8
      [(s.group g).code, (s.group g).target, if k < 16 then twos 32 (s.hk.chans.get k).value else 0])
    ++ (List.range 32).flatMap fun i => [twos 32 (s.dl i), sat32 (s.str i).dlCount]
  replyWith (response 0x0402 dev (chans.map fun c =>
    let q := s.ch c
    [q.k, rate16 (q.lam.getD 0), q.laneWord, sat32 q.evtOvf, sat32 q.candDrop, sat32 q.refAmbig]))

/-- RX_STATUS (R162). -/
def execRxStatus (dt sub : Nat) (s : State) : Host.Outcome State Fault Refusal := run dt s fun t => t.gcs 0x0402 sub none bodyRxStatus

end Sys2Proof.Machine
end

