-- ==== Sys2Proof/Machine/Thresh.lean ====
section
/-! DEFINITION. The Thresher: ranges, weights, the alert store and the alerts (R165 to R171, R181 to R197 of 05_thresher; R66 of 02). -/

namespace Sys2Proof.Machine

/-- Ticks of 12.6 ns, the largest dither delay (R47, R202). -/
def ditherMax : Nat := 64512

/-- t_win of a sheaf (R202). -/
def Sheaf.tWin (h : Sheaf) : Nat := h.tNomLast + ditherMax + us 10
/-- t_lim of a sheaf (R203). -/
def Sheaf.tLim (h : Sheaf) : Nat := match h.c2At with | some t => min h.tWin (t + h.dCellMin - ns 2500) | none => h.tWin
/-- t_proc of a sheaf (R206). -/
def Sheaf.tProcAt (h : Sheaf) : Nat := h.tLim + us 2
/-- Range span of a sheaf in ticks (R204). -/
def Sheaf.span (h : Sheaf) : Nat := min (us 10) (h.tLim - h.tNomLast - ditherMax)

/-- Millimetres of `n` units of 1/16 LSB, exactly (R204, R212). -/
def mmOf (n : Rat) : Rat := n * 9765625 / 10000000 * 149896229 / 1000000000
/-- Units of 1/16 LSB in `mm` millimetres, exactly. -/
def unitsOf (mm : Nat) : Rat := (mm : Rat) * 10000000 / 9765625 * 1000000000 / 149896229

/-! Fields of a program's block in `Sheaf.thr`, which follows the 64-byte header (R194). -/

/-- Bits of a program's block word at byte `i`. -/
def Sheaf.th (h : Sheaf) (i lo w : Nat) : Nat := fieldOf h.thr (64 + i) lo w
/-- W_BASE. -/
def Sheaf.wBase (h : Sheaf) : Nat := h.th 4 0 8
/-- A candidate's weight in a sheaf (R171). -/
def Sheaf.weight (h : Sheaf) (n : Nat) (ht : Bool) : Nat := min 255 (h.wBase + h.th 4 8 8 * (n - h.k) + (if ht then h.th 4 16 8 else 0))
/-- ALERT_EN (R194). -/
def Sheaf.alertEn (h : Sheaf) : Bool := fieldOf h.thr 8 0 1 == 1
/-- The bound B(N) of the code plan (R53). -/
def boundB (n : Nat) : Nat := ceilDiv n 8
/-- M_eff for `f` fired shots (R173). -/
def Sheaf.mEff (h : Sheaf) (f : Nat) : Nat := max (boundB h.n + 1) (ceilDiv (ceilDiv (h.th 0 0 8 * h.n) 64 * f) (max 1 h.n))
/-- A_SHOTS (R184). -/
def Sheaf.aShots (h : Sheaf) : Nat := ceilDiv (h.th 0 8 8 * h.n) 64 + 2

/-! Correlation slots (R56, R165, R168). -/

/-- The fired ranging shots of string `i` with their cell instances. -/
def State.firedShots (s : State) (i : Nat) : List (CellRun × Shot) :=
  (s.str i).runs.flatMap fun r => (r.shots.filter fun h => h.st == .fired && !h.proof).map fun h => (r, h)
/-- The instant at which a shot receives its slot: its fire instant, or the end of the window of the shot 32 before it (R56). -/
def slotFrom (l : List (CellRun × Shot)) (h : Shot) : Nat :=
  match l.find? fun x => x.2.k + 32 == h.k with
  | some x => max (h.f * 80) (x.2.f * 80 + us 10)
  | none => h.f * 80
/-- A shot holds a slot at instant `t` (R56). -/
def holdsSlot (l : List (CellRun × Shot)) (h : Shot) (t : Nat) : Bool :=
  slotFrom l h ≤ t && !(l.any fun x => x.2.k == h.k + 32 && decide (slotFrom l x.2 ≤ t))

/-- The pairs of a candidate, per cell instance: shot index q and range (R165 to R168). -/
def State.pairsOf (s : State) (d : Cand) : List (Nat × Nat × Nat) :=
  let l := s.firedShots d.str
  (l.filter fun x => holdsSlot l x.2 d.tEdge && x.2.f ≤ d.fRef).filterMap fun x =>
    let r := d.tCorr + 16 * (d.fRef - x.2.f)
    match s.sheafAt d.ch x.1.cellNo with
    | some h =>
      if h.kind = 0 && h.str = d.str && r < 10240000 && h.k ≤ d.n && (!h.undith || x.2.f == d.fRef) then some (h.cellNo, x.2.j, r) else none
    | none => none

/-! The alert store (R181 to R187). -/

/-- Near edge of a zone in 1/16 LSB, rounded down (R181). -/
def zoneNear (z : Bytes) : Nat := (unitsOf (fieldOf z 4 0 22)).floor.toNat
/-- Far edge of a zone in 1/16 LSB, rounded up (R181). -/
def zoneFar (z : Bytes) : Nat := (unitsOf (fieldOf z 8 0 22)).ceil.toNat
/-- The alert bin of a range in a zone (R181). -/
def zoneBin (z : Bytes) (r : Nat) : Nat := (r - zoneNear z) / 1024
/-- The centre of an alert bin in 1/16 LSB. -/
def binCentre (z : Bytes) (b : Nat) : Nat := zoneNear z + b * 1024 + 512

/-- The zones of the active set that apply to a channel-sheaf (R182, R183). -/
def State.zonesFor (s : State) (i pos cell : Nat) : List (Nat × Bytes) :=
  (List.range (hZones s.sched)).filterMap fun z =>
    let b := (zoneAt s.sched z).take 16
    if fieldOf b 4 22 5 = i && fieldOf b 0 0 16 ≤ cell && cell ≤ fieldOf b 0 16 16 && bit (fieldOf b 12 0 16) pos then some (z, b) else none

/-- An alert is raised from an entry (R185 to R188, R316). -/
def State.raiseAlert (s : State) (c : Nat) (h : Sheaf) (z : Nat) (zb : Bytes) (bin q : Nat) (e : AlertEnt) : State :=
  let mark (t : State) (f : Sheaf → Sheaf) : State := t.mapSheaf c h.cellNo fun x => f { x with zonesDone := x.zonesDone ++ [z] }
  if s.thresh.outstanding.length ≥ 4096 then
    let t := mark s (·.flag 11)
    { t with thresh := { t.thresh with slices := t.thresh.slices.upd h.str fun k => { k with ovf := k.ovf + 1 } } }
  else
    let id := BitVec.ofNat 32 (s.devId * 65536 + s.thresh.alertSeq.toNat)
    let ctr := binCentre zb bin
    let r : Raised := {
      drover := fieldOf h.thr 8 1 1 == 1, id := id, zone := z, ch := c, str := h.str, cellNo := h.cellNo, cell := h.cell, furrow := h.furrow, bin := bin, centre := ctr
      tol := h.th 24 8 8, rmin := fieldOf zb 4 0 22, rmax := fieldOf zb 8 0 22, excl := BitVec.ofNat 8 (h.th 24 0 8)
      weight := e.weight, count := e.count, time := s.deviceTime }
    let rc := alertRecord s.devId s.deviceTime.toNat r h.dir (roundQ (mmOf ctr)).toNat h.n q h.time.toNat
    let t := mark s id'
    let t := { t with
      thresh := { t.thresh with
        alertSeq := t.thresh.alertSeq + 1, outstanding := t.thresh.outstanding ++ [r], alertQ := t.thresh.alertQ ++ [rc]
        pinSince := if t.pins.alertN then some t.now else t.thresh.pinSince
        pinMin := if t.pins.alertN then us (fieldOf h.thr 12 0 16) else t.thresh.pinMin
        slices := t.thresh.slices.upd h.str fun k => { k with alerts := k.alerts + 1 } }
      pins := { t.pins with alertN := false } }
    let t := if t.role == 2 && t.belongs && !t.isA0 && r.drover then t.sendUp rc else t
    t.recTake rc
where
  /-- A sheaf as it is. -/
  id' (h : Sheaf) : Sheaf := h

/-- One pair of weight `w` updates the alert store of its sheaf (R183, R184, R288). -/
def State.alertPair (s : State) (c n w q r : Nat) : State :=
  match s.sheafAt c n with
  | none => s
  | some h =>
    h.zones.foldl (fun t (zb : Nat × Bytes) =>
      if r < zoneNear zb.2 || r > zoneFar zb.2 then t
      else
        match t.sheafAt c n with
        | none => t
        | some h =>
          let key := zb.1 * 65536 + zoneBin zb.2 r
          let o := h.alerts.get key
          let e : AlertEnt := { o with
            weight := min 65535 (o.weight + w), count := if o.lastQ = some q then o.count else min 255 (o.count + 1), lastQ := some q }
          let t := t.mapSheaf c n fun h => { h with alerts := h.alerts.set key e }
          let wt := fieldOf zb.2 12 16 16
          if wt != 0 && e.weight ≥ wt && e.count ≥ h.aShots && !e.bad && !(h.zonesDone.contains zb.1) then
            t.raiseAlert c h zb.1 zb.2 (zoneBin zb.2 r) q e
          else t) s

/-! The steps. -/

/-- A channel passes a candidate to its slice now: 20 ns after the one before, so at up to 50 M candidates/s (R146), and its engines' input is not full (R169). -/
def ChanState.mayPass (q : ChanState) (now : Nat) : Bool :=
  q.candFrom ≤ now && (q.pairq.isEmpty || decide ((q.pairq.map fun e => e.qr.length).sum < Config.engineInput))

/-- The channel whose queue holds the oldest candidate for slice `i` among those that may pass one, with that candidate (R146, R169). -/
def State.oldestCand (s : State) (i : Nat) : Option (Nat × Cand) :=
  ((s.rx.chans.cells.filter fun p => p.2.mayPass s.now).filterMap fun p => (p.2.candq.find? fun d => d.str == i).map fun d => (p.1, d)).foldl
    (fun b x => match b with | none => some x | some y => if x.2.tEdge < y.2.tEdge then some x else some y) none

/-- Take the first element that satisfies `p` out of a list. -/
def eraseFirst {α : Type} (p : α → Bool) : List α → List α
  | [] => []
  | x :: xs => if p x then xs else x :: eraseFirst p xs

/-- The pairs `ps` of candidate `d` with the sheaf of cell instance `n` of channel `c`, as positions and bins (R169). -/
def CandPair.of (slice n : Nat) (d : Cand) (h : Sheaf) (ps : List (Nat × Nat × Nat)) : CandPair :=
  { cellNo := n, str := slice, tEdge := d.tEdge, w := h.weight d.n d.ht, qr := (ps.filter fun p => p.1 == n).map (·.2)
    ent := { t := (d.tCorr + 8) / 16, refShot := d.fRef, n := d.n, ht := d.ht, w := h.weight d.n d.ht } }

/-- The pairs `ps` of candidate `d` with the sheaf of cell instance `n` go toward the engines, and to the alert store while it takes them (R169, R183). -/
def State.joinPairs (s : State) (slice c : Nat) (d : Cand) (ps : List (Nat × Nat × Nat)) (n : Nat) : State :=
  match s.sheafAt c n with
  | none => s
  | some h =>
    let e := CandPair.of slice n d h ps
    let t := s.mapCh c fun q => { q with pairq := q.pairq ++ [e] }
    if h.alertEn && !h.alertCleared && !h.miss && h.ph == .accumulating && d.tEdge ≤ h.tLim then e.qr.foldl (fun t p => t.alertPair c n e.w p.1 p.2) t else t

/-- CANDIDATE_ARRIVAL: slice `slice` takes a candidate, one in an engine cycle, forms its pairs and updates the alert store (R146, R165 to R171, R183). A channel whose
engine input is full keeps its candidates in its queue (R169). -/
def execCandidateArrival (dt slice : Nat) (s : State) : Host.Outcome State Fault Refusal := runUp dt s fun t =>
  match (if t.now < (t.thresh.slices.get slice).takeFrom then none else t.oldestCand slice) with
  | none => t
  | some (c, d) =>
    let t := t.mapCh c fun q => { q with candq := eraseFirst (fun x => x.str == slice) q.candq, candFrom := t.now + ns 20 }
    let ps := t.pairsOf d
    let t := { t with thresh := { t.thresh with slices := t.thresh.slices.upd slice fun k =>
      { k with cands := k.cands + 1, pairs := k.pairs + ps.length, takeFrom := t.now + ns 1 } } }
    let t := (t.count (128 + 2 * slice) 1).count (129 + 2 * slice) ps.length
    ((ps.map (·.1)).eraseDups).foldl (fun t n => t.joinPairs slice c d ps n) t

/-- The update ports of the channel's engine group count their adds (R199, R295). -/
def State.addCounts (s : State) (c n : Nat) : State := s.count (cntGroup (c / 128) 1) n

/-- The weight of a pair enters its coarse bin r div 4096, which saturates at 65,535 (R201, R213); the Bool tells that one has saturated. -/
def addBin (w : Nat) (b : Tab Nat × Bool) (p : Nat × Nat) : Tab Nat × Bool :=
  let v := b.1.get (p.2 / 4096) + w
  (b.1.set (p.2 / 4096) (min 65535 v), b.2 || decide (v > 65535))

/-- The sheaf takes a candidate's pairs; its log takes the candidate, or with 768 entries is full (R201, R203, R205). -/
def Sheaf.takePair (e : CandPair) (h : Sheaf) : Sheaf :=
  let b := e.qr.foldl (addBin e.w) (h.bins, h.sat)
  let h := { h with bins := b.1, sat := b.2, wTot := h.wTot + e.w, cands := h.cands + 1 }
  if h.logLen ≥ 768 then h.flag 14 else { h with log := e.ent :: h.log, logLen := h.logLen + 1 }

/-- PAIR_DELIVERY: the engines of channel `ch` take the pairs of one candidate with one sheaf, two in an engine cycle (R169, R199, R201, R203, R205, R206). A pair that comes
after processing has begun is late, and counted so even where the record has left. -/
def execPairDelivery (dt ch : Nat) (s : State) : Host.Outcome State Fault Refusal := runUp dt s fun t =>
  match (if t.now < (t.ch ch).engFrom then [] else (t.ch ch).pairq) with
  | [] => t
  | e :: rest =>
    let t := t.mapCh ch fun q => { q with pairq := rest, engFrom := t.now + ns ((e.qr.length + 1) / 2) }
    match t.sheafAt ch e.cellNo with
    | none => t.mapCh ch fun q => { q with latePair := q.latePair + e.qr.length }
    | some h =>
      if h.miss || e.tEdge > h.tLim then t
      else if !(h.ph == .accumulating) then
        (t.mapCh ch fun q => { q with latePair := q.latePair + e.qr.length }).mapSheaf ch e.cellNo fun h => h.flagNow 15
      else
        let t := (t.addCounts ch e.qr.length).mapSheaf ch e.cellNo (Sheaf.takePair e)
        if h.logLen ≥ 768 then t.mapCh ch fun q => { q with logOvf := q.logOvf + 1 } else t

/-- ALERT_PIN_RELEASE (R188). -/
def execAlertPinRelease (dt : Nat) (s : State) : Host.Outcome State Fault Refusal := runUp dt s fun t =>
  match t.thresh.pinSince with
  | some a =>
    if t.thresh.outstanding.isEmpty && t.now ≥ a + t.thresh.pinMin then
      { t with thresh := { t.thresh with pinSince := none }, pins := { t.pins with alertN := true } }
    else t
  | none => t

/-! Commands. -/

/-- THRESH_STATUS (R364, R399): outstanding alerts, then the counters of each slice. -/
def bodyThreshStatus : Body := answer fun _ s =>
  replyWith (response 0x0404 [s.thresh.outstanding.length] ((List.range 32).map fun i =>
    let k := s.thresh.slices.get i
    two k.cands ++ two k.pairs ++ [sat32 k.aliasRej, sat32 k.alerts, sat32 k.confirmed, sat32 k.retracted, sat32 k.ovf]))

/-- ALERT_LIST (R364, R399): ID, zone, channel and raise time of each outstanding alert. -/
def bodyAlertList : Body := answer fun _ s =>
  replyWith (response 0x0405 [] (s.thresh.outstanding.map fun r => [r.id.toNat, r.zone, r.ch] ++ two r.time.toNat))

/-- THRESH_STATUS (R194). -/
def execThreshStatus (dt sub : Nat) (s : State) : Host.Outcome State Fault Refusal := run dt s fun t => t.gcs 0x0404 sub none bodyThreshStatus
/-- ALERT_LIST (R194). -/
def execAlertList (dt sub : Nat) (s : State) : Host.Outcome State Fault Refusal := run dt s fun t => t.gcs 0x0405 sub none bodyAlertList

end Sys2Proof.Machine
end

