-- ==== Sys2Proof/Machine/ValidSched.lean ====
section
/-! DEFINITION. VALIDATE, part 1: the checks of a schedule set (R86 to R88 of 02_shot_schedule). -/

namespace Sys2Proof.Machine

/-- Why VALIDATE fails (R381): status, order number of the check, and what failed. -/
structure Verdict where
  /-- status -/
  status : Nat
  /-- CHECK -/
  check : Nat
  /-- VARIANT, 0xFF none -/
  variant : Nat := 0xFF
  /-- STRING, 0xFF none -/
  str : Nat := 0xFF
  /-- CELL, 0xFFFF none -/
  cell : Nat := 0xFFFF
  /-- ITEM, 0xFFFF none -/
  item : Nat := 0xFFFF
  deriving DecidableEq, Repr

/-- A check that holds, or the verdict. -/
def need (ok : Bool) (v : Verdict) : Option Verdict := if ok then none else some v

/-- The first verdict of a list of checks. -/
def firstOf (l : List (Option Verdict)) : Option Verdict := l.findSome? id

/-- The words at the listed offsets hold 0 in the listed bits. -/
def zerosAt (b : Bytes) (l : List (Nat × Nat)) : Bool := l.all fun x => num b x.1 4 &&& x.2 == 0

/-- Bytes `i` to `i + n` - 1 are 0. -/
def zeroBytes (b : Bytes) (i n : Nat) : Bool := (slice b i n).all (· == 0)

/-- The present variants of a set, rising. -/
def variantsOf (b : Bytes) : List Nat := bitsOf 8 (hVariants b)

/-- An entry of a staged set with its place. -/
structure Placed where
  /-- variant -/
  v : Nat
  /-- cell -/
  c : Nat
  /-- string -/
  i : Nat
  /-- the 32 bytes of the entry -/
  e : Bytes

/-- Every entry of a set, by variant, cell and string. -/
def allEntries (b : Bytes) : List Placed :=
  (variantsOf b).flatMap fun v => (List.range (hCells b)).flatMap fun c => (List.range 32).map fun i => ⟨v, c, i, entryAt b v c i⟩

/-- The first entry for which `bad` holds, as a verdict. -/
def entryFails (l : List Placed) (status check : Nat) (bad : Placed → Bool) : Option Verdict :=
  (l.find? bad).map fun p => { status := status, check := check, variant := p.v, str := p.i, cell := p.c, item := eProg p.e }

/-- The rows of every map, with map number and string. -/
def allRows (b : Bytes) : List (Nat × Nat × Bytes) :=
  (List.range (hMaps b)).flatMap fun m => (List.range 32).map fun i => (m, i, mapRowAt b m i)

/-- Check 1: the header's complement, then its format and the places of the parts (R59, R60). -/
def chkHeader (b : Bytes) : Option Verdict :=
  let ends : List (Nat × Nat) := [
    (num b 0x20 4, hMaps b * 2048), (num b 0x24 4, (variantsOf b).length * hCells b * 1024), (num b 0x28 4, 65536),
    (num b 0x2C 4, hZones b * 32), (num b 0x34 4, 256)]
  let placed := (ends.foldl (fun (a : Bool × Nat) x => (a.1 && decide (a.2 ≤ x.1), x.1 + x.2)) (true, 128))
  firstOf [
    need (decide (128 ≤ b.length) && slice b 64 64 == compl (slice b 0 64)) ⟨0x0411, 1, 0xFF, 0xFF, 0xFFFF, 0xFFFF⟩,
    need (num b 0 4 == 0x4843534A && num b 4 2 == 1 && decide (num b 0x38 4 ≤ 0x4000000) && num b 0x38 4 == b.length
      && placed.1 && placed.2 == num b 0x38 4) ⟨0x0120, 1, 0xFF, 0xFF, 0xFFFF, 0xFFFF⟩]

/-- Check 2: the signature (R67, R68). -/
def State.chkSignature (s : State) (b : Bytes) : Option Verdict :=
  need (s.sigOk 1 (slice b (num b 0x34 4) 256) (b.take (num b 0x34 4))) { status := 0x0410, check := 2 }

/-- Check 4: entries, maps, budget blocks and zones match their complements. -/
def chkPairs (b : Bytes) : Option Verdict :=
  firstOf [
    (entryFails (allEntries b) 0x0411 4 fun p => !(pairOk p.e)).map fun v => { v with item := 0xFFFF },
    ((allRows b).find? fun x => !(pairOk x.2.2)).map fun x => { status := 0x0411, check := 4, str := x.2.1 },
    ((List.range 32).find? fun i => !(pairOk (budgetAt b i))).map fun i => { status := 0x0411, check := 4, str := i },
    ((List.range (hZones b)).find? fun z => !(pairOk (zoneAt b z))).map fun z => { status := 0x0411, check := 4, item := z }]

/-- A reduction program that exists: 0 to 9, without 2 and 3 on A0 (R9, R224). -/
def State.progExists (s : State) (p : Nat) : Bool := decide (p < 10) && !(s.isA0 && (p == 2 || p == 3))

/-- Every field of an entry in its stated range (R61, R63). -/
def State.entryInRange (s : State) (nmaps : Nat) (p : Placed) : Bool :=
  let e := p.e
  zerosAt e [(8, 0xC0000000), (12, 0xFF000000)]
    && eCell e == p.c && decide (ePw e ≤ 36) && decide (12500 ≤ eTSpace e) && decide (600 ≤ eVres e ∧ eVres e ≤ 3000)
    && decide (eSmap e < nmaps) && s.progExists (eProg e)
    && (if eProof e then eEn e && !(eDith e) && eDepth e == 1 else !(eEn e) || decide (8 ≤ eDepth e))
    && (!(eCal e) || !(eEn e) || eProof e)

/-- Check 5: every field in its stated range, reserved fields 0 (R60 to R67); the budget table is left to check 12, the zones' values to
check 11. -/
def State.chkRanges (s : State) (b : Bytes) : Option Verdict :=
  let sig := slice b (num b 0x34 4) 256
  firstOf [
    need (zerosAt b [(4, 0xFFFF0000), (0x18, 0x80000000), (0x30, 0xFFFF0000), (0x3C, 0xFFFFFFFF)]
      && decide (16 ≤ hCells b ∧ hCells b ≤ 4096) && hVariants b % 8 == 7 && decide (1 ≤ hMaps b ∧ hMaps b ≤ 64) && decide (hZones b ≤ 256))
      { status := 0x0122, check := 5 },
    entryFails (allEntries b) 0x0122 5 fun p => !(s.entryInRange (hMaps b) p),
    (allRows b).findSome? fun x => ((rowChannels x.2.2).find? fun c => c != 0xFFFF && decide (c > 0x1FF)).map fun c =>
      { status := 0x0122, check := 5, str := x.2.1, item := c },
    ((List.range (hZones b)).find? fun z => !(zerosAt (zoneAt b z) [(4, 0xF8000000), (8, 0xFFC00000)])).map fun z =>
      { status := 0x0122, check := 5, item := z },
    need (decide (byteAt sig 0 ≤ 3) && zeroBytes sig 1 15 && zeroBytes sig 0xD0 48) { status := 0x0122, check := 5 }]

/-! Times of this file are in the schedule's unit of 25 ps. -/

/-- Nominal instants of an entry after t_cell; every proof slot counts as a shot (R43, R86). -/
def entryTimes (e : Bytes) : List Nat :=
  if !(eEn e) then [] else (List.range (if eProof e then 1 else eDepth e)).map fun j => eTFirst e + j * eTSpace e

/-- The shots of string `i` over one Furrow of variant `v` with every cell at D_CELL_MIN: cell and nominal instant, in order. -/
def furrowShots (b : Bytes) (v i : Nat) : List (Nat × Nat) :=
  (List.range (hCells b)).flatMap fun c => (entryTimes (entryAt b v c i)).map fun t => (c, c * hDCellMin b + t)

/-- The first shot of a rising list that comes too soon after the one before it (gate 2 of R45). -/
def tooSoon : List (Nat × Nat) → Option Nat
  | [] => none
  | [_] => none
  | a :: b :: rest => if b.2 < a.2 + 12500 then some b.1 else tooSoon (b :: rest)

/-- The last shot of an entry with its largest dither and its gate lies within D_CELL_MIN. -/
def entryFits (b : Bytes) (e : Bytes) : Bool :=
  match (entryTimes e).getLast? with
  | none => true
  | some t => decide (t + 504 + 80 + 20 * ePw e ≤ hDCellMin b)

/-- Check 6: spacing (R86): within each variant, across its own wrap, and where two variants join. -/
def chkSpacing (b : Bytes) : Option Verdict :=
  let period := hCells b * hDCellMin b
  let vs := variantsOf b
  let within := vs.findSome? fun v => (List.range 32).findSome? fun i =>
    (tooSoon (furrowShots b v i)).map fun c => ({ status := 0x0121, check := 6, variant := v, str := i, cell := c } : Verdict)
  let joins := vs.findSome? fun v => vs.findSome? fun w => (List.range 32).findSome? fun i =>
    match (furrowShots b v i).getLast?, (furrowShots b w i).head? with
    | some x, some y => if y.2 + period < x.2 + 12500 then some ({ status := 0x0121, check := 6, variant := w, str := i, cell := y.1 } : Verdict) else none
    | _, _ => none
  firstOf [
    (entryFails (allEntries b) 0x0121 6 fun p => !(entryFits b p.e)).map fun v => { v with item := 0xFFFF }, within, joins]

/-- The channels that a row lists. -/
def listed (row : Bytes) : List Nat := (rowChannels row).filter (· != 0xFFFF)

/-- The first (string, channel) whose channel an earlier one of the list has. -/
def repeated : List Nat → List (Nat × Nat) → Option (Nat × Nat)
  | _, [] => none
  | seen, (i, c) :: rest => if seen.contains c then some (i, c) else repeated (c :: seen) rest

/-- The (string, channel) pairs of the rows that the strings use with the maps that `smap` names. -/
def rowsOf (b : Bytes) (smap : Nat → Nat) : List (Nat × Nat) :=
  (List.range 32).flatMap fun i => (listed (mapRowAt b (smap i) i)).map fun c => (i, c)

/-- Check 7: a channel at most once in a map, and at most once in the rows that a cell uses (R65). -/
def chkMaps (b : Bytes) : Option Verdict :=
  firstOf [
    (List.range (hMaps b)).findSome? fun m => (repeated [] (rowsOf b fun _ => m)).map fun x => { status := 0x0122, check := 7, str := x.1, item := x.2 },
    (variantsOf b).findSome? fun v => (List.range (hCells b)).findSome? fun c =>
      (repeated [] (rowsOf b fun i => eSmap (entryAt b v c i))).map fun x =>
        { status := 0x0122, check := 7, variant := v, str := x.1, cell := c, item := x.2 }]

/-- A ranging entry: it fires and is no proof slot. -/
def ranging (e : Bytes) : Bool := eEn e && !(eProof e)

/-- The longest gap of a rising list of instants repeated every `period`. -/
def longestGap (period : Nat) (l : List Nat) : Nat :=
  match l.head?, l.getLast? with
  | some a, some z => maxOf (a + period - z) ((l.zip (l.drop 1)).map fun x => x.2 - x.1)
  | _, _ => 0

/-- Check 8: proof slots of every ranging string in every variant, at most 100 ms apart with every cell lasting D_FURROW_MAX / CELLS;
times here are in 25 ps / CELLS. -/
def chkProofs (b : Bytes) : Option Verdict :=
  let n := hCells b
  let len := hDFurrowMax b * 40000
  let all := allEntries b
  let strs := (List.range 32).filter fun i => all.any fun p => p.i == i && ranging p.e
  (variantsOf b).findSome? fun v => strs.findSome? fun i =>
    let times := (List.range n).filterMap fun c =>
      let e := entryAt b v c i
      if eProof e && eEn e then some (c * len + eTFirst e * n) else none
    need (!times.isEmpty && decide (longestGap (n * len) times ≤ 4000000000 * n)) { status := 0x0121, check := 8, variant := v, str := i }

/-- M of R173 for a program block of the Thresher descriptor image `t`. -/
def mOf (t : Bytes) (p n : Nat) : Nat := ceilDiv (byteAt t (0x40 + 32 * p) * n) 64

/-- Check 9: M > B(N) in every program in use (R53), after the Thresher descriptor's complement (R174). -/
def State.chkAmbiguity (s : State) (b : Bytes) : Option Verdict :=
  let t := s.cfg.staged.get 4
  firstOf [
    need (!t.isEmpty && pairOk t) { status := 0x0415, check := 9 },
    entryFails (allEntries b) 0x0127 9 fun p => ranging p.e && decide (mOf t (eProg p.e) (eDepth p.e) ≤ boundB (eDepth p.e))]

/-- DEV_ID of a Drover descriptor image; 0xFFFF when none is staged (R54). -/
def devIdOf (d : Bytes) : Nat := if d.isEmpty then 0xFFFF else num d 8 2

/-- Check 10: the device ID assigned where a string is enabled (R54), and the header's code plan. -/
def State.chkCode (s : State) (b : Bytes) : Option Verdict :=
  need ((devIdOf (s.cfg.staged.get 10) != 0xFFFF || !((allEntries b).any fun p => eEn p.e)) && hPlanBase b != 0
    && decide (1 ≤ hPlanStride b ∧ hPlanStride b ≤ 1023)) { status := 0x0125, check := 10 }

/-- A zone's values obey R66 and R58. -/
def zoneOk (cells : Nat) (z : Bytes) : Bool :=
  let rmin := fieldOf z 4 0 22
  let rmax := fieldOf z 8 0 22
  decide (num z 0 2 ≤ num z 2 2) && decide (num z 2 2 < cells) && decide (2000 ≤ rmin ∧ rmin ≤ 1498962) && decide (rmin < rmax ∧ rmax ≤ 1498962)

/-- The (channel, alert bin) entries that a zone covers (R181, R182). -/
def zoneLoad (z : Bytes) : Nat := (bitsOf 16 (num z 12 2)).length * (zoneBin z (zoneFar z) + 1)

/-- Check 11: zone rules, and the limit of 16,384 entries per string, cell and variant (R182). -/
def chkZones (b : Bytes) : Option Verdict :=
  let zs := (List.range (hZones b)).map fun z => (z, zoneAt b z)
  firstOf [
    (zs.find? fun x => !(zoneOk (hCells b) x.2)).map fun x => { status := 0x0126, check := 11, str := fieldOf x.2 4 22 5, item := x.1 },
    (entryFails (allEntries b) 0x0126 11 fun p => eAlertable p.e && decide (16384 <
      ((zs.filter fun x => fieldOf x.2 4 22 5 == p.i && decide (num x.2 0 2 ≤ p.c ∧ p.c ≤ num x.2 2 2)).map fun x => zoneLoad x.2).sum)).map
        fun v => { v with item := 0xFFFF }]

/-- A limit of a budget block: 0 for L100, 1 to 4 for the bucketed windows (R82). -/
def limitOf (g : Bytes) (w : Nat) : Nat := num g (8 * w) 8

/-- A budget block whose fields obey R74 and R82. -/
def budgetOk (g : Bytes) : Bool :=
  let lim := (List.range 5).map (limitOf g)
  let fil := (List.range 5).map fun w => num g (0x28 + 8 * w) 8
  zeroBytes g 0x3C8 56 && (lim ++ fil).all (fun v => decide (v < 2 ^ 40)) && fil.getD 0 0 == 0 && decide (lim.getD 0 0 ≤ 65534)
    && (lim.zip (lim.drop 1)).all (fun x => decide (x.1 ≤ x.2))
    && (List.range 444).all (fun k => decide (1 ≤ num g (0x50 + 2 * k) 2)) && (fil.zip lim).all fun x => decide (x.1 ≤ x.2)

/-- Check 12: the fields of every budget block. -/
def chkBudget (b : Bytes) : Option Verdict :=
  ((List.range 32).find? fun i => !(budgetOk (budgetAt b i))).map fun i => { status := 0x0123, check := 12, str := i }

/-- The charge of an entry's shot for budget conformance: at the band of VRES + 2.0 V, band 11 above 60.0 V (R87). -/
def entryCharge (g e : Bytes) : Nat := num g (0x50 + (ePw e * 12 + bandOf (eVres e * 20 + 2000)) * 2) 2

/-- Charge of the shots of a list in [`a`, `z`). -/
def chargeIn (l : List (Nat × Nat)) (a z : Nat) : Nat := ((l.filter fun x => decide (a ≤ x.1 ∧ x.1 < z)).map (·.2)).sum

/-- Charge of a whole Furrow. -/
def furrowCharge (l : List (Nat × Nat)) : Nat := (l.map (·.2)).sum

/-- The largest charge in a half-open interval of length `len` that starts in a Furrow of the shots `f`, with such Furrows before a
boundary and Furrows of `g` after it (R87). The largest one starts at a shot, and its total is linear in the number of whole Furrows of
`f` before the boundary, so that number is tried at its two ends. -/
def joinCharge (f g : List (Nat × Nat)) (period len : Nat) : Nat :=
  maxOf 0 (f.map fun x =>
    let left := period - x.1
    if len ≤ left then chargeIn f x.1 (x.1 + len)
    else
      let whole := (len - left) / period
      let part := chargeIn f x.1 period + chargeIn g 0 ((len - left) % period)
      max (part + whole * furrowCharge f) (part + whole * furrowCharge g))

/-- The same for the 100 ms and 10 s windows: every whole Furrow at the largest total of any variant, the head of any variant (R87). -/
def mixedCharge (f : List (Nat × Nat)) (all : List (List (Nat × Nat))) (period len : Nat) : Nat :=
  let top := maxOf 0 (all.map furrowCharge)
  maxOf 0 (f.map fun x =>
    let left := period - x.1
    if len ≤ left then 0
    else chargeIn f x.1 period + (len - left) / period * top + maxOf 0 (all.map fun g => chargeIn g 0 ((len - left) % period)))

/-- The window lengths of R77 in 25 ps units, from 1: 10 us to 10 s. -/
def windowUnits (w : Nat) : Nat := [0, 400000, 40000000, 4000000000, 400000000000].getD w 0

/-- Check 13 for one string (R87). -/
def conforms (b : Bytes) (i : Nat) : Option Verdict :=
  let g := (budgetAt b i).take 1024
  let vs := variantsOf b
  let period := hCells b * hDCellMin b
  let shots := vs.map fun v => (v, (List.range (hCells b)).flatMap fun c =>
    let e := entryAt b v c i
    (entryTimes e).map fun t => (c * hDCellMin b + t, entryCharge g e))
  let big := vs.findSome? fun v => (List.range (hCells b)).findSome? fun c =>
    let e := entryAt b v c i
    need (!(eEn e) || decide (entryCharge g e ≤ limitOf g 0)) { status := 0x0123, check := 13, variant := v, str := i, cell := c }
  let heavy := [1, 2, 3, 4].findSome? fun w =>
    let len := 17 * windowUnits w / 16 + 504
    shots.findSome? fun x => need (shots.all (fun y => decide (joinCharge x.2 y.2 period len ≤ limitOf g w))
        && (decide (w < 3) || decide (mixedCharge x.2 (shots.map (·.2)) period len ≤ limitOf g w)))
      { status := 0x0123, check := 13, variant := x.1, str := i }
  firstOf [big, heavy]

/-- Check 14: derate order of each (cell, string) (R88). -/
def chkDerate (b : Bytes) : Option Verdict :=
  let ageing := (variantsOf b).filter (decide <| 3 ≤ ·)
  (List.range (hCells b)).findSome? fun c => (List.range 32).findSome? fun i =>
    let g := (budgetAt b i).take 1024
    let tot (v : Nat) : Nat := let e := entryAt b v c i; (entryTimes e).length * entryCharge g e
    let bad (v : Nat) : Verdict := { status := 0x0124, check := 14, variant := v, str := i, cell := c }
    firstOf ([need (decide (tot 2 ≤ tot 1)) (bad 2)]
      ++ (if ageing.isEmpty then [need (decide (tot 1 ≤ tot 0)) (bad 1)]
          else ageing.flatMap fun a => [need (decide (tot 1 ≤ tot a)) (bad 1), need (decide (tot a ≤ tot 0)) (bad a)]))

/-- The checks of R86 in order, on the staged schedule set. -/
def State.checkSchedule (s : State) : Option Verdict :=
  let b := s.cfg.staged.get 1
  match chkHeader b with
  | some v => some v
  | none =>
  match s.chkSignature b with
  | some v => some v
  | none =>
  if hSecVer b < s.otp.schedCtr then some { status := 0x0412, check := 3 } else
  match chkPairs b with
  | some v => some v
  | none =>
  match s.chkRanges b with
  | some v => some v
  | none =>
    firstOf [chkSpacing b, chkMaps b, chkProofs b, s.chkAmbiguity b, s.chkCode b, chkZones b, chkBudget b,
      (List.range 32).findSome? (conforms b), chkDerate b]

end Sys2Proof.Machine
end

