-- ==== Sys2Proof/Machine/Validate.lean ====
section
/-! DEFINITION. VALIDATE: parts 2 to 10, the worst-case rates and the capacity check (R20 to R22, R128, R163, R195, R232, R265, R310, R381,
R432, R465, R493). -/

namespace Sys2Proof.Machine

/-- The value half of staged part `n`. -/
def State.spart (s : State) (n : Nat) : Bytes := let b := s.cfg.staged.get n; b.take (b.length / 2)

/-- A verdict with a status, a check and an item. -/
def fails (status check : Nat) (item : Nat := 0xFFFF) : Verdict := { status := status, check := check, item := item }

/-- Checks 1 and 2 of a descriptor: staged, matching its complement, and with its MAGIC, FORMAT 1 and length (R381). -/
def descHead (b : Bytes) (comp fmt magic len lenAt : Nat) : Option Verdict :=
  firstOf [
    need (!b.isEmpty && pairOk b) (fails comp 1),
    need (num b 0 4 == magic && num b 4 2 == 1 && num b lenAt 4 == len && b.length == 2 * len) (fails fmt 2)]

/-! Part 2: the drive descriptor (R127, R128). -/

/-- Reserved bits of the drive descriptor. -/
def driveRsvd : List (Nat × Nat) :=
  [(0x08, 0xFFFFFEE0), (0x0C, 0xFFFE0000), (0x20, 0x0000FC00), (0x30, 0xFFFFFFFC), (0x38, 0xFFFFFFFF), (0x3C, 0xFFFFFFFF)]
    ++ (List.range 32).flatMap fun i => [(0x40 + 16 * i, 0xFFFE000C), (0x4C + 16 * i, 0xFF000000)]

/-- The phase table of a drive descriptor, with the end of the half-period behind it (R118). -/
def phases (d : Bytes) (cells : Nat) : List Nat := ((List.range cells).map fun c => num d (num d 0x28 4 + 2 * c) 2) ++ [65536]

/-- A list rises strictly. -/
def rising (l : List Nat) : Bool := (l.zip (l.drop 1)).all fun x => decide (x.1 < x.2)

/-- A string block in range (R127); `used` tells that an entry has EN = 1 for the string. -/
def strBlockOk (d : Bytes) (i : Nat) (inUse : Bool) : Bool :=
  let o := 0x40 + 16 * i
  let mode := fieldOf d o 0 2
  let within (v lo hi : Nat) : Bool := decide (lo ≤ v ∧ v ≤ hi)
  mode != 3 && within (fieldOf d o 10 7) 5 80 && within (num d (o + 4) 2) 100 10000 && within (num d (o + 6) 2) 100 10000
    && within (num d (o + 8) 2) 1 10000 && within (num d (o + 10) 2) 1 10000
    && (mode != 0 || !inUse) && (mode != 2 || decide (fieldOf d o 4 4 < fieldOf d 0x08 0 5))

/-- Satellites whose strings do not share one constant VRES (R115). -/
def badSatellite (d : Bytes) (l : List Placed) : Option Nat :=
  (List.range 16).find? fun k =>
    let strs := (List.range 32).filter fun i => fieldOf d (0x40 + 16 * i) 0 2 == 2 && fieldOf d (0x40 + 16 * i) 4 4 == k
    let v := (l.filter fun p => strs.contains p.i).map fun p => eVres p.e
    decide (2 ≤ strs.length) && v.any fun x => x != v.headD 0

/-- The step from VRES of entry `a` to that of the next cell's entry `z` fits the slew rates (R96, check 4 of R128): times in 25 ps,
voltages in 20 mV, rates in 0.1 V/ms. -/
def slewFits (d : Bytes) (i dmin : Nat) (a z : Bytes) : Bool :=
  let start := match (entryTimes a).getLast? with
    | some t => t + (if eDith a then 504 else 0) + 1600
    | none => 0
  let time := dmin + eTFirst z - start
  let rate := num d (0x40 + 16 * i + (if eVres z > eVres a then 8 else 10)) 2
  !(eEn z) || eVres z == eVres a || decide ((max (eVres z) (eVres a) - min (eVres z) (eVres a)) * 8000000 ≤ rate * time)

/-- Check 4: every step within a variant, over its wrap and where variants join. -/
def chkSlew (b d : Bytes) : Option Verdict :=
  let n := hCells b
  (List.range 32).findSome? fun i => (variantsOf b).findSome? fun v => (List.range n).findSome? fun c =>
    let next := if c + 1 < n then [(v, c + 1)] else (variantsOf b).map fun w => (w, 0)
    (next.find? fun x => !(slewFits d i (hDCellMin b) (entryAt b v c i) (entryAt b x.1 x.2 i))).map fun x =>
      { status := 0x012A, check := 4, variant := x.1, str := i, cell := x.2 }

/-- Check 5: cells at F_NOM + F_SPAN and the half-period at F_NOM - F_SPAN (mHz; half-period 2 * 10^13 / f in 25 ps). -/
def chkScan (b d : Bytes) : Option Verdict :=
  let hi := num d 0x10 4 + 1000 * num d 0x14 2
  let lo := num d 0x10 4 - 1000 * num d 0x14 2
  let ph := phases d (hCells b)
  firstOf [
    ((List.range (hCells b)).find? fun c => decide ((ph.getD (c + 1) 0 - ph.getD c 0) * 20000000000000 < hDCellMin b * 65536 * hi)).map fun c =>
      { status := 0x012B, check := 5, cell := c },
    need (decide (0 < lo) && decide (500000000 ≤ hDFurrowMax b * lo)) (fails 0x012B 5)]

/-- The checks of R128. -/
def State.checkDrive (s : State) : Option Verdict :=
  let raw := s.cfg.staged.get 2
  let d := s.spart 2
  let b := s.cfg.staged.get 1
  let all := allEntries b
  firstOf [
    need (!raw.isEmpty && pairOk raw) (fails 0x0413 1),
    need (num d 0 4 == 0x5652444A && num d 4 2 == 1 && num d 0x2C 4 == d.length && num d 6 2 == hCells b
      && decide (num d 0x28 4 + 2 * hCells b ≤ d.length)) (fails 0x0128 2),
    need (zerosAt d driveRsvd && decide (fieldOf d 0x08 0 5 ≤ 16) && fieldOf d 0x0C 1 2 != 3 && fieldOf d 0x0C 3 2 != 3
      && decide (8 ≤ fieldOf d 0x0C 5 6 ∧ fieldOf d 0x0C 5 6 ≤ 32) && decide (1 ≤ fieldOf d 0x0C 12 5 ∧ fieldOf d 0x0C 12 5 ≤ 20)
      && decide (200000 ≤ num d 0x10 4 ∧ num d 0x10 4 ≤ 8000000) && decide (1 ≤ num d 0x22 2) && fieldOf d 0x30 0 2 != 3
      && decide ((signed 32 (num d 0x34 4)).natAbs * 4 * num d 0x10 4 < 10 ^ 12)
      && (phases d (hCells b)).headD 1 == 0 && rising ((phases d (hCells b)).take (hCells b))) (fails 0x0129 3),
    ((List.range 32).find? fun i => !(strBlockOk d i (all.any fun p => p.i == i && eEn p.e))).map fun i => { status := 0x0129, check := 3, str := i },
    (badSatellite d all).map fun k => fails 0x0129 3 k,
    chkSlew b d, chkScan b d]

/-! Part 3: the receiver descriptor (R162, R163). -/

/-- Reserved bits of the receiver descriptor. -/
def rxRsvd : List (Nat × Nat) :=
  [(4, 0xFFFF0000), (0x08, 0xFFFF0000)] ++ ((List.range 10).map fun k => (0x18 + 4 * k, 0xFFFFFFFF))
    ++ ((List.range 4).flatMap fun g => [(0x80 + 32 * g, 0xFF000000), (0x98 + 32 * g, 0xFFFFF000), (0x9C + 32 * g, 0xFFFFFFFF)])
    ++ ((List.range 513).flatMap fun i => [(0x100 + 16 * i, 0xFE000000), (0x104 + 16 * i, 0xFFFF0000), (0x108 + 16 * i, 0xFFFFFFFF), (0x10C + 16 * i, 0xFFFFFFFF)])

/-- EN of channel `c` in a receiver descriptor. -/
def rxEn (d : Bytes) (c : Nat) : Bool := fieldOf d (0x100 + 16 * c) 2 1 == 1

/-- A channel block in range. -/
def rxChanOk (d : Bytes) (c : Nat) : Bool :=
  let o := 0x100 + 16 * c
  fieldOf d o 0 2 != 3 && (fieldOf d o 3 1 == 0 || fieldOf d o 4 1 == 0 || decide (fieldOf d o 5 10 < fieldOf d o 15 10))

/-- A bias-group block in range; CH_REF belongs to group 3. -/
def rxGroupOk (d : Bytes) (g : Nat) : Bool :=
  let o := 0x80 + 32 * g
  let en := ((List.range 128).any fun k => rxEn d (128 * g + k)) || (g == 3 && rxEn d 512)
  let temp := byteAt d (o + 0x16)
  let vb := byteAt d (o + 0x17)
  decide (fieldOf d o 0 12 ≤ fieldOf d o 12 12) && decide (num d (o + 8) 2 ≤ num d (o + 10) 2) && decide (num d (o + 12) 2 < num d (o + 14) 2)
    && decide (1 ≤ num d (o + 16) 2) && decide (1 ≤ fieldOf d (o + 0x18) 0 12) && (decide (temp ≤ 15) || (temp == 0xFF && !en))
    && (decide (vb ≤ 15) || vb == 0xFF)

/-- A housekeeping channel's field in a housekeeping descriptor (R492): word `w` of block `i`. -/
def hkf (h : Bytes) (i w lo n : Nat) : Nat := fieldOf h (0x40 + 32 * i + 4 * w) lo n

/-- Housekeeping channel `i` may give a group's temperature (R493). -/
def hkTempOk (h : Bytes) (i : Nat) : Bool :=
  hkf h i 0 0 1 == 1 && ([1, 2, 3, 4, 6, 7, 8, 9].contains (hkf h i 1 6 4) || (hkf h i 1 6 4 == 5 && hkf h i 1 24 1 == 1))
/-- Housekeeping channel `i` may sense a bias rail (R493). -/
def hkVbiasOk (h : Bytes) (i : Nat) : Bool :=
  hkf h i 0 0 1 == 1 && [0, 10].contains (hkf h i 1 6 4) && hkf h i 1 0 3 == 0 && hkf h i 1 24 1 == 0

/-- The housekeeping channels that the groups name: HK_TEMP at byte 0x16, HK_VBIAS at 0x17. -/
def hkNamed (d : Bytes) (k : Nat) : List Nat := ((List.range 4).map fun g => byteAt d (0x80 + 32 * g + k)).filter (decide <| · ≤ 15)

/-- The checks of R163. -/
def State.checkRx (s : State) : Option Verdict :=
  let d := s.spart 3
  let h := s.spart 7
  let temps := hkNamed d 0x16
  let rails := hkNamed d 0x17
  let bad (i : Nat) : Bool := (temps.contains i && rails.contains i) || (temps.contains i && !(hkTempOk h i)) || (rails.contains i && !(hkVbiasOk h i))
  firstOf [
    descHead (s.cfg.staged.get 3) 0x0414 0x012C 0x5643524A 0x2110 0x14,
    need (zerosAt d rxRsvd && decide (1 ≤ num d 8 2 ∧ num d 8 2 ≤ 5000) && decide (num d 0x0C 2 < num d 0x0E 2 ∧ num d 0x0E 2 ≤ 6400)
      && decide (16 ≤ num d 0x10 2 ∧ num d 0x10 2 ≤ 1024) && decide (256 ≤ num d 0x12 2)) (fails 0x012D 3),
    ((List.range 513).find? fun c => !(rxChanOk d c)).map fun c => fails 0x012D 3 c,
    need ((List.range 4).all (rxGroupOk d)) (fails 0x012D 3),
    ((List.range 16).find? bad).map fun i => fails 0x012D 3 i]

/-! Part 4: the Thresher descriptor (R194, R195). -/

/-- Reserved bits of the Thresher descriptor. -/
def thrRsvd : List (Nat × Nat) :=
  [(4, 0xFFFF0000), (0x08, 0xFFFFFFFC), (0x0C, 0xFFFF0000)] ++ ((List.range 11).map fun k => (0x14 + 4 * k, 0xFFFFFFFF))
    ++ (List.range 64).flatMap fun p => let o := 0x40 + 32 * p
        [(o, 0xFF000000), (o + 4, 0xFF000000), (o + 12, 0xFFC00000), (o + 16, 0xFFC00000), (o + 20, 0xFFC00000), (o + 24, 0xFF000080), (o + 28, 0xFFFFFFFF)]

/-- A program block in range. -/
def thrProgOk (t : Bytes) (p : Nat) : Bool :=
  let o := 0x40 + 32 * p
  let within (v lo hi : Nat) : Bool := decide (lo ≤ v ∧ v ≤ hi)
  within (byteAt t o) 1 64 && within (byteAt t (o + 1)) 8 64 && decide (1 ≤ byteAt t (o + 4)) && decide (17 ≤ byteAt t (o + 8))
    && decide (byteAt t (o + 8) < byteAt t (o + 9)) && decide (1 ≤ byteAt t (o + 11)) && decide (byteAt t (o + 25) ≤ 64)

/-- The checks of R195. -/
def State.checkThresh (s : State) : Option Verdict :=
  let t := s.spart 4
  let alert := fieldOf t 8 0 1 == 1
  firstOf [
    descHead (s.cfg.staged.get 4) 0x0415 0x012E 0x5248544A 0x840 0x10,
    need (zerosAt t thrRsvd && decide (1 ≤ num t 0x0C 2 ∧ num t 0x0C 2 ≤ 1000)) (fails 0x012F 3),
    ((List.range 64).find? fun p => !(thrProgOk t p)).map fun p => fails 0x012F 3 p,
    entryFails (allEntries (s.cfg.staged.get 1)) 0x012F 3 fun x =>
      let n := eDepth x.e
      ranging x.e && (decide (n < mOf t (eProg x.e) n)
        || (alert && eAlertable x.e && decide (min n 255 < ceilDiv (byteAt t (0x41 + 32 * eProg x.e) * n) 64 + 2)))]

/-! Part 5: the reduction descriptor (R224, R231, R232). -/

/-- Reserved bits of the reduction descriptor. -/
def redRsvd : List (Nat × Nat) :=
  [(4, 0xFFFF0000)] ++ ((List.range 13).map fun k => (0x0C + 4 * k, 0xFFFFFFFF))
    ++ (List.range 64).flatMap fun p => let o := 0x40 + 32 * p
        [(o, 0x000000C0), (o + 4, 0x0000FFE0), (o + 8, 0x0000F800), (o + 12, 0xFFC00000), (o + 16, 0xFFC00000), (o + 20, 0xFFFF0000),
          (o + 24, 0xFFFFFFFF), (o + 28, 0xFFFFFFFF)]

/-- Return limits of programs 0 to 9 (R224), not above 4 on A0 (R232). -/
def State.retLimit (s : State) (p : Nat) : Nat :=
  let l := [4, 4, 8, 8, 1, 2, 4, 4, 0, 4].getD p 0
  if s.isA0 then min l 4 else l
/-- Greatest COARSE_TRY of programs 0 to 9 (R224); program 8 has no range. -/
def tryMost (p : Nat) : Option Nat := [some 32, some 64, some 32, some 32, some 32, some 64, some 32, some 32, none, some 32].getD p none

/-- A program block in range, or all 0 for a program that does not exist. -/
def State.redProgOk (s : State) (r : Bytes) (p : Nat) : Bool :=
  let o := 0x40 + 32 * p
  if !(s.progExists p) then zeroBytes r o 32
  else
    let kmin := fieldOf r o 0 3
    let kmax := fieldOf r o 3 3
    decide (1 ≤ kmin ∧ kmin ≤ kmax ∧ kmax ≤ 4) && (tryMost p).all (fun m => decide (4 ≤ byteAt r (o + 1) ∧ byteAt r (o + 1) ≤ m))
      && decide (1 ≤ num r (o + 6) 2) && decide (fieldOf r (o + 8) 0 4 ≤ s.retLimit p) && decide (1 ≤ fieldOf r (o + 8) 7 3)
      && (fieldOf r (o + 8) 10 1 == 0 || decide (num r (o + 10) 2 ≤ 255))
      && decide (fieldOf r (o + 12) 0 22 ≤ fieldOf r (o + 16) 0 22 ∧ fieldOf r (o + 16) 0 22 ≤ 1498962)
      && (p != 9 || (kmin == 1 && kmax == 1))

/-- The checks of R232. -/
def State.checkRed (s : State) : Option Verdict :=
  let r := s.spart 5
  let b := s.cfg.staged.get 1
  firstOf [
    descHead (s.cfg.staged.get 5) 0x0416 0x0130 0x4445524A 0x840 8,
    need (zerosAt r redRsvd) (fails 0x0131 3),
    ((List.range 64).find? fun p => !(s.redProgOk r p)).map fun p => fails 0x0131 3 p,
    need (decide (100000 ≤ hDCellMin b) || !((allEntries b).any fun x => ranging x.e)) (fails 0x0121 4)]

/-! Part 6: the Gleaner descriptor (R264, R265). -/

/-- Reserved bits of the Gleaner descriptor. -/
def glnRsvd : List (Nat × Nat) :=
  [(4, 0xFFFF0000), (0x0C, 0xFFFF0000)] ++ ((List.range 12).map fun k => (0x10 + 4 * k, 0xFFFFFFFF))
    ++ ((List.range 32).flatMap fun a => let o := 0x40 + 16 * a; [(o, 0xFFC0FE00), (o + 4, 0xFFFFFFFF), (o + 8, 0xFFFFFFFF), (o + 12, 0xFFFFFFFF)])
    ++ ((List.range 16).flatMap fun p => let o := 0x240 + 16 * p; [(o, 0xF800E000), (o + 4, 0x0000FFC0), (o + 8, 0xFFFFFFFF), (o + 12, 0xFFFFFFFF)])
    ++ (List.range 8).map fun f => (0x340 + 64 * f, 0x0000FFE0)

/-- EN of converter `a`. -/
def glnEn (g : Bytes) (a : Nat) : Bool := fieldOf g (0x40 + 16 * a) 16 1 == 1

/-- A profile in range. -/
def profOk (g : Bytes) (p : Nat) : Bool :=
  let o := 0x240 + 16 * p
  let win := fieldOf g o 0 13
  decide (16 ≤ win ∧ win ≤ 4096) && win % 16 == 0 && decide (fieldOf g o 16 11 ≤ min 1024 win) && decide (num g (o + 6) 2 ≤ 16000)

/-- A filter set in range: set 0 all 0, the others with an odd FLEN and no coefficient beyond it. -/
def filtOk (g : Bytes) (f : Nat) : Bool :=
  let o := 0x340 + 64 * f
  let n := fieldOf g o 0 5
  if f = 0 then zeroBytes g o 64 else n % 2 == 1 && zeroBytes g (o + 2 + 2 * n) (62 - 2 * n)

/-- The checks of R265. -/
def State.checkGln (s : State) : Option Verdict :=
  let g := s.spart 6
  let rx := s.spart 3
  let red := s.spart 5
  firstOf [
    descHead (s.cfg.staged.get 6) 0x0417 0x0132 0x4E4C474A 0x540 8,
    need (zerosAt g glnRsvd && decide (100 ≤ num g 0x0C 2 ∧ num g 0x0C 2 ≤ 10000)) (fails 0x0133 3),
    ((List.range 16).find? fun p => !(profOk g p)).map fun p => fails 0x0133 3 p,
    ((List.range 8).find? fun f => !(filtOk g f)).map fun f => fails 0x0133 3 f,
    ((List.range 32).find? fun a => glnEn g a && !(rxEn rx (fieldOf g (0x40 + 16 * a) 0 9))).map fun a => fails 0x0133 3 a,
    (entryFails (allEntries (s.cfg.staged.get 1)) 0x0133 3 fun x =>
      (eCapreq x.e || fieldOf red (0x48 + 32 * eProg x.e) 4 1 == 1) && !(glnEn g x.i)).map fun v => { v with item := v.str }]

/-! Part 7: the housekeeping descriptor (R492, R493). -/

/-- Reserved bits of the housekeeping descriptor. -/
def hkRsvd : List (Nat × Nat) :=
  [(4, 0xFFFF0000)] ++ ((List.range 13).map fun k => (0x0C + 4 * k, 0xFFFFFFFF))
    ++ ((List.range 16).flatMap fun i => let o := 0x40 + 32 * i; [(o, 0xFC000000), (o + 4, 0xFC000000), (o + 12, 0xFFFFFFC0)])
    ++ ((List.range 4).flatMap fun j => let o := 0x240 + 16 * j; [(o, 0x0000F800), (o + 4, 0xFFFF0000)])
    ++ (List.range 8).map fun k => (0x280 + 16 * k, 0xFFFFE000)

/-- The used points of user table `u`, as signed (X, Y). -/
def hkPoints (h : Bytes) (u : Nat) : List (Int × Int) :=
  ((List.range 64).map fun n => let o := 0x300 + 512 * u + 8 * n; (num h o 4, num h (o + 4) 4)).filterMap fun p =>
    if p.1 = 0x7FFFFFFF then none else some (signed 32 p.1, signed 32 p.2)

/-- A user table in range: at least two used points, rising X, unused points with Y = 0. -/
def hkTableOk (h : Bytes) (u : Nat) : Bool :=
  let l := hkPoints h u
  decide (2 ≤ l.length) && (l.zip (l.drop 1)).all (fun x => decide (x.1.1 < x.2.1))
    && (List.range 64).all fun n => let o := 0x300 + 512 * u + 8 * n; num h o 4 != 0x7FFFFFFF || num h (o + 4) 4 == 0

/-- Largest ORDER at a RATE (R473). -/
def orderMost (rate : Nat) : Nat := [1, 1, 3, 4, 4, 4].getD rate 0
/-- Conversion period at a RATE in thirds of a microsecond (R473). -/
def ratePeriod (rate : Nat) : Nat := [60000, 50000, 30000, 12000, 3000, 750].getD rate 0

/-- The range of a curve in 0.001 degC or 0.001 units (R478); a user table's is that of its Y values. -/
def curveSpan (h : Bytes) (curve u : Nat) : Int × Int :=
  match curve with
  | 1 | 2 => (-200000, 850000)
  | 3 => (-60000, 180000)
  | 4 => (-40000, 125000)
  | 6 => (-270000, 1372000)
  | 7 => (-210000, 1200000)
  | 8 => (-270000, 1300000)
  | 9 => (-270000, 400000)
  | 5 => let y := (hkPoints h u).map (·.2)
         (y.foldl min (y.headD 0), y.foldl max (y.headD 0))
  | _ => (-2147483648, 2147483647)

/-- A source code names an enabled channel or an on-die sensor. -/
def hkSrcOk (h : Bytes) (c : Nat) : Bool := decide (32 ≤ c ∧ c ≤ 55) || (decide (c ≤ 15) && hkf h c 0 0 1 == 1)

/-- Threshold `k` of channel `i`: 0 WARN_T to 3 SHUT_T, in 0.1 degC. -/
def hkThr (h : Bytes) (i k : Nat) : Int := signed 16 (hkf h i (6 + k / 2) (16 * (k % 2)) 16)

/-- A channel block in range (R493). -/
def hkChanOk (h : Bytes) (i : Nat) : Bool :=
  let pin (v : Nat) : Bool := decide (v ≤ 15) || v == 31
  let ainp := hkf h i 0 1 5
  let ainn := hkf h i 0 6 5
  let iexa := hkf h i 0 11 5
  let iexb := hkf h i 0 16 5
  let vb := hkf h i 0 21 5
  let iexc := hkf h i 1 0 3
  let lead := hkf h i 1 3 2
  let curve := hkf h i 1 6 4
  let rate := hkf h i 1 10 3
  let cjc := hkf h i 3 0 6
  let u := hkf h i 1 25 1
  let span := curveSpan h curve u
  pin ainp && (pin ainn || ainn == 16) && pin iexa && pin iexb && pin vb && decide (iexc ≤ 6) && lead != 3 && decide (curve ≤ 10)
    && decide (rate ≤ 5) && decide (1 ≤ hkf h i 1 13 3 ∧ hkf h i 1 13 3 ≤ orderMost rate) && decide (hkf h i 1 16 4 ≤ 8) && decide (1 ≤ hkf h i 1 20 4)
    && (decide (cjc ≤ 15) || decide (32 ≤ cjc ∧ cjc ≤ 55) || cjc == 63)
    && (hkf h i 1 5 1 == 0 || (iexc == 0 && decide (rate ≤ 3)))
    && (!(decide (1 ≤ curve ∧ curve ≤ 4)) || iexc != 0)
    && (!(decide (6 ≤ curve ∧ curve ≤ 9)) || (iexc == 0 && (decide (32 ≤ cjc ∧ cjc ≤ 55)
        || (decide (cjc ≤ 15) && hkf h cjc 0 0 1 == 1 && decide (1 ≤ hkf h cjc 1 6 4 ∧ hkf h cjc 1 6 4 ≤ 4)))))
    && (lead != 1 || (iexa == ainp && iexb == ainn && ainp != ainn))
    && (vb == 31 || !([iexa, iexb, ainp].contains vb))
    && (curve != 5 || hkTableOk h u)
    && (hkf h i 1 24 1 == 0 || (decide (1 ≤ curve ∧ curve ≤ 9) && decide (hkThr h i 0 < hkThr h i 1) && decide (hkThr h i 1 < hkThr h i 2)
        && decide (hkThr h i 2 < hkThr h i 3) && decide (span.1 ≤ hkThr h i 3 * 100) && decide (hkThr h i 3 * 100 ≤ span.2)))

/-- A PWM block in range. -/
def hkPwmOk (h : Bytes) (j : Nat) : Bool :=
  let o := 0x240 + 16 * j
  let mode := fieldOf h o 0 3
  let src := fieldOf h o 3 6
  decide (mode ≤ 3) && decide (1 ≤ num h (o + 2) 2 ∧ num h (o + 2) 2 ≤ 10000)
    && (hkSrcOk h src || (src == 63 && decide (mode < 2))) && (decide (mode < 2) || num h (o + 8) 4 != num h (o + 12) 4)

/-- An alert block in range. -/
def hkAlertOk (h : Bytes) (k : Nat) : Bool :=
  let o := 0x280 + 16 * k
  let mode := fieldOf h o 0 3
  let src := fieldOf h o 3 6
  decide (mode ≤ 5) && (mode != 4 || fieldOf h o 10 2 != 0) && (hkSrcOk h src || (src == 63 && (mode == 0 || mode == 4)))

/-- The scan cycle of R475 in thirds of a microsecond. -/
def scanCycle (h : Bytes) : Nat :=
  (((List.range 16).filter fun i => hkf h i 0 0 1 == 1).map fun i => (hkf h i 1 13 3 + hkf h i 1 20 4) * ratePeriod (hkf h i 1 10 3)).sum

/-- The checks of R493. -/
def State.checkHk (s : State) : Option Verdict :=
  let h := s.spart 7
  let temps := hkNamed (s.spart 3) 0x16
  firstOf [
    descHead (s.cfg.staged.get 7) 0x041B 0x0134 0x504B484A 0x700 8,
    need (zerosAt h hkRsvd) (fails 0x0135 3),
    ((List.range 16).find? fun i => !(hkChanOk h i)).map fun i => fails 0x0135 3 i,
    need ((List.range 4).all (hkPwmOk h) && (List.range 8).all (hkAlertOk h)) (fails 0x0135 3),
    need (decide (scanCycle h + 30000 ≤ 300000) || !((List.range 16).any fun i => hkf h i 0 0 1 == 1 && (hkf h i 1 24 1 == 1 || temps.contains i)))
      (fails 0x0135 4)]

/-! Worst-case rates (R310). -/

/-- Bytes that channel-sheaves of TYPEs in `types` of the channels in `blocks` make in one Furrow of variant `v` (R310). -/
def State.furrowBytes (s : State) (v blocks : Nat) (types : List Nat) : Nat :=
  let b := s.cfg.staged.get 1
  let red := s.spart 5
  let alert := fieldOf (s.spart 4) 8 0 1 == 1
  let inBlocks (l : List Nat) : Nat := (l.filter fun c => bit blocks (c / 16)).length
  let per (e : Bytes) : Nat :=
    let o := 0x40 + 32 * eProg e
    let x := b2n (fieldOf red (o + 4) 0 3 != 0)
    let a := b2n (alert && eAlertable e)
    (if types.contains 1 then 48 + 16 * (fieldOf red (o + 8) 0 4 + x + a) else 0) + 48 * a * (b2n (types.contains 2) + b2n (types.contains 3))
  ((List.range (hCells b)).map fun c =>
    let rows := (List.range 32).map fun i => let e := entryAt b v c i; (e, inBlocks (listed (mapRowAt b (eSmap e) i)))
    (rows.map fun x => per x.1 * x.2).sum
      + (if types.contains 1 then 48 * (16 * (bitsOf 32 blocks).length - (rows.map (·.2)).sum) else 0)).sum

/-- The worst-case rate in bytes per second over the present variants, cells at D_CELL_MIN (R310). -/
def State.worstRate (s : State) (blocks : Nat) (types : List Nat) : Rat :=
  let b := s.cfg.staged.get 1
  (maxOf 0 ((variantsOf b).map fun v => s.furrowBytes v blocks types) : Rat) * 40000000000 / (hCells b * hDCellMin b : Nat)

/-- ROLE of the staged Drover descriptor. -/
def State.stagedRole (s : State) : Nat := fieldOf (s.spart 10) 8 16 2

/-- The worst-case host rate of R21; the root adds DOWN_RATE_MB (R432). -/
def State.hostRate (s : State) : Rat :=
  s.worstRate 0xFFFFFFFF [1, 2, 3] + (if s.stagedRole = 1 then (num (s.spart 10) 0x14 4 : Rat) * 1000000 else 0)

/-- The worst-case rate of recorded records of TYPE 1 to 5 (R465). -/
def State.recRate (s : State) : Rat :=
  let o := s.spart 8
  if fieldOf o 0x0C 8 2 = 0 then 0
  else s.worstRate (num o 0x10 4) ([1, 2, 3, 4, 5].filter fun t => fieldOf o 0x0C (t - 1) 1 == 1)

/-! Parts 8, 9 and 10. -/

/-- Reserved words from `a` to 0x3C. -/
def rsvdFrom (a : Nat) : List (Nat × Nat) := (List.range ((0x40 - a) / 4)).map fun k => (a + 4 * k, 0xFFFFFFFF)

/-- The checks of R465 for part 8. -/
def State.checkOut (s : State) : Option Verdict :=
  let o := s.spart 8
  let dest := fieldOf o 0x0C 8 2
  let ratio := fieldOf o 0x0C 10 2
  firstOf [
    descHead (s.cfg.staged.get 8) 0x041C 0x0136 0x54554F4A 0x40 8,
    need (!(s.isAQ && dest % 2 == 1)) (fails 0x0302 3),
    need (zerosAt o ([(4, 0xFFFF0000), (0x0C, 0xFFFF8000)] ++ rsvdFrom 0x14) && (ratio == 1 || ratio == 2)
      && (decide (dest < 2) || s.stagedRole == 2) && (fieldOf o 0x0C 13 2 == 0 || s.stagedRole == 1)) (fails 0x0137 4)]

/-- The checks of R465 for part 9. -/
def State.checkSilo (s : State) : Option Verdict :=
  let d := s.spart 9
  let o := s.spart 8
  let dest := fieldOf o 0x0C 8 2
  let k : Rat := if fieldOf o 0x0C 10 2 = 1 then 2 else 4
  let stream := num d 0x0C 4
  let drover := num d 0x10 4
  let record := num d 0x14 4
  let wave := byteAt d 0x1C
  let dump := byteAt d 0x1D
  firstOf [
    descHead (s.cfg.staged.get 9) 0x041D 0x0138 0x4F4C534A 0x40 8,
    need (zerosAt d ([(4, 0xFFFF0000), (0x1C, 0xFFFF0000)] ++ rsvdFrom 0x20) && decide (256 ≤ stream)
      && (if s.stagedRole = 0 then drover == 0 else decide (256 ≤ drover)) && (if dest = 0 then record == 0 else decide (256 ≤ record))
      && decide (20 ≤ wave ∧ wave ≤ 90) && decide (wave + 5 ≤ dump ∧ dump ≤ 95)
      && decide ((384 + stream + drover + record + num d 0x18 4) * 1048576 ≤ 2 * s.silo.perCh)) (fails 0x0139 3),
    need (decide (2 * s.hostRate + 2 * s.recRate + 2 * s.recRate / k ≤ 40960000000)) (fails 0x0324 4),
    need (dest % 2 == 0 || decide (s.recRate / k ≤ 6000000000)) (fails 0x0325 5)]

/-- Ports of a Drover descriptor with role `r`. -/
def portsOf (d : Bytes) (r : Nat) : Nat := ((List.range 4).filter fun p => fieldOf d (0x40 + 16 * p) 0 3 == r).length

/-- The roles of device and ports agree (R431). -/
def rolesOk (d : Bytes) : Bool :=
  let up := portsOf d 1
  let pri := portsOf d 3
  let sec := portsOf d 4
  match fieldOf d 8 16 2 with
  | 0 => portsOf d 0 == 4
  | 1 => up == 0 && pri == sec && decide (pri ≤ 1)
  | 2 => (up == 1 && pri == 0 && sec == 0) || (up == 0 && pri == 1 && sec == 1)
  | _ => false

/-- The checks of R432. A member's upward-capable port carries its own sheaf records of CLASS_EN and its alert records of ALERT_DROVER
(R194); a status record's rate has no worst case in R310. -/
def State.checkDrover (s : State) : Option Verdict :=
  let d := s.spart 10
  let role := fieldOf d 8 16 2
  let lat := num d 0x10 4
  let types := (if fieldOf d 0x18 0 1 = 1 then [1] else []) ++ (if fieldOf (s.spart 4) 8 1 1 = 1 && !s.isA0 then [2, 3] else [])
  firstOf [
    descHead (s.cfg.staged.get 10) 0x041E 0x013A 0x4F52444A 0x80 0x1C,
    need (zerosAt d ([(4, 0xFFFF0000), (0x08, 0xFFFC0000), (0x0C, 0xFFFF0000), (0x18, 0xFFFFFFE0)] ++ rsvdFrom 0x20
        ++ (List.range 4).flatMap fun p => let o := 0x40 + 16 * p; [(o, 0xFFFFF0F8), (o + 4, 0xFFFF0000), (o + 8, 0xFFFFFFFF), (o + 12, 0xFFFFFFFF)])
      && (List.range 4).all (fun p => decide (fieldOf d (0x40 + 16 * p) 0 3 ≤ 4) && decide (fieldOf d (0x40 + 16 * p) 8 4 ≤ 10))
      && decide (num d 0x14 4 ≤ 12500) && (if role = 1 then decide (1000 ≤ lat ∧ lat ≤ 1000000) else lat == 0)
      && (role == 0 || num d 8 2 != 0xFFFF) && rolesOk d) (fails 0x013B 3),
    need (role != 2 || decide (s.worstRate 0xFFFFFFFF types + (num d 0x14 4 : Rat) * 1000000 ≤ 12500000000)) (fails 0x0323 4)]

/-! VALIDATE as a whole (R381). -/

/-- The checks of parts 1 to 10 in order, each with its part's number; lazily, so that a part is judged only when those before it pass. -/
def State.checkParts (s : State) : Option (Nat × Verdict) :=
  [(1, State.checkSchedule), (2, State.checkDrive), (3, State.checkRx), (4, State.checkThresh), (5, State.checkRed), (6, State.checkGln),
    (7, State.checkHk), (8, State.checkOut), (9, State.checkSilo), (10, State.checkDrover)].findSome? fun x => (x.2 s).map fun v => (x.1, v)

/-- The outcome of VALIDATE on the staged set. -/
structure Judgement where
  /-- STATUS -/
  status : Nat
  /-- RESULT -/
  result : Bytes
  /-- the exact worst-case host rate, when every part passed -/
  rate : Rat
  deriving DecidableEq, Repr

/-- The RESULT of R381. -/
def validateResult (desc : Nat) (v : Verdict) (rateMB cap : Nat) : Bytes :=
  le 4 (pack [(0, desc), (8, v.check), (16, v.variant), (24, v.str)]) ++ le 4 (pack [(0, v.cell), (16, v.item)]) ++ le 4 rateMB ++ le 4 cap

/-- The staged set is judged; `link` tells that a host link is trained, without which the capacity check is omitted (R376, R381). -/
def State.judgeSet (s : State) (link : Bool) : Judgement :=
  match s.checkParts with
  | some (n, v) => ⟨v.status, validateResult n v 0 0, 0⟩
  | none =>
    let rate := s.hostRate
    let mb := (rate / 1000000).ceil.toNat
    let cap := capMB s.link.gen s.link.width
    if link && decide (rate > (cap : Rat) * 1000000) then ⟨0x0320, validateResult 11 (fails 0x0320 1) mb cap, rate⟩
    else ⟨0, validateResult 0 (fails 0 0) mb (if link then cap else 0), rate⟩

/-- The staged set is validated as VALIDATE does it: on success its mark is set and its rate recorded (R22, R381). -/
def State.validateSet (s : State) (link : Bool) : State × Judgement :=
  let j := s.judgeSet link
  let s := { s with cfg := { s.cfg with lastStatus := j.status, validated := s.cfg.validated || j.status == 0 } }
  (if j.status = 0 then { s with link := { s.link with stagedRate := j.rate } } else s, j)

/-- VALIDATE. -/
def bodyValidate : Body := fun _ _ s =>
  let r := s.validateSet (s.link.gen != 0)
  (r.1, some (reply r.2.status r.2.result))

/-- VALIDATE (R381). -/
def execValidate (dt sub : Nat) (s : State) : Host.Outcome State Fault Refusal := runGcs dt 0x0201 sub none s bodyValidate

end Sys2Proof.Machine
end

