-- ==== Sys2Proof/Machine/Curves.lean ====
section
/-! DEFINITION. Linearisation of housekeeping readings: resistance, the sensor curves and their inverses (R471, R478 of 14_housekeeping_thermal). -/

namespace Sys2Proof.Machine

/-- Nominal excitation current in microamperes of an IEXC code (R469, R492). -/
def iexcNom (c : Nat) : Nat := [0, 10, 50, 100, 250, 500, 1000].getD c 0

/-- The greatest number from `lo` to `lo + 2 ^ n - 1` at which `f` is at most `x`; `f` rises. -/
def searchUp (f : Int → Rat) (x : Rat) : Nat → Int → Int
  | 0, lo => lo
  | n + 1, lo =>
    let m := lo + 2 ^ n
    searchUp f x n (if f m ≤ x then m else lo)

/-- Resistance in mOhm of a platinum sensor of `r0` ohms at `t` in 0.001 degC (IEC 60751, R478). -/
def platinum (r0 : Nat) (t : Int) : Rat :=
  let c : Rat := (t : Rat) / 1000
  let low : Rat := if t < 0 then -4183 / 1000000000000000 * (c - 100) * c * c * c else 0
  (r0 : Rat) * 1000 * (1 + 39083 / 10000000 * c - 5775 / 10000000000 * c * c + low)

/-- Resistance in mOhm of a Ni1000 sensor at `t` in 0.001 degC (R478). -/
def nickel (t : Int) : Rat :=
  let c : Rat := (t : Rat) / 1000
  let c2 := c * c
  1000000 * (1 + 5485 / 1000000 * c + 665 / 100000000 * c2 + 2805 / 100000000000000 * c2 * c2 - 2 / 100000000000000000 * c2 * c2 * c2)

/-- The first `n` terms of the exponential series of `x`, from term `k` with value `t`. -/
def expTerms (x : Rat) : Nat → Nat → Rat → Rat
  | 0, _, _ => 0
  | n + 1, k, t => t + expTerms x n (k + 1) (t * x / (k + 1 : Nat))

/-- The exponential of `x`, for |x| below 4: 16 terms of the series of `x`/8, to the eighth power; the relative error is below 10^-16. -/
def expQ (x : Rat) : Rat :=
  let e := expTerms (x / 8) 16 0 1
  let e2 := e * e
  let e4 := e2 * e2
  e4 * e4

/-- The resistance in mOhm of the NTC at `t` in 0.001 degC, negated so that it rises (R478). -/
def thermistor (t : Int) : Rat :=
  let k : Rat := (t : Rat) / 1000 + 5463 / 20
  expQ (3435 * (1 / k - 20 / 5963)) * (-10000000)

/-- The rising function of temperature behind curves 1 to 4, and the reading that stands against it. -/
def curveFn (curve : Nat) (rMohm : Rat) : (Int → Rat) × Rat :=
  match curve with
  | 1 => (platinum 100, rMohm)
  | 2 => (platinum 1000, rMohm)
  | 3 => (nickel, rMohm)
  | _ => (thermistor, -rMohm)

/-- A linearised value: the number, whether it is clamped to the range (OOR), and whether it rests on a free value. -/
structure Lin where
  /-- the value, in the unit of the curve -/
  value : Int
  /-- clamped to the range's end -/
  oor : Bool := false
  /-- a free value was used -/
  freed : Bool := false

/-- Curves 1 to 4: the inverse of the curve, within the residual error of 0.01 degC that R478 allows, which `u` chooses (log 7). -/
def linCurve (curve : Nat) (rMohm : Rat) (u : Nat) : Lin :=
  let span := curveSpan [] curve 0
  let fx := curveFn curve rMohm
  if fx.2 < fx.1 span.1 then ⟨span.1, true, false⟩
  else if fx.2 > fx.1 span.2 then ⟨span.2, true, false⟩
  else ⟨max span.1 (min span.2 (searchUp fx.1 fx.2 21 span.1 - 9 + (u % 20 : Nat))), false, true⟩

/-- Curves 6 to 9: the inverse of the reference function at E = V + E(T_cj), in microvolts and degrees Celsius (R478). -/
def linThermo (curve : Nat) (uV tcj : Rat) : Lin :=
  let span := curveSpan [] curve 0
  let e := uV + Config.emf curve tcj
  if e < Config.emf curve ((span.1 : Rat) / 1000) then ⟨span.1, true, false⟩
  else if e > Config.emf curve ((span.2 : Rat) / 1000) then ⟨span.2, true, false⟩
  else ⟨max span.1 (min span.2 (Config.sensorCurve curve e)), false, false⟩

/-- Interpolation of `x` in a user table, clamped at its ends (R478). -/
def linTable (x : Rat) : List (Int × Int) → Lin
  | [] => ⟨0, true, false⟩
  | [p] => ⟨p.2, decide (x > p.1), false⟩
  | p :: q :: rest =>
    if x < p.1 then ⟨p.2, true, false⟩
    else if x ≤ q.1 then ⟨roundQ ((p.2 : Rat) + ((q.2 : Rat) - p.2) * (x - p.1) / ((q.1 : Rat) - p.1)), false, false⟩
    else linTable x (q :: rest)

/-- Curve 10, `v` in 0.1 microvolts: a result beyond 32 bits is not stated, and is the free number `u` (R478, log 7). -/
def linScaled (scale offset : Int) (v : Rat) (u : Nat) : Lin :=
  let y := roundQ ((scale : Rat) * v / 65536) + offset
  if -2147483648 ≤ y ∧ y ≤ 2147483647 then ⟨y, false, false⟩ else ⟨signed 32 u, false, true⟩

end Sys2Proof.Machine
end

