-- ==== Sys2Proof/Machine/Hk.lean ====
section
/-! DEFINITION. Housekeeping and thermal management: the scan, results, outputs, thermal levels, the shutdown and the restart
(R468 to R496 of 14_housekeeping_thermal). -/

namespace Sys2Proof.Machine

/-! Fields of the housekeeping descriptor in force (R492). -/

/-- A field of channel `i`'s block: word `w`, from bit `lo`, `n` bits. -/
def State.hkF (s : State) (i w lo n : Nat) : Nat := hkf s.hk.cfg i w lo n
/-- Channel `i` is scanned. -/
def State.hkEn (s : State) (i : Nat) : Bool := s.hkF i 0 0 1 == 1
/-- Channel `i` has the thermal role. -/
def State.hkRole (s : State) (i : Nat) : Bool := s.hkEn i && s.hkF i 1 24 1 == 1
/-- Threshold `k` of channel `i` (0 WARN_T to 3 SHUT_T) in 0.001 degC. -/
def State.hkLimit (s : State) (i k : Nat) : Int := hkThr s.hk.cfg i k * 100
/-- The enabled channel that the scan visits after `i`, wrapping (R475). -/
def State.nextVisit (s : State) (i : Nat) : Nat :=
  let l := (List.range 16).filter s.hkEn
  match l.find? fun c => decide (c > i) with
  | some c => c
  | none => l.headD 0
/-- Every channel with the thermal role is armed (R487). -/
def State.hkArmed (s : State) : Bool := (List.range 16).all fun i => !(s.hkRole i) || (s.hk.chans.get i).armed

/-! Sources of the thermal levels (R481, R486, R487): 0 to 15 a channel, 32 to 55 an on-die sensor. -/

/-- The sources that count: every on-die sensor, and every armed thermal-role channel. -/
def State.heatSources (s : State) : List Nat :=
  ((List.range 16).filter fun i => s.hkRole i && (s.hk.chans.get i).armed) ++ (List.range 24).map (· + 32)
/-- The entry threshold of level `k` + 1 of a source in 0.001 degC; `k` 3 is the shutdown (R486). -/
def State.heatLimit (s : State) (src k : Nat) : Rat := if src < 32 then s.hkLimit src k else [125000, 128000, 131000, 135000].getD k 0
/-- The reading of a source in 0.001 degC; an OPEN channel stands at its SHUT_T (R481). -/
def State.heatReading (s : State) (src : Nat) : Rat :=
  if src < 32 then
    let c := s.hk.chans.get src
    if c.isOpen then s.hkLimit src 3 else c.value
  else ((s.hk.sensors.get (src - 32)).value : Rat) * 125 / 2
/-- The level that a source's reading reaches. -/
def State.heatLevel (s : State) (src : Nat) : Nat := ((List.range 3).filter fun k => decide (s.heatReading src ≥ s.heatLimit src k)).length
/-- HOT: the source with the highest level, or the highest reading among those at that level; the lowest code of equals (R495). -/
def State.hottest (s : State) : Nat :=
  (s.heatSources.foldl (fun (b : Nat × Nat × Rat) c =>
    let l := s.heatLevel c
    let v := s.heatReading c
    if l > b.2.1 || (l == b.2.1 && v > b.2.2) then (c, l, v) else b) (let h := s.heatSources.headD 32; (h, s.heatLevel h, s.heatReading h))).1
/-- KIND and OBJ of a source in an error record (R518). -/
def heatObj (src : Nat) : Nat × Nat := if src < 32 then (7, src) else (8, src - 32)

/-! The outputs (R482, R483). -/

/-- The value of a source in its units, if it has one, and whether it is OPEN: a channel's current result, an on-die sensor in 0.001 degC. -/
def State.srcValue (s : State) (src : Nat) : Option Rat × Bool :=
  if src < 16 then
    let c := s.hk.chans.get src
    (if c.valid && !c.isOpen then some c.value else none, c.isOpen)
  else if 32 ≤ src ∧ src < 56 then (some (((s.hk.sensors.get (src - 32)).value : Rat) * 125 / 2), false)
  else (none, false)

/-- A fraction held between 0 and 1. -/
def clamp01 (q : Rat) : Rat := max 0 (min 1 q)

/-- Duty (before POL) and frequency of PWM output `j`; a source without a current result leaves them as they were (log 53). -/
def State.pwmNext (s : State) (j : Nat) : Rat × Rat :=
  let o := 0x240 + 16 * j
  let h := s.hk.cfg
  let freq : Rat := (num h (o + 2) 2 * 10 : Nat)
  let v := s.srcValue (fieldOf h o 3 6)
  let x0 := signed 32 (num h (o + 8) 4)
  let x1 := signed 32 (num h (o + 12) 4)
  let frac : Option Rat := if v.2 then some (if fieldOf h o 10 1 = 1 then 1 else 0) else v.1.map fun x => clamp01 ((x - x0) / ((x1 : Rat) - x0))
  let old := (s.hk.pwm.getD j 0, s.hk.pwmHz.getD j 0)
  match fieldOf h o 0 3 with
  | 1 => ((num h (o + 4) 2 : Rat) / 65536, freq)
  | 2 => match frac with | some f => (f, freq) | none => old
  | 3 => match frac with | some f => if freq * f < 1 then (0, 0) else (1 / 2, freq * f) | none => old
  | _ => (0, 0)

/-- Alert output `k` after an evaluation (R483). -/
def State.alertNext (s : State) (k : Nat) : Bool :=
  let o := 0x280 + 16 * k
  let h := s.hk.cfg
  let was := s.hk.alert.getD k false
  let v := s.srcValue (fieldOf h o 3 6)
  let hi : Rat := signed 32 (num h (o + 4) 4)
  let lo : Rat := signed 32 (num h (o + 8) 4)
  let hyst : Rat := num h (o + 12) 4
  let mode := fieldOf h o 0 3
  let judge (on off : Rat → Bool) : Bool :=
    if v.2 then (if fieldOf h o 12 1 = 1 then true else was)
    else match v.1 with
      | none => was
      | some x => if on x then true else if off x then false else was
  match mode with
  | 1 => judge (fun x => decide (x > hi)) fun x => decide (x < hi - hyst)
  | 2 => judge (fun x => decide (x < lo)) fun x => decide (x > lo + hyst)
  | 3 => judge (fun x => decide (x > hi) || decide (x < lo)) fun x => decide (lo + hyst < x) && decide (x < hi - hyst)
  | 4 => decide (s.hk.level ≥ fieldOf h o 10 2)
  | 5 => v.2
  | _ => false

/-- Counts of the 24 MHz counter for a duty and a frequency: high, and in a period, each to the nearest count (R482, log 53). -/
def pwmCounts (duty hz : Rat) : Nat × Nat :=
  if hz = 0 then (0, 0) else let n := (roundQ (24000000 / hz)).toNat; ((roundQ (duty * n)).toNat, n)

/-- PWM and alert outputs follow the current results, through POL (R470, R482, R483). -/
def State.hkOutputs (s : State) : State :=
  if !s.hk.applied then s else
  let p := (List.range 4).map s.pwmNext
  let alert := (List.range 8).map s.alertNext
  { s with hk := { s.hk with
      pwm := p.map (·.1), pwmHz := p.map (·.2), pwmCnt := p.map fun x => pwmCounts x.1 x.2, alert := alert
      pwmInv := BitVec.ofNat 4 (maskOf 4 fun j => fieldOf s.hk.cfg (0x240 + 16 * j) 9 1 == 1)
      alertPin := BitVec.ofNat 8 (maskOf 8 fun k => alert.getD k false != (fieldOf s.hk.cfg (0x280 + 16 * k) 9 1 == 1)) } }

/-- A pin code as an HK pin. -/
def hkPin (code : Nat) : Option Nat := if code < 16 then some code else none

/-- The crosspoint drives its pins (R470, R475, R479): VBIAS on every pin that an enabled channel names, excitation and the burn-out current of the
channel visited. -/
def State.hkDrive (s : State) : State :=
  if !s.hk.applied then s else
  let v := s.hk.visit
  let on (b : Bool) (pin : Nat) : Option Nat := if b && s.hkEn v then hkPin pin else none
  { s with hk := { s.hk with
      vbias := BitVec.ofNat 16 (maskOf 16 fun p => (List.range 16).any fun i => s.hkEn i && s.hkF i 0 21 5 == p)
      excA := on (s.hkF v 1 0 3 != 0) (s.hkF v 0 11 5), excB := on (s.hkF v 1 0 3 != 0) (s.hkF v 0 16 5)
      burn := on (s.hkF v 1 5 1 == 1) (s.hkF v 0 1 5) } }

/-! Levels, the trip and the restart. -/

/-- The levels held until an instant less than 1 ms ago, newest first, with the present one as it ends now: as far back as R71 and R234 look. -/
def State.keepLevel (s : State) : List (Nat × Nat) := (s.now, s.hk.level) :: s.hk.levelLog.filter fun x => decide (s.now < x.1 + ms 1)

/-- The level becomes `l`: THERM_N, PF0 vector 10, the Steward clock, and the record that names the hottest source (R486, R488). -/
def State.setLevel (s : State) (l : Nat) (code : Nat) : State :=
  let src := s.hottest
  let o := heatObj src
  let s := { s with hk := { s.hk with level := l, levelLog := s.keepLevel, stwMHz := if l ≥ 2 then 400 else 800 }, pins := { s.pins with thermN := decide (l = 0) } }
  (s.post code o.1 o.2 [l, twos 32 (roundQ (s.heatReading src))]).raise 0 10

/-- Since when every source has read below the threshold of each level less 3 degC (R486). -/
def State.belowNext (s : State) : List (Option Nat) :=
  (List.range 3).map fun k =>
    if s.heatSources.all fun c => decide (s.heatReading c < s.heatLimit c k - 3000) then
      match s.hk.belowSince.getD k none with
      | some t => some t
      | none => some s.now
    else none

/-- Both restart conditions hold (R491). -/
def State.coolNow (s : State) : Bool :=
  ((List.range 24).all fun i => decide ((s.hk.sensors.get i).value ≤ 115 * 16))
    && (List.range 16).all fun i =>
      let c := s.hk.chans.get i
      !(s.hkRole i && c.armed) || c.isOpen || decide (c.value ≤ s.hkLimit i 3 - 20000)

/-- The shutdown trip on source `src` (R27, R152, R193, R489, R490). -/
def State.trip (s : State) (src : Nat) : State :=
  let isOpen := src < 32 && (s.hk.chans.get src).isOpen
  let w := nextWord s.dev.word 8 0x6004
  let t := s.cutPulses.afterReset true true true
  let t := t.setWord w
  { t with
    pins := { t.pins with thermN := false, fireGate := true }
    hk := { t.hk with trips := satInc 65535 t.hk.trips, tripSrc := src, tripOpen := isOpen, tripAt := t.now, tripRec := true, coolSince := none, frozen := false } }

/-- The levels, the trip and the restart clock are judged after a reading (R486, R489, R491): tripping in BOOT to SAFE, the clock in THERMAL_OFF. -/
def State.judgeHeat (s : State) : State :=
  if s.isIn [2, 3, 4, 5, 6, 7] then
    match s.heatSources.find? fun c => decide (s.heatReading c ≥ s.heatLimit c 3) with
    | some c => s.trip c
    | none =>
      let top := s.heatLevel s.hottest
      let s := if top > s.hk.level then s.setLevel top 0x6002 else s
      { s with hk := { s.hk with belowSince := s.belowNext } }
  else if s.code = 8 then
    { s with hk := { s.hk with coolSince := if s.coolNow then (match s.hk.coolSince with | some t => some t | none => some s.now) else none } }
  else s

/-- ONDIE_SENSOR_SAMPLE: the readings of TS00 to TS23 in 0.0625 degC, and the mask of the sensors whose converter has found its diode open or
shorted, which read 150.000 degC (R484, R485). -/
def execOndieSensorSample (dt : Nat) (temps : List Int) (failed : Nat) (s : State) : Host.Outcome State Fault Refusal := run dt s fun t =>
  if t.isIn [0, 1] then t
  else
    let t := t.each (List.range 24) fun i u =>
      let bad := bit failed i
      let v : Int := if bad then 2400 else temps.getD i 0
      { u with hk := { u.hk with sensors := u.hk.sensors.upd i fun q =>
          { value := v, failed := bad, seen := true, min := if q.seen then min q.min v else v, max := if q.seen then max q.max v else v } } }
    (t.judgeHeat).hkOutputs

/-- THERMAL_FALL: every source has read below the present level's threshold less 3 degC for 100 ms; the level falls by one (R486). -/
def execThermalFall (dt : Nat) (s : State) : Host.Outcome State Fault Refusal := run dt s fun t =>
  if !(t.isIn [2, 3, 4, 5, 6, 7]) || t.hk.level = 0 then t
  else match t.hk.belowSince.getD (t.hk.level - 1) none with
    | some b => if t.now ≥ b + ms 100 then (t.setLevel (t.hk.level - 1) 0x6003).hkOutputs else t
    | none => t

/-- THERMAL_SHUTDOWN_RESET: 2 ms after the trip the flash clock is removed and the pairs and DDR5 are held in reset (R489). -/
def execThermalShutdownReset (dt : Nat) (s : State) : Host.Outcome State Fault Refusal := run dt s fun t =>
  if t.code = 8 && t.now ≥ t.hk.tripAt + ms 2 then { t with hk := { t.hk with frozen := true } } else t

/-- THERMAL_RESTART: the restart conditions have held for 1 s; the device enters BOOT at stage 0x02, without RESET (R84, R491, R527, R544). -/
def execThermalRestart (dt : Nat) (s : State) : Host.Outcome State Fault Refusal := run dt s fun t =>
  match t.code, t.hk.coolSince with
  | 8, some c =>
    if t.now < c + sec 1 then t
    else
      let level := t.hk.level
      let unarm (h : HkChan) : HkChan := { h with armed := false, valid := false, isOpen := false, tag := 0 }
      let t := { t with
        hk := { t.hk with
          level := 0, levelLog := t.keepLevel, stwMHz := 800, belowSince := [none, none, none], coolSince := none, frozen := false
          chans := { t.hk.chans with cells := t.hk.chans.cells.map fun (x : Nat × HkChan) => (x.1, unarm x.2) } }
        pins := { t.pins with thermN := true } }
      let t := if level = 0 then t else t.raise 0 10
      (t.guardClear).enterBoot 5 2
  | _, _ => t

/-! Results (R471 to R481). -/

/-- The voltage in microvolts of a code at gain `g`, corrected by the last calibration slot (R472, R476; log 54). -/
def State.hkVolts (s : State) (code : Int) (g : Nat) : Rat := ((code : Rat) * 1250000 / 8388608 / (2 ^ g : Nat) - s.hk.ofs) / s.hk.gainErr

/-- The resistance in mOhm of a reading (R471). -/
def State.hkOhms (s : State) (i : Nat) (v : Rat) : Rat :=
  let r := v * 1000 / (iexcNom (s.hkF i 1 0 3) * s.hk.iA)
  if s.hkF i 1 3 2 = 2 then r - s.hkF i 2 0 32 else r

/-- The temperature in degrees Celsius of channel `i`'s cold-junction source, and whether it is invalid (R478). -/
def State.hkCjc (s : State) (i : Nat) : Rat × Bool :=
  let src := s.hkF i 3 0 6
  if src < 16 then
    let c := s.hk.chans.get src
    if c.valid && !c.isOpen then ((c.value : Rat) / 1000, false)
    else (match c.lastGood with | some v => (v : Rat) / 1000 | none => 25, true)
  else (s.sensorT (src - 32), false)

/-- The linearised value of a reading of channel `i` at gain `g`, and CJC_INVALID (R478); `u` is a free number. -/
def State.linearise (s : State) (i : Nat) (code : Int) (g u : Nat) : Lin × Bool :=
  let v := s.hkVolts code g
  let curve := s.hkF i 1 6 4
  let fs : Int := 12500000 / (2 ^ g : Nat)
  if curve = 0 then
    let x := roundQ (v * 10)
    (⟨max (-fs) (min fs x), decide (x < -fs) || decide (x > fs), false⟩, false)
  else if curve ≤ 4 then (linCurve curve (s.hkOhms i v) u, false)
  else if curve = 5 then (linTable (if s.hkF i 1 0 3 = 0 then v * 10 else s.hkOhms i v) (hkPoints s.hk.cfg (s.hkF i 1 25 1)), false)
  else if curve ≤ 9 then
    let cj := s.hkCjc i
    (linThermo curve (if s.hkF i 1 5 1 = 1 then v - (s.hkF i 2 0 32 : Rat) / 250 else v) cj.1, cj.2)
  else (linScaled (signed 32 (s.hkF i 4 0 32)) (signed 32 (s.hkF i 5 0 32)) (v * 10) u, false)

/-- Full scale in nanovolts at gain code `g` (R472). -/
def hadcFull (g : Nat) : Rat := 1250000000 / (2 ^ g : Nat)
/-- The 24-bit code of a converter input at gain code `g`, clamped to the codes there are, and whether it overloads the modulator (R472, R474). -/
def hadcCode (nv : Int) (g : Nat) : Int × Bool :=
  let c := roundQ ((nv : Rat) / hadcFull g * 8388608)
  (max (-8388608) (min 8388607 c), decide ((nv.natAbs : Rat) > hadcFull g))

/-- A fault detector is tripped within the period (R468, R479): an excitation pin leaves 0 V to 1.50 V, or AIN+ under burn-out exceeds 1.50 V. -/
def State.hkTripped (s : State) (m : HadcIn) : Bool :=
  let outside (x : Int × Int) : Bool := decide (x.1 < 0) || decide (x.2 > 1500000)
  (s.hk.excA.isSome && outside m.excA) || (s.hk.excB.isSome && outside m.excB) || (s.hk.burn.isSome && decide (m.ainMax > 1500000))

/-- The conversion period of channel `i` in ticks (R473). -/
def State.hkPeriod (s : State) (i : Nat) : Nat := [ms 20, 85333333, ms 10, ms 4, ms 1, us 250].getD (s.hkF i 1 10 3) 0
/-- A conversion of channel `i` can have ended: its period has passed on the HK clock, which runs within 2 % (R25, R473). -/
def State.hkDue (s : State) (i : Nat) : Bool := decide ((s.now - s.hk.convAt) * 100 ≥ s.hkPeriod i * 98)

/-- The gain after a result (R474): the code in force, and whether it has stepped. -/
def gainAfter (auto : Bool) (c : HkChan) (code : Int) (sat settled : Bool) : HkChan :=
  let big := sat || decide (code.natAbs * 10 ≥ 9 * 8388608)
  let small := decide (code.natAbs * 10 < 4 * 8388608)
  if !auto then c
  else if big then
    if c.gain = 0 then { c with lowRun := 0 } else { c with gain := c.gain - 1, lowRun := 0, since := 0, steps := c.steps + 1 }
  else if settled && small then
    if c.lowRun = 1 && c.gain < 7 then { c with gain := c.gain + 1, lowRun := 0, since := 0, steps := c.steps + 1 }
    else { c with lowRun := 1 }
  else if settled then { c with lowRun := 0 }
  else c

/-- One result of channel `i` (R473, R474, R477 to R480, R487): it may become the current result, arm the channel and post HK_OPEN. -/
def State.hkResult (s : State) (i : Nat) (m : HadcIn) : State :=
  let order := s.hkF i 1 13 3
  let auto := s.hkF i 1 16 4 == 8
  let c := s.hk.chans.get i
  let g := if auto then c.gain else s.hkF i 1 16 4
  let code := (hadcCode m.nv g).1
  let sat := (hadcCode m.nv g).2
  let settled := decide (c.since ≥ order)
  let trip := s.hkTripped m
  let isOpen := trip || c.tripRun > 0
  let lin := s.linearise i code g (freeNat s)
  let s := if lin.1.freed then s.useFree else s
  let takes := isOpen || settled
  let armed := c.armed || (s.hkF i 1 24 1 == 1 && settled && !isOpen)
  let seqNo := (c.seqNo + 1) % 65536
  let tag := pack [(0, g), (3, b2n settled), (4, b2n isOpen), (5, b2n (sat && g == 0)), (6, b2n lin.1.oor), (7, b2n lin.2), (8, b2n armed), (16, seqNo)]
  let c1 := { c with seqNo := seqNo, since := min 255 (c.since + 1), tripRun := if trip then order else c.tripRun - 1, armed := armed, gain := g }
  let c2 := if takes then { c1 with value := lin.1.value, tag := BitVec.ofNat 32 tag, valid := true, isOpen := isOpen, time := s.deviceTime } else c1
  let c3 := if takes && !isOpen then { c2 with lastGood := some lin.1.value } else c2
  let opened := isOpen && !c.isOpen
  let s := s.mapHk i fun _ => gainAfter auto { c3 with opens := c.opens + b2n opened } code sat settled
  if opened && s.code != 8 then s.post 0x6001 7 i else s

/-- The visit goes on, or ends and the next channel's begins with the filter reset; a lone channel keeps converting (R475). -/
def State.hkAdvance (s : State) (i : Nat) : State :=
  let n := s.hk.inVisit + 1
  if n < s.hkF i 1 13 3 + s.hkF i 1 20 4 then { s with hk := { s.hk with inVisit := n } }
  else
    let k := s.nextVisit i
    let s := { s with hk := { s.hk with visit := k, inVisit := 0 } }
    if k = i then s else s.mapHk k fun c => { c with since := 0, tripRun := 0 }

/-- HADC_RESULT: a conversion of the visited channel `ch` ends; `m` is what the converter and the fault detectors met in its period (R471 to R483, R486 to
R489). -/
def execHadcResult (dt ch : Nat) (m : HadcIn) (s : State) : Host.Outcome State Fault Refusal := run dt s fun t =>
  if !t.hk.applied || ch != t.hk.visit || !(t.hkEn ch) || !(t.hkDue ch) then t
  else
    let u := (t.hkResult ch m).hkAdvance ch
    (({ u with hk := { u.hk with convAt := u.now } }.hkDrive).judgeHeat).hkOutputs

/-- HADC_CAL_SLOT: between two visits, 60 s after the last, the converter measures its offset in microvolts, its gain, and both sources relative to
their nominal current (R469, R476). -/
def execHadcCalSlot (dt : Nat) (meas : List Rat) (s : State) : Host.Outcome State Fault Refusal := run dt s fun t =>
  if !t.hk.applied || t.hk.inVisit != 0 || t.now < t.hk.calAt + sec 60 then t
  else
    let u := { t with hk := { t.hk with
      calAt := t.now, convAt := t.now, calSlot := t.deviceTime, ofs := meas.getD 0 0, gainErr := meas.getD 1 1, iA := meas.getD 2 1, iB := meas.getD 3 1 } }
    u.mapHk u.hk.visit fun c => { c with since := 0, tripRun := 0 }

/-- A housekeeping descriptor takes effect at an apply boundary (R477, R487, R494); one that is in force already changes nothing. -/
def State.hkApply (s : State) : State :=
  let new := s.part 7
  if new.isEmpty || (s.hk.applied && s.hk.cfg == new) then s
  else
    let old := s.hk.cfg
    let fresh := !s.hk.applied
    let s := { s with hk := { s.hk with cfg := new, applied := true, convAt := s.now, calAt := if fresh then s.now else s.hk.calAt } }
    let s := s.each (List.range 16) fun i t =>
      if fresh || slice old (0x40 + 32 * i) 32 != slice new (0x40 + 32 * i) 32 then
        t.mapHk i fun c => { c with valid := false, isOpen := false, armed := false, tag := 0, since := 0, tripRun := 0, lowRun := 0 }
      else t.mapHk i fun c => { c with since := 0, tripRun := 0, lowRun := 0 }
    let s := { s with hk := { s.hk with visit := ((List.range 16).find? s.hkEn).getD 0, inVisit := 0 } }
    ((s.hkDrive).judgeHeat).hkOutputs

/-! Commands. -/

/-- HK_STATUS (R364, R492; log 17): 40 blocks of one length; a sensor's block ends with zeros. -/
def bodyHkStatus : Body := answer fun _ s =>
  let chans := (List.range 16).map fun i =>
    let c := s.hk.chans.get i
    [twos 32 c.value, c.tag.toNat] ++ two c.time.toNat ++ [sat32 c.opens, sat32 c.steps]
  let mC (v : Int) : Nat := twos 32 (roundQ ((v : Rat) * 125 / 2))
  let sens := (List.range 24).map fun i =>
    let q := s.hk.sensors.get i
    [mC q.value, 16 * b2n q.failed, mC q.min, mC q.max, 0, 0]
  replyWith (response 0x0902 ([((scanCycle s.hk.cfg + 2) / 3)] ++ two s.hk.calSlot.toNat ++ s.hk.pwm.map (fun d => roundCap 65535 (d * 65536))
    ++ [s.hk.alertPin.toNat]) (chans ++ sens))

/-- THERMAL_STATUS (R495). -/
def bodyThermalStatus : Body := answer fun _ s =>
  let h := s.hottest
  reply 0 (le 4 (pack [(0, s.hk.level), (8, h)]) ++ le 4 (twos 32 (roundQ (s.heatReading h)))
    ++ le 4 (pack [(0, s.hk.trips), (16, s.hk.tripSrc), (22, b2n s.hk.tripOpen)]) ++ le 4 0)

/-- HK_STATUS (R492). -/
def execHkStatus (dt sub : Nat) (s : State) : Host.Outcome State Fault Refusal := run dt s fun t => t.gcs 0x0902 sub none bodyHkStatus
/-- THERMAL_STATUS (R495). -/
def execThermalStatus (dt sub : Nat) (s : State) : Host.Outcome State Fault Refusal := run dt s fun t => t.gcs 0x0903 sub none bodyThermalStatus

end Sys2Proof.Machine
end

