-- ==== Sys2Proof/Machine/Apply.lean ====
section
/-! DEFINITION. What an APPLY changes at its boundary, the schedule variant and the code plan (R50 to R52, R70 to R72, R85, R106, R113, R196,
R233, R266, R379 to R383, R421, R422, R433, R466, R494). -/

namespace Sys2Proof.Machine

/-! The code plan (R49 to R52, R422). -/

/-- Every string takes its seed of a plan (R50). -/
def State.seedAll (s : State) (base : BitVec 31) (stride : Nat) : State :=
  s.each (List.range 32) fun i t =>
    let x := planSeed base stride s.devId i
    t.mapStr i fun q => { q with lfsr := x, seed := x, seedC := ~~~ x, seedBad := false, seedSteps := 0 }

/-- A plan's epoch takes effect (R50, R52). -/
def State.adopt (s : State) (p : PlanSt) (domain : Bool) : State :=
  let t := s.seedAll p.base p.stride
  { t with seq := { t.seq with planBase := p.base, planStride := p.stride, planEpoch := p.epoch, planDomain := domain, seeded := true } }

/-- The plan of the active schedule header, always epoch 0 (R60). -/
def State.headerPlan (s : State) : PlanSt := { base := BitVec.ofNat 31 (hPlanBase s.sched), stride := hPlanStride s.sched, epoch := 0, act := 0 }

/-- Step 4 of R549: an epoch whose activation has passed is adopted; a member admitted since takes the domain's plan in force; a device that has no
seeds yet, or belongs to no domain any more, takes its header plan (R51, R52, R422). A root's header plan, at epoch 0, becomes the domain plan at its first
boundary as root. A plan whose complement fails is not adopted (R421). -/
def State.adoptPlans (s : State) : State :=
  let s := if s.role == 1 && s.drover.domPlan.isNone then s.setDomPlan s.headerPlan else s
  let d := s.drover
  if s.belongs then
    let due := d.pendPlan.filter fun p => planOk p d.pendPlanC && decide (p.act.toNat ≤ s.deviceTime.toNat)
    match due with
    | some p =>
      let t := (s.adopt p true).setDomPlan p
      { t with drover := { t.drover with pendPlan := none, pendPlanC := none, reseedDue := false } }
    | none =>
      match d.domPlan.filter (fun p => planOk p d.domPlanC && (d.reseedDue || (!s.seq.seeded && s.role == 1))) with
      | some p => let t := s.adopt p true; { t with drover := { t.drover with reseedDue := false } }
      | none => if s.seq.seeded then s else s.adopt s.headerPlan false
  else if !s.seq.seeded || s.seq.planDomain then s.adopt s.headerPlan false
  else s

/-! The schedule variant (R70 to R72). -/

/-- The thermal level sampled 1 us before the boundary (R71): the oldest of the levels that have ended since then, else the present one. -/
def State.levelSample (s : State) : Nat := (((s.hk.levelLog.filter fun x => decide (s.now < x.1 + us 1)).getLast?).map (·.2)).getD s.hk.level

/-- The ageing variant to select: the highest one present in the active set from 3 to 2 + L (R509). -/
def State.ageingPick (s : State) : Option Nat :=
  ((List.range 8).filter fun v => decide (3 ≤ v) && decide (v ≤ 2 + s.cal.level) && bit (hVariants s.sched) v).getLast?

/-- The selection follows the level and the active set; a change posts AGEING_VARIANT (R509). -/
def State.reselect (s : State) : State :=
  let v := s.ageingPick
  if v = s.seq.ageing then s
  else ({ s with seq := { s.seq with ageing := v } }).post 0x7002 0 0 [s.cal.level, v.getD 0]

/-- Step 3 of R549: the first variant that applies (R70). -/
def State.selectVariant (s : State) : State :=
  let l := s.levelSample
  let v := if l ≥ 3 then 2 else if l = 2 then 1
    else s.seq.ageing.getD 0
  { s with seq := { s.seq with thermAtSample := l, variant := v } }

/-! The swap (R382). -/

/-- String `i` has an entry with EN = 1 in a schedule set (R106). -/
def hasEntry (b : Bytes) (i : Nat) : Bool :=
  (bitsOf 8 (hVariants b)).any fun v => (List.range (hCells b)).any fun c => eEn (entryAt b v c i)

/-- Verification ages follow the new set: a string that it newly enables starts at 0 (R106). -/
def State.applyAges (s : State) : State :=
  s.each (List.range 32) fun i t =>
    let on := hasEntry t.sched i
    if on = (t.str i).aged then t
    else t.mapStr i fun q => { q with aged := on, verAt := if on then t.seq.rangingClk else q.verAt }

/-- Bias groups take their latched STBY_CODE; in HOLD they stand at it (R152, R153). -/
def State.applyBias (s : State) : State :=
  s.each (List.range 4) fun g t =>
    let c := t.grp g 0 0 12
    t.mapGroup g fun q => { q with stby := c, code := if t.code = 3 then c else q.code }

/-- Channels that the receiver descriptor disables are dead with cause DISABLED, and only for as long (R162, R290). -/
def State.applyChannels (s : State) : State :=
  s.each (List.range 513) fun c t =>
    let on := t.chEn c
    let d := (t.ch c).dead
    if on && d = 4 then t.mapCh c fun q => { q with dead := 0 }
    else if !on && d = 0 then t.mapCh c fun q => { q with dead := 4 }
    else t

/-- The converters follow a new Gleaner descriptor (R242, R255, R266): one enabled starts in START; one disabled first reads out what it has
accepted; the others take their rest settings once nothing is captured. -/
def State.applyGleaner (s : State) : State :=
  s.each (List.range 32) fun a t =>
    let g := t.gw.get a
    let on := t.gwBlk a 16 1 == 1
    let n := t.sampleNow + 1
    let ch := t.gwBlk a 0 9
    let f := t.gwBlk a 19 3
    let tune (g : GwState) : GwState := g.tune n ch (t.gwBlk a 17 2) f (t.filtBlk f)
    let busy := g.caps (fun _ => true) != 0
    if g.mode == .dead then t
    else if g.mode == .off then
      if on then t.mapGw a fun g => { g.powerUp n ch (t.gwBlk a 17 2) f (t.filtBlk f) with restCh := ch, calDone := [], calPend := true, rotAt := t.now, dueSince := none, calgap := false }
      else t
    else if !on then
      t.mapGw a fun g => if busy then { g with offPend := true } else { g.powerDown n with testPat := none, restPend := false }
    else t.mapGw a fun g =>
      if busy then { g with restCh := ch, restPend := true, offPend := false } else { (tune g) with restCh := ch, restPend := false, offPend := false }

/-- A new receiver descriptor changes GAIN or LT of a channel that a converter samples: its samples after the change are marked as for a gain change (R164, R251). `old` is
the value image that it replaces. -/
def State.applyTia (s : State) (old : Bytes) : State :=
  s.each (List.range 32) fun a t =>
    let g := t.gw.get a
    let w (f : Nat → Nat → Nat) : Nat × Nat := (f 0 2, f 4 11)
    if g.on && w (fieldOf old (0x100 + 16 * g.ch)) != w (t.chBlk g.ch 0) then t.mapGw a fun g => g.ev (t.sampleNow + 1) .tia 0 else t

/-- What each satellite's share carries (R111). -/
def State.satShares (s : State) : List (Nat × Nat) := (List.range s.satCount).map fun k => (s.satVset k, s.satIlim k)

/-- The drive fields whose change restarts the acquisition: F_NOM, F_SPAN, AMP, DRV_MAX, FAST_SRC (R382). -/
def axisFields (d : Bytes) : List Nat := [num d 0x10 4, num d 0x14 4, num d 0x18 2, fieldOf d 0x0C 0 1]

/-- A running axis is acquired again; in RANGING and DEGRADED its lock is missed until then (R121, R122, R382). -/
def State.applyAxis (s : State) : State :=
  if s.steer.running then
    let t := s.endCells
    let t := if t.steer.locked && t.ranges then t.addReason 1 else t
    t.startAxis 0 true
  else s

/-- The staged set becomes the active set, every part in one engine cycle; parts that are unchanged run on undisturbed. A SATBUS frame follows a
changed share, in HOLD once the device is ARMED (R22, R113, R377, R379, R382). -/
def State.applySwap (s : State) : State :=
  let old := s.cfg.active
  let shares := s.satShares
  let new := s.cfg.staged
  let same (n : Nat) : Bool := old.get n == new.get n
  let half (n : Nat) : Bytes := let b := old.get n; b.take (b.length / 2)
  let t := { s with
    cfg := { s.cfg with active := new, silo := new, validated := false }
    link := { s.link with validatedRate := s.link.stagedRate }
    dev := { s.dev with applied := true, safeLatch := false } }
  let t := { t with rx := { t.rx with chans := { t.rx.chans with cells := t.rx.chans.cells.map fun (c : Nat × ChanState) => (c.1, { c.2 with sheafCount := 0 }) } } }
  let t := if same 1 then t else t.applyAges.applyBudget.reselect
  let t := if axisFields (half 2) == axisFields (t.part 2) then t else t.applyAxis
  let t := if same 3 then t else (t.applyBias.applyChannels).applyTia (half 3)
  let t := if same 6 then t else t.applyGleaner
  let t := t.hkApply
  let t := if same 9 then t else t.siloApply
  let t := if same 10 then t else t.droverApply (half 10)
  let t := if t.role == 1 && t.drover.domPlan.isNone then t.setDomPlan t.headerPlan else t
  if t.satShares == shares || t.code = 3 then t else t.satRefresh

/-- RESULT of an APPLY: the FURROW number and the device time of the boundary (R382). -/
def State.applyReply (s : State) : Completion := reply 0 (le 4 s.seq.furrow ++ le 4 0 ++ le 8 s.deviceTime.toNat)

/-- Steps 3 and 4 of R549. -/
def State.boundaryTail (s : State) : State := s.selectVariant.adoptPlans

/-- An APPLY in HOLD takes effect: the swap, the rest of the boundary, and ARMED; no boot failure holds the device any more (R335, R382, R383, R549). -/
def State.applyInHold (s : State) : State :=
  let t := { s with dev := { s.dev with code := 0 } }.applySwap.boundaryTail.enterArmed
  if t.satShares == s.satShares then t else t.satRefresh

/-- A cell-boundary APPLY that waits takes effect at this cell declaration (R382). -/
def State.applyAtCell (s : State) : State :=
  match s.waiting .applyCell with
  | some e => let t := s.applySwap; t.finish e.sub t.applyReply
  | none => s

end Sys2Proof.Machine
end

