-- ==== Sys2Proof/Machine/Returns.lean ====
section
/-! DEFINITION. From a channel-sheaf's coarse bins and candidate log to its accepted returns (R172 to R180, R207 to R218, R224). -/

namespace Sys2Proof.Machine

/-- A pair of the replay: range in LSB, shot index, number of the candidate in the log, weight (R208). -/
structure RePair where
  /-- range in LSB -/
  r : Nat
  /-- shot index -/
  q : Nat
  /-- candidate -/
  c : Nat
  /-- weight -/
  w : Nat

/-- The replay of a sheaf's log against its fired shots (R205, R208). -/
def Sheaf.replay (h : Sheaf) : List RePair :=
  let log := h.log.reverse
  ((List.range log.length).zip log).flatMap fun x =>
    h.shotF.filterMap fun s =>
      let r := x.2.t + (x.2.refShot - s.2)
      if s.2 ≤ x.2.refShot && r < 640000 && (!h.undith || s.2 == x.2.refShot) then some ⟨r, s.1, x.1, x.2.w⟩ else none

/-- P(b) of R207. -/
def coarseP (h : Tab Nat) (b : Nat) : Nat := h.get b + h.get (b + 1)
/-- Bin b is a coarse peak at floor `tc` (R207). -/
def isCoarse (h : Tab Nat) (tc b : Nat) : Bool :=
  let p := coarseP h b
  p ≥ (if b = 0 then 0 else coarseP h (b - 1)) && p > (if b = 2498 then 0 else coarseP h (b + 1)) && p ≥ tc
/-- The coarse peaks in the order in which they are tried (R207): only bins with weight in reach can be one. -/
def coarsePeaks (h : Tab Nat) (tc : Nat) : List (Nat × Nat) :=
  let near := (h.cells.flatMap fun c => [c.1 - 1, c.1]).eraseDups.filter fun b => decide (b ≤ 2498)
  let l := (near.filter (isCoarse h tc)).map fun b => (b, coarseP h b)
  sortBy (fun x y => decide (x.2 > y.2) || (decide (x.2 = y.2) && decide (x.1 < y.1))) l

/-- The origin of the fine histogram of coarse peak `b`, in 62.5 ps units (R208). -/
def fineOrigin (h : Tab Nat) (b : Nat) : Int :=
  let x := h.get b
  let y := h.get (b + 1)
  ((16 * (x * (4 * b + 2) + y * (4 * b + 6)) / max 1 (x + y) : Nat) : Int) - 64

/-- The pairs in the 8.0 ns from an origin, each with its bin (R208). -/
def finePairs (l : List RePair) (o : Int) : List (Nat × RePair) :=
  l.filterMap fun p =>
    let d := (p.r : Int) - 4 * o
    if 0 ≤ d && d < 512 then some (d.toNat / 4, p) else none
/-- The 128 bins of a fine histogram, saturating (R208). -/
def fineBins (l : List (Nat × RePair)) : List Nat :=
  (List.range 128).map fun i => min 65535 (((l.filter fun x => x.1 == i).map (·.2.w)).sum)
/-- M5(i) (R209). -/
def m5 (g : List Nat) (i : Nat) : Nat := ((g.drop (i - 2)).take 5).sum

/-- The bin in 2 to 125, outside the mask, that maximises M5, the lower on a tie, if it reaches the floor (R209, R211). -/
def finePeak (g : List Nat) (tc : Nat) (mask : Nat → Bool) : Option Nat :=
  let b := ((List.range 124).map (· + 2)).foldl (fun (b : Option Nat) i =>
    if mask i then b else match b with | none => some i | some j => if m5 g i > m5 g j then some i else some j) none
  b.filter fun i => decide (m5 g i ≥ tc)

/-- One kept fine peak (R209 to R213, R218). -/
structure Peak where
  /-- origin of its histogram in 62.5 ps units -/
  o : Int
  /-- that histogram was rebuilt by R210 -/
  moved : Bool
  /-- it is the second peak of its histogram -/
  second : Bool
  /-- the histogram's bins -/
  g : List Nat
  /-- one of them was read with an uncorrectable error and taken as 0 -/
  bad : Bool
  /-- centroid in 62.5 ps units from the instant light leaves -/
  tc : Rat
  /-- W_m -/
  wm : Nat
  /-- shot count S -/
  s : Nat
  /-- rms width squared, ps^2 -/
  var : Rat
  /-- W_c -/
  wc : Nat
  /-- sum of the squared weights in the centroid window -/
  sw2 : Nat
  /-- candidates in the match window with their weight there -/
  cw : List (Nat × Nat)

/-- Weights summed per candidate. -/
def perCand (l : List RePair) : List (Nat × Nat) :=
  (l.map (·.c)).eraseDups.map fun c => (c, ((l.filter fun p => p.c == c).map (·.w)).sum)

/-- The peak at bin `ip` measured: the peak, or the side on which it is an edge peak (true = above) (R209 to R213). -/
def measurePeak (o : Int) (moved second bad : Bool) (full g : List Nat) (l : List (Nat × RePair)) (ip : Nat) : Except Bool Peak :=
  let win := (List.range 128).filter fun i => ip ≤ i + 4 && i ≤ ip + 4
  let wc := (win.map fun i => g.getD i 0).sum
  let mean : Rat := ((win.map fun i => g.getD i 0 * (2 * i + 1)).sum : Rat) / (2 * max 1 wc : Nat)
  let ic := mean.floor.toNat
  if ic < 4 || ic > 123 then .error (decide (ic > 123))
  else
    let v : Rat := ((win.map fun i => (g.getD i 0 : Rat) * ((2 * i + 1 : Nat) / 2 - mean) * ((2 * i + 1 : Nat) / 2 - mean)).sum) / (max 1 wc : Nat)
    let m := (l.filter fun x => ic ≤ x.1 + 2 && x.1 ≤ ic + 2).map (·.2)
    let c := (l.filter fun x => ip ≤ x.1 + 4 && x.1 ≤ ip + 4).map (·.2)
    .ok { o := o, moved := moved, second := second, g := full, bad := bad, tc := (o : Rat) + mean
          wm := (((List.range 5).map fun i => g.getD (ic - 2 + i) 0)).sum
          s := (m.map (·.q)).eraseDups.length, var := max 0 (v - 1 / 12) * 390625 / 100
          wc := wc, sw2 := (c.map fun p => p.w * p.w).sum, cw := perCand m }

/-- Bins with those at `z` taken as 0 (R288). -/
def zeroAt (z : List Nat) (g : List Nat) : List Nat := if z.isEmpty then g else g.zipIdx.map fun x => if z.contains x.2 then 0 else x.1

/-- A fine histogram searched: its kept peaks, and the origins to rebuild (R209 to R211). A rebuilt one asks for no further rebuild. The bins at `z` are read in error. -/
def searchFine (ps : List RePair) (tc : Nat) (two : Bool) (z : List Nat) (o : Int) (moved : Bool) : List Peak × List Int :=
  let l := finePairs ps o
  let g := zeroAt z (fineBins l)
  let again (up : Bool) : List Int := if moved then [] else [if up then o + 64 else o - 64]
  match finePeak g tc fun _ => false with
  | none => ([], [])
  | some ip =>
    let a := match measurePeak o moved false (!z.isEmpty) g g l ip with | .ok p => ([p], []) | .error up => ([], again up)
    if !two then a
    else
      let far (i : Nat) : Bool := ip ≤ i + 32 && i ≤ ip + 32
      let g2 := (List.range 128).map fun i => if far i then 0 else g.getD i 0
      let l2 := l.filter fun x => !(far x.1)
      match finePeak g2 tc far with
      | none => a
      | some i2 => match measurePeak o moved true (!z.isEmpty) g g2 l2 i2 with | .ok p => (a.1 ++ [p], a.2) | .error up => (a.1, a.2 ++ again up)

/-- The search of R214 while it runs. -/
structure Search where
  /-- origins of coarse peaks not yet tried -/
  queue : List Int
  /-- rebuilds of R210 that come first in the next pass -/
  retries : List Int := []
  /-- coarse peaks tried -/
  tried : Nat := 0
  /-- passes made -/
  passes : Nat := 0
  /-- peaks kept -/
  kept : List Peak := []
  /-- origins whose histograms the last pass left in the fine SRAM -/
  last : List Int := []

/-- The bins of the histogram in place `k` of pass `n` that are read in error (R288). -/
def badBins (bad : List (Nat × Nat)) (n k : Nat) : List Nat := (bad.filter fun x => x.1 == n && x.2 / 128 == k).map (·.2 % 128)

/-- The passes of R214: at most `cap` coarse peaks, at most `allowed` passes, up to four histograms to a pass, rebuilds first. -/
def runPasses (ps : List RePair) (tc cap allowed : Nat) (two : Bool) (bad : List (Nat × Nat)) : Nat → Search → Search
  | 0, x => x
  | fuel + 1, x =>
    if x.tried ≥ cap || (x.queue.isEmpty && x.retries.isEmpty) || x.passes ≥ allowed then x
    else
      let room := min 4 (cap - x.tried)
      let a := x.retries.take room
      let b := x.queue.take (room - a.length)
      let res := (a ++ b).zipIdx.map fun y => searchFine ps tc two (badBins bad x.passes y.2) y.1 (decide (y.2 < a.length))
      runPasses ps tc cap allowed two bad fuel {
        queue := x.queue.drop b.length, retries := x.retries.drop a.length ++ res.flatMap (·.2), tried := x.tried + a.length + b.length
        passes := x.passes + 1, kept := x.kept ++ res.flatMap (·.1), last := a ++ b }

/-- Range of a peak in millimetres (R212). -/
def Peak.mm (p : Peak) : Nat := (roundQ (p.tc * 625 / 10 * 149896229 / 1000000000)).toNat
/-- Centroid in 1/16 LSB. -/
def Peak.units (p : Peak) : Rat := p.tc * 64

/-- Peaks in the order of judging: descending W_m, nearer first on a tie (R216). -/
def judgeOrder (l : List Peak) : List Peak := sortBy (fun a b => decide (a.wm > b.wm) || (decide (a.wm = b.wm) && decide (a.tc < b.tc))) l

/-- R173 and R175 over peaks in judging order: the accepted ones, and the number of alias rejections. `span` is in 62.5 ps units (R204). -/
def acceptPeaks (m : Nat) (span : Rat) : List Peak → List Peak → List Nat → Nat → List Peak × Nat
  | [], acc, _, n => (acc, n)
  | p :: rest, acc, seen, n =>
    if p.s < m || p.tc > span then acceptPeaks m span rest acc seen n
    else
      let all := (p.cw.map (·.2)).sum
      let also := ((p.cw.filter fun x => seen.contains x.1).map (·.2)).sum
      if 2 * also > all then acceptPeaks m span rest acc seen (n + 1)
      else acceptPeaks m span rest (acc ++ [p]) (seen ++ p.cw.map (·.1)) n

/-- Return limit of a program (R224). -/
def returnLimit (prog : Nat) : Nat := match prog with | 2 | 3 => 8 | 4 => 1 | 5 => 2 | 8 => 0 | _ => 4

/-- What is reported of the accepted peaks: the selection rule, then MAX_RET (R216, R224, R226). -/
def reported (prog maxRet : Nat) (acc : List Peak) : List Peak :=
  let lim := min maxRet (returnLimit prog)
  if prog = 5 then
    let near := acc.foldl (fun (b : Option Rat) p => some (match b with | none => p.tc | some x => min x p.tc)) none
    let far := acc.foldl (fun (b : Option Rat) p => some (match b with | none => p.tc | some x => max x p.tc)) none
    (acc.filter fun p => some p.tc == near || some p.tc == far).take lim
  else acc.take lim

/-- The smallest natural number whose square is at least `q`. -/
def sqrtCeil (q : Rat) : Nat :=
  let r := isqrt q.floor.toNat
  if ((r * r : Nat) : Rat) ≥ q then r else r + 1

/-- The measures of an accepted peak that R180 and R308 use. -/
structure Judged where
  /-- the peak -/
  p : Peak
  /-- class code -/
  cls : Nat
  /-- mean photon estimate -/
  nbar : Rat
  /-- HT fraction -/
  ht : Rat

/-- Mean photon estimate and HT fraction of the candidates in a peak's match window. -/
def photonStats (log : List LogEnt) (p : Peak) : Rat × Rat :=
  let l := p.cw.map fun x => log.getD x.1 {}
  let n : Rat := (max 1 l.length : Nat)
  (((l.map (·.n)).sum : Rat) / n, ((l.filter (·.ht)).length : Rat) / n)

/-- The class of an accepted return (R180): `s0` is sigma_0 in ps, `f` the fired shots, `near` that no accepted return is nearer. -/
def Sheaf.classOf (h : Sheaf) (p : Peak) (nbar ht : Rat) (s0 : Int) (score f m : Nat) (near : Bool) : Nat :=
  let mm := p.mm
  let sat := decide (ht * 256 ≥ (h.th 8 24 8 : Nat))
  let rho (k : Nat) : Bool := decide (p.var * 256 ≥ ((k * k : Nat) : Rat) * s0 * s0)
  if sat && mm ≥ h.th 20 0 22 then 6
  else if sat then 5
  else if score > h.th 0 16 8 && p.s < 2 * m then 4
  else if rho (h.th 8 8 8) && mm ≤ h.th 12 0 22 && near then 3
  else if mm ≤ h.th 16 0 22 && p.s * 256 < h.th 8 16 8 * f && decide (nbar * 16 < (h.th 24 16 8 : Nat)) && !(rho (h.th 8 0 8)) then 2
  else if rho (h.th 8 0 8) then 1
  else 0

/-- The 16 bytes of a reported return (R218, R308): `rk` is R_k of the sheaf's own estimate. -/
def Sheaf.returnBytes (h : Sheaf) (j : Judged) (s0 : Int) (rk : Rat) : Bytes :=
  let p := j.p
  let seff : Rat := (p.wc * p.wc : Nat) / (max 1 p.sw2 : Nat)
  let aw : Rat := (h.n : Rat) * rk * 5625 / 10000000000000 * h.wBase
  let t2 : Rat := (p.var + 390625 / 1200) / (if seff = 0 then 1 else seff) + aw * h.wBase * (5625 * 5625 : Nat) / 100 / ((12 * (max 1 (p.wc * p.wc))) : Nat)
  let mm2 := t2 * (149896229 * 149896229 : Nat) / (1000000000 * 1000000000 : Nat)
  let rho := sqrtRound (p.var * 256 / (if s0 = 0 then 1 else (s0 : Rat) * s0))
  returnRecord (min p.mm 0x3FFFFF) j.cls (min 65535 p.wm) p.s (min 255 (sqrtCeil mm2)) (min 255 rho) (roundCap 255 (j.nbar * 16))
    (roundCap 255 (j.ht * 256)) (roundCap 65535 (seff * 16))

/-- The interference score (R177): `lamSpan` is the counting span in ticks. -/
def Sheaf.score (h : Sheaf) (acc : List Peak) (rk : Rat) (span : Nat) : Nat :=
  if h.wTot = 0 then 0
  else
    let wIn := (acc.map (·.wm)).sum
    let eAcc : Rat := rk * span / 5120000000000 * h.wBase
    roundCap 255 (256 * max 0 (min 1 ((((h.wTot - wIn : Nat) : Rat) - eAcc) / h.wTot)))

end Sys2Proof.Machine
end

