-- ==== Sys2Proof/Machine/Sheaf.lean ====
section
/-! DEFINITION. The life of a channel-sheaf: opening, processing, its record and dumps, release (R147, R148, R189, R201 to R226, R231 to R234 of
06_histograms_returns; R301 to R314 of 09_record_formats). -/

namespace Sys2Proof.Machine

/-! Opening (R202, R306). -/

/-- The string that lists channel `c` in cell instance `n`, with the channel's position in its row (R65). -/
def State.listedBy (s : State) (c n : Nat) : Option (Nat × Nat) :=
  (List.range 32).findSome? fun i => ((s.str i).run n).bind fun r => (rowPos r.row c).map fun p => (i, p)

/-- The oldest declared cell that channel `c` has not opened yet, among those declared while channel-sheaves form (R547). Every string has a run of
every declared cell, so string 0 tells them all. -/
def State.nextRun (s : State) (c : Nat) : Option CellRun :=
  (s.str 0).runs.reverse.find? fun r => r.live && decide (r.cellNo > (s.ch c).lastCell)

/-- The flags of the present cell that do not depend on a sheaf (R98, R125, R131, R149, R151, R155, R161, R305), with what waits for the next record. -/
def State.cellFlags (s : State) (c : Nat) (r : CellRun) : Word :=
  let q := s.ch c
  let g := s.group (groupOf c)
  let settle := us (s.grp (groupOf c) 20 0 16)
  q.pending ||| BitVec.ofNat 32 (pack [(3, b2n r.slowBad), (4, b2n q.overload), (8, b2n (decide (r.tCell < g.changed + settle))),
    (9, b2n (s.biasUncertain (groupOf c) || s.rx.hvBad)), (10, b2n (q.onLaneB || q.laneAFail))])

/-- End of a declared cell that has ended: the declaration of the next, or now (R147). -/
def State.cellEnd (s : State) (r : CellRun) : Option Nat :=
  match (s.str 0).run (r.cellNo + 1) with
  | some x => some x.tCell
  | none => if r.ended then some s.now else none

/-- What every channel-sheaf of a run holds from its opening on. -/
def State.sheafBase (s : State) (c : Nat) (r : CellRun) (i : Nat) (nostr : Bool) (kind : Nat) : Sheaf :=
  let e := r.entry
  let p := if nostr then 0 else eProg e
  { cellNo := r.cellNo, str := i, nostr := nostr, kind := kind, cell := r.cell, furrow := r.furrow, dir := r.dir, variant := r.variant
    slowPos := r.slowPos, tCell := r.tCell, prog := p, pw := ePw e
    flags := s.cellFlags c r ||| BitVec.ofNat 32 (pack [(1, b2n (!nostr && !eDith e))])
    thr := (s.part 4).take 64 ++ slice (s.part 4) (0x40 + 32 * p) 32, red := slice (s.part 5) (0x40 + 32 * p) 32
    dCellMin := hDCellMin s.sched * 128 }

/-- A place for a NO_ILLUM or STALE record, its span the cell (R147, R306). -/
def State.darkSheaf (s : State) (c : Nat) (r : CellRun) (i : Nat) (nostr : Bool) (kind : Nat) : Sheaf :=
  { s.sheafBase c r i nostr kind with
    time := s.timeAt r.tCell, spanStart := r.tCell, spanLen := (s.cellEnd r).map (· - r.tCell), tOpen := r.tCell, tNomLast := r.tCell }

/-- The channel-sheaf of a lit cell (R62, R148, R202, R498). -/
def State.litSheaf (s : State) (c : Nat) (r : CellRun) (i pos : Nat) : Sheaf :=
  let q := s.ch c
  let b := s.sheafBase c r i false 0
  let t0 := r.tCell + eTFirst r.entry * 128
  let n := eDepth r.entry
  let sp := eTSpace r.entry * 128
  let free := (List.range 3).find? fun k => q.sheaves.all fun h => h.slot != some k
  let later := ((s.str 0).runs.reverse.filter fun x => x.live && decide (x.cellNo > r.cellNo)).filterMap fun x =>
    match s.listedBy c x.cellNo with
    | some (k, _) => ((s.str k).run x.cellNo).bind fun y => if y.kind = 0 then some y.tCell else none
    | none => none
  { b with
    slot := free, miss := free.isNone, k := s.coincLevel c b.prog b.red, n := n, tSpace := sp, tOpen := t0, tNomLast := t0 + (n - 1) * sp
    c2At := (later[1]?).filter fun t => decide (t ≤ t0 + (n - 1) * sp + ditherMax + us 10), later := min 2 later.length
    time := s.timeAt t0, spanStart := t0, spanLen := some (n * sp), spanN := n, undith := !eDith r.entry
    zones := if eAlertable r.entry then s.zonesFor i pos r.cell else []
    dlUse := s.dl i, skewUse := s.skewTrim c, use := s.chanUse c, strUse := r.use, sheafNo := q.sheafCount + 1
    half := q.half, flags := b.flags ||| BitVec.ofNat 32 (pack [(13, b2n free.isNone), (19, b2n q.errPend)]) }

/-- The channel-sheaf `h` is open: the channel's sheaf boundary, at which its calibration values are formed and a spare lane takes over (R144, R148, R161, R181,
R202, R498). -/
def State.openSheaf (s : State) (c : Nat) (h : Sheaf) : State :=
  (s.checkCal 2 c).mapCh c fun q =>
    let q := { q with lastCell := h.cellNo, pending := 0, onLaneB := q.onLaneB || q.laneAFail, use := some (s.chanUse c) }
    if h.kind != 0 then { q with sheaves := q.sheaves ++ [h] }
    else
      let lit := q.sheaves.filter fun x => x.kind == 0
      let keep := (lit.getLast?).map (·.cellNo)
      { q with
        sheaves := (q.sheaves.map fun x => if some x.cellNo == keep then x else { x with alertCleared := true }) ++ [h]
        k := h.k, fresh := false, errPend := false, half := 1 - h.half, lastProg := some h.prog, sheafCount := q.sheafCount + 1, slotMiss := q.slotMiss + b2n h.miss }

/-- A sheaf boundary of channel `c`: `h` opens, or a channel that has failed is dead from here on (R148, R282, R284, R325). -/
def State.sheafBoundary (s : State) (c : Nat) (h : Sheaf) : State :=
  if (s.ch c).dying != 0 then s.killChannel c (s.ch c).dying else s.openSheaf c h

/-- SHEAF_OPEN: channel `ch` opens its channel-sheaf of the next declared cell: at shot 0's nominal instant, or where it has no sheaf at t_cell
(R202, R301, R306). A dead channel opens none (R282, R284). -/
def execSheafOpen (dt ch : Nat) (s : State) : Host.Outcome State Fault Refusal := runUp dt s fun t =>
  if ch ≥ 512 || t.deadCh ch || !t.ranges then t
  else match t.nextRun ch with
    | none => t
    | some r0 =>
      match t.listedBy ch r0.cellNo with
      | none => t.sheafBoundary ch (t.darkSheaf ch r0 0 true 1)
      | some (i, pos) =>
        match (t.str i).run r0.cellNo with
        | none => t
        | some r =>
          if r.kind != 0 then t.sheafBoundary ch (t.darkSheaf ch r i false r.kind)
          else if t.now < r.tCell + eTFirst r.entry * 128 then t
          else t.sheafBoundary ch (t.litSheaf ch r i pos)

/-! Processing (R206 to R218). -/

/-- SHEAF_PROCESSING_START: at t_proc the oldest open channel-sheaf's coarse bins go to the engines, its slot is free, and its shots are latched
(R48, R202, R206); a channel-sheaf still in processing has run out of time (R214). A NO_ILLUM or STALE place goes on once its estimate is complete. -/
def execSheafProcessingStart (dt ch : Nat) (s : State) : Host.Outcome State Fault Refusal := runUp dt s fun t =>
  match (t.ch ch).sheaves.find? fun h => h.ph == .accumulating with
  | none => t
  | some h =>
    let due : Bool := if h.kind = 0 then decide (t.now ≥ h.tProcAt) else h.lam.isSome
    if !due then t
    else
      let r := (((t.str h.str).run h.cellNo).getD {})
      let t := t.mapCh ch fun q => { q with sheaves := q.sheaves.map fun x =>
        if x.ph == .processing && h.kind == 0 then { x with tStop := some (x.tStop.getD t.now) } else x }
      let h2 : Sheaf := { h with ph := .processing, tProc := t.now, slot := none }
      let lit := { h2 with
        fired := r.firedN, gates := r.gates, shotF := (r.inSt .fired).map fun x => (x.j, x.f)
        flags := h2.flags ||| BitVec.ofNat 32 (b2n r.outReg * 4) }
      t.mapSheaf ch h.cellNo fun _ => if h.kind = 0 then lit else h2

/-- PROCESSING_TIME_OUT: 32.768 us after t_proc the processing time has run out (R214). -/
def execProcessingTimeOut (dt ch : Nat) (s : State) : Host.Outcome State Fault Refusal := runUp dt s fun t =>
  t.mapCh ch fun q => { q with sheaves := q.sheaves.map fun h =>
    if h.ph == .processing && h.kind == 0 && h.tStop.isNone && decide (t.now ≥ h.tProc + ns 32768) then { h with tStop := some t.now } else h }

/-- Core cycles in a microsecond at a thermal level (R199, R486). -/
def coreRate (level : Nat) : Nat := [1000, 1000, 875, 625].getD level 1000

/-- The instants at which the thermal level changed between `a` and `b`, each with the level that ended there, oldest first; then `b` with the level there. -/
def State.levelSpans (s : State) (a b : Nat) : List (Nat × Nat) :=
  let ended := (s.hk.levelLog.filter fun x => decide (a < x.1)).reverse
  let last := match ended.find? fun x => decide (b ≤ x.1) with | some x => x.2 | none => s.hk.level
  ended.filter (fun x => decide (x.1 < b)) ++ [(b, last)]

/-- Core cycles from `a` to `b`: a thermal step slows the cycles that follow it, and no others (R199, R214, R234, R486). -/
def State.coreCycles (s : State) (a b : Nat) : Nat :=
  ((s.levelSpans a b).foldl (fun (p : Nat × Nat) x => (x.1, p.2 + (x.1 - p.1) * coreRate x.2)) (a, 0)).2 / 5120000

/-- Passes for which a channel-sheaf has time in `cycles` core cycles (R214). -/
def Sheaf.passesIn (h : Sheaf) (cycles : Nat) : Nat := (4 * (cycles - 1500)) / (h.logLen + 400)

/-- The ambient estimate of a channel-sheaf (R147). -/
def Sheaf.own (h : Sheaf) : Rat := h.lam.getD (estimate h.count (h.spanLen.getD 0))

/-- Rates of the intervals of the counting span, in the records' unit: the least and the greatest (R221). -/
def Sheaf.rates (h : Sheaf) : Nat × Nat :=
  if h.kind = 0 then
    let l := (List.range h.spanN).map fun i => rate16 (estimate (h.ivals.get i) h.tSpace)
    (minOf (l.headD 0) l, maxOf 0 l)
  else (rate16 h.own, rate16 h.own)

/-- The extension block, empty when it is absent (R306, R307). -/
def Sheaf.ext (h : Sheaf) : Bytes :=
  let m := if h.nostr then 0 else rOut h.red
  if m % 8 = 0 then []
  else
    let r := h.rates
    extBlock (if bit m 0 then r.1 else 0) (if bit m 0 then r.2 else 0) (if bit m 1 then sat32 h.count else 0) (if bit m 2 then sat32 h.pile else 0)

/-- DEAD_MASK of a channel's block of 16 (R304). -/
def State.deadMates (s : State) (c : Nat) : Nat := maskOf 16 fun i => s.deadCh (c / 16 * 16 + i)

/-- The header of a channel-sheaf's record, as it is for a record that describes no sheaf (R304, R306). -/
def State.sheafHead (s : State) (c : Nat) (h : Sheaf) : SheafHead :=
  { ch := c, str := if h.nostr then 0 else h.str, nostr := h.nostr, dir := h.dir, cell := h.cell, furrow := h.furrow, slowPos := h.slowPos.toNat
    prog := h.prog, variant := h.variant, status := h.kind, amb := rate16 h.own, flags := h.flags.toNat, deadMask := s.deadMates c }

/-- A STALE record: the channel's last NORMAL record with the present cell's own fields (R306). -/
def State.staleRecord (s : State) (c : Nat) (h : Sheaf) : Bytes :=
  let old := (s.ch c).lastNormal
  let w20 := num old 0x20 4
  let n := 16 * (bits w20 29 1 + bits w20 22 4)
  let front := (sheafFront (s.sheafHead c { h with prog := 0 })).take 12
  mkRecord 1 s.devId h.time.toNat (front ++ slice old 0x1C 4
    ++ le 4 (pack [(0, bits w20 0 26), (26, h.variant), (29, bits w20 29 1), (30, 2)])
    ++ le 4 (num old 0x24 4 % 2 ^ 24)
    ++ le 4 (h.flags.toNat / 2 * 2 + byteAt old 0x28 % 2) ++ le 4 (s.deadMates c) ++ (if old.isEmpty then [] else slice old 0x30 n))

/-- A NO_ILLUM record (R306). -/
def State.darkRecord (s : State) (c : Nat) (h : Sheaf) : Bytes :=
  let e := h.ext
  sheafRecord s.devId h.time.toNat (s.sheafHead c h) e [] 0 []

/-- A return lies within CONF_TOL alert bins of the alerted bin's centre (R189). -/
def nearCentre (a : Raised) (j : Judged) : Bool :=
  let c : Rat := (a.centre : Rat)
  let w : Rat := ((a.tol * 1024 : Nat) : Rat)
  decide (j.p.units - c ≤ w) && decide (c - j.p.units ≤ w)

/-- The accepted return that confirms an alert: the nearest that meets the three conditions of R189, with its place in `l`. -/
def confirmer (a : Raised) (l : List Judged) : Option Nat :=
  let inRange (j : Judged) : Bool := a.rmin ≤ j.p.mm && j.p.mm ≤ a.rmax && nearCentre a j
  ((List.range l.length).filter fun i => (l[i]?).any fun j => inRange j && !(a.excl.getLsbD j.cls)).foldl
    (fun b i => match b with
      | none => some i
      | some k => if ((l[i]?).map (·.p.tc)).getD 0 < ((l[k]?).map (·.p.tc)).getD 0 then some i else some k) none

/-- The nearest accepted return that meets the two range conditions of R189. -/
def nearestInRange (a : Raised) (l : List Judged) : Option Judged :=
  (l.filter fun j => a.rmin ≤ j.p.mm && j.p.mm ≤ a.rmax && nearCentre a j).foldl
    (fun b j => match b with | none => some j | some k => if j.p.tc < k.p.tc then some j else some k) none

/-- Index of an accepted return among the reported ones, 15 when it is not reported (R309, R313). -/
def retIndex (rep : List Peak) (p : Peak) : Nat := min 15 ((rep.findIdx? fun x => x.tc == p.tc && x.o == p.o && x.wm == p.wm).getD 15)

/-- The fine histograms of a fine dump: those of the four strongest accepted returns, each once, in the order of the strongest reported return that each serves, those that
serve none last (R223, R313); `last` tells what the fine SRAM still holds, and `bad k` which bins of the `k`-th are read in error if it is rebuilt (R288). -/
def fineHists (acc rep : List Peak) (last : List Int) (bad : Nat → List Nat) : List FineHist :=
  let four := acc.take 4
  let os := (((rep ++ four).filter fun p => four.any fun x => x.o == p.o).map (·.o)).eraseDups
  let ready := os.all fun o => last.contains o
  os.zipIdx.map fun y =>
    let o := y.1
    let l := four.filter fun p => p.o == o
    let again := !ready && !(last.contains o)
    let z := if again then bad y.2 else []
    let idx (second : Bool) : Nat := match acc.find? fun p => p.o == o && p.second == second with | some p => retIndex rep p | none => 15
    { origin := twos 18 o, moved := l.any (·.moved), forDump := again, bad := !z.isEmpty || l.any (·.bad), retA := idx false, retB := idx true
      bins := zeroAt z ((l.head?.map (·.g)).getD []) }

/-- What processing finds in a channel-sheaf. -/
structure Found where
  /-- accepted returns, strongest first -/
  acc : List Peak := []
  /-- reported returns, strongest first -/
  rep : List Peak := []
  /-- alias rejections -/
  dups : Nat := 0
  /-- coarse peaks remained untried when time ran out -/
  trunc : Bool := false
  /-- origins left in the fine SRAM -/
  last : List Int := []
  /-- there is time for one more pass -/
  more : Bool := true
  /-- passes made -/
  passes : Nat := 0

/-- The search, acceptance and selection of a channel-sheaf, with time for `allowed` passes where its time has run out (R173, R175, R207, R214, R216, R224); nothing is sought in program 8, below the acceptance
threshold, without a slot or after an engine error (R202, R282). -/
def Sheaf.find (h : Sheaf) (allowed : Option Nat) : Found :=
  let m := h.mEff h.fired
  if h.prog = 8 || h.fired < m || h.miss || h.noRet then {}
  else
    let cmin := fieldOf h.red 0 16 16
    let tc := if cmin = 0 then m * h.wBase else cmin
    let cap := fieldOf h.red 0 8 8
    let ps := h.replay
    let x := runPasses ps tc cap (allowed.getD 1000) (h.prog == 2 || h.prog == 3) h.fineBad (2 * cap + 2)
      { queue := (coarsePeaks h.bins tc).map fun b => fineOrigin h.bins b.1 }
    let a := acceptPeaks m ((h.span : Rat) / 320) (judgeOrder x.kept) [] [] 0
    { acc := a.1, rep := reported h.prog (fieldOf h.red 8 0 4) a.1, dups := a.2
      trunc := decide (x.tried < cap) && (!x.queue.isEmpty || !x.retries.isEmpty), last := x.last, more := allowed.all fun n => decide (x.passes < n), passes := x.passes }

/-- The accepted returns with their measures and classes (R180). -/
def Sheaf.judgeAll (h : Sheaf) (acc : List Peak) (s0 : Int) (score : Nat) : List Judged :=
  let log := h.log.reverse
  acc.map fun p =>
    let st := photonStats log p
    let near := acc.all fun x => decide (x.mm ≥ p.mm)
    { p := p, cls := h.classOf p st.1 st.2 s0 score h.fired (h.mEff h.fired) near, nbar := st.1, ht := st.2 }

/-- The alerts of a channel-sheaf are tested (R189): the state with the retractions, and the confirmed IDs with their return indexes. -/
def State.resolveAlerts (s : State) (c : Nat) (h : Sheaf) (l : List Judged) (rep : List Peak) : State × List (Nat × Nat) :=
  (s.thresh.outstanding.filter fun a => a.cellNo == h.cellNo && a.ch == c).foldl
    (fun (x : State × List (Nat × Nat)) a =>
      match confirmer a l with
      | some k =>
        let t := { x.1 with thresh := { x.1.thresh with
          outstanding := x.1.thresh.outstanding.filter fun b => b.id != a.id
          slices := x.1.thresh.slices.upd h.str fun q => { q with confirmed := q.confirmed + 1 } } }
        (t, x.2 ++ [(a.id.toNat, match l[k]? with | some j => retIndex rep j.p | none => 15)])
      | none =>
        match nearestInRange a l with
        | some j => (x.1.retract a 2 j.cls (min j.p.mm 0x3FFFFF), x.2)
        | none => (x.1.retract a 1 0 0, x.2)) (s, [])

/-- A dump is due: its OUT_MASK bit (forced where the program always builds it) and DUMP_EVERY, and the score in program 7; program 8 keeps only header reductions, so it
has no dump (R223, R224). The sheaf count since the last apply, `sheafNo`, includes the present sheaf, so the first dump falls at sheaf DUMP_EVERY: DESIGN CHOICE (log 85),
R223 does not say. -/
def Sheaf.dumpDue (h : Sheaf) (b score : Nat) : Bool :=
  !h.miss && h.prog != 8 && h.sheafNo % max 1 (fieldOf h.red 4 16 16) == 0 && (h.prog != 7 || decide (score > h.th 0 16 8))
    && (bit (rOut h.red) b || (b == 3 && h.prog == 6) || (b == 4 && (h.prog == 3 || h.prog == 9)))

/-- A NORMAL channel-sheaf is closed: alerts resolved, record and dumps formed (R189, R216, R223, R304, R309, R311). -/
def State.closeNormal (s : State) (c : Nat) (h : Sheaf) : State :=
  let f := h.find (h.tStop.map fun e => h.passesIn (s.coreCycles h.tProc e))
  let rk := rateK h.own h.k
  let score := h.score f.acc rk (h.spanLen.getD 0)
  let s0 := s.useDie h.strUse (tSigma h.str h.pw)
  let l := h.judgeAll f.acc s0 score
  let rets := (l.filter fun j => retIndex f.rep j.p != 15).map fun j => h.returnBytes j s0 rk
  let ra := s.resolveAlerts c h l f.rep
  let s := ra.1
  let coarse := h.dumpDue 3 score
  let fineAsk := h.dumpDue 4 score && !f.acc.isEmpty
  let hists := fineHists f.acc f.rep f.last (badBins h.fineBad f.passes)
  let fine := fineAsk && (f.more || hists.all fun x => !x.forDump)
  let trunc := f.trunc || (fineAsk && !fine)
  let flags := h.flags ||| BitVec.ofNat 32 (pack [(0, b2n (decide (score > h.th 0 16 8))), (12, b2n h.sat), (16, b2n trunc), (21, b2n coarse), (22, b2n fine)])
  let hd := { s.sheafHead c { h with flags := flags } with
    n := h.n, fired := h.fired, gates := h.gates, k := h.k, score := score, span := (roundQ (mmOf ((h.span : Rat) / 5))).toNat }
  let rc := sheafRecord s.devId h.time.toNat hd h.ext rets (min 255 ra.2.length) (confEntries ra.2.length ra.2)
  let d1 := if coarse then [coarseDump s.devId h.time.toNat (sheafFront hd) h.sat h.coarseBad (h.bins.toList 2500)] else []
  let d2 := if fine then [fineDump s.devId h.time.toNat (sheafFront hd) (hists.any fun x => x.bins.any (· == 65535)) (hists.any (·.bad)) hists] else []
  let s := { s with thresh := { s.thresh with slices := s.thresh.slices.upd h.str fun q => { q with aliasRej := q.aliasRej + f.dups } } }
  (s.mapCh c fun q => { q with lastNormal := rc, closeTrunc := q.closeTrunc + b2n trunc, histSat := q.histSat + b2n h.sat }).mapSheaf c h.cellNo fun x =>
    { x with ph := .ready, flags := flags, record := rc, dumps := d1 ++ d2, closedAt := max s.now h.tWin }

/-- SHEAF_PROCESSING_END: the oldest channel-sheaf in processing is closed: NORMAL, NO_ILLUM or STALE (R189, R214 to R218, R306). -/
def execSheafProcessingEnd (dt ch : Nat) (s : State) : Host.Outcome State Fault Refusal := runUp dt s fun t =>
  match (t.ch ch).sheaves.find? fun h => h.ph == .processing with
  | none => t
  | some h =>
    if h.kind = 0 then (t.count (cntGroup (ch / 128) 0) (2 * t.coreCycles h.tProc (h.tStop.getD t.now))).closeNormal ch h
    else
      let rc := if h.kind = 2 then t.staleRecord ch h else t.darkRecord ch h
      t.mapSheaf ch h.cellNo fun x => { x with ph := .ready, record := rc, closedAt := t.now }

/-- A sheaf's record can be released at instant `now`: it is formed, and t_win has come (R217). -/
def Sheaf.releasable (h : Sheaf) (now : Nat) : Bool := h.ph == .ready && decide (h.closedAt ≤ now)

/-- It is the turn of channel `c`'s oldest record: none that can be released closed in an earlier engine cycle, and none in the same cycle on a lower channel (R36). -/
def State.releaseTurn (s : State) (c : Nat) (h : Sheaf) : Bool :=
  s.rx.chans.cells.all fun x => match x.2.sheaves with
    | o :: _ => !(o.releasable s.now) || x.1 == c || decide (h.closedAt / 5120 < o.closedAt / 5120) || (h.closedAt / 5120 == o.closedAt / 5120 && decide (c < x.1))
    | [] => true

/-- SHEAF_RECORD_RELEASE: in the order in which sheaves closed (R36), the channel's oldest record leaves at t_win or at its end of processing, whichever is later, its dumps behind it; a dump
that finds the dump share full is discarded whole (R217, R278, R314, R435, R436). -/
def execSheafRecordRelease (dt ch : Nat) (full : Bool) (s : State) : Host.Outcome State Fault Refusal := runUp dt s fun t =>
  match (t.ch ch).sheaves with
  | [] => t
  | h :: rest =>
    if !(h.releasable t.now) || !(t.releaseTurn ch h) then t
    else
      let t := t.mapCh ch fun q => { q with sheaves := rest }
      let t := t.release h.record
      let t := if full then { t with silo := { t.silo with dumpDrop := t.silo.dumpDrop + h.dumps.length } } else h.dumps.foldl (fun u d => u.release d) t
      t.releasedSheaf ch h

/-- REDUCE_STATUS (R231, R364): the stripes in the device block, a block for each channel that the mask names by its block of 16; mask 0 names all. -/
def bodyReduceStatus : Body := answer fun e s =>
  let m := e.p 0 0 32
  let dev := (List.range 32).flatMap fun i => let u := s.thresh.units.get i; [sat32 u.requests, sat32 u.holdRej, sat32 u.trigCap]
  replyWith (response 0x0407 dev (((List.range 512).filter fun c => m == 0 || bit m (c / 16)).map fun c =>
    let q := s.ch c
    [sat32 q.logOvf, sat32 q.latePair, sat32 q.closeTrunc, sat32 q.histSat, sat32 q.slotMiss]))

/-- REDUCE_STATUS (R231). -/
def execReduceStatus (dt sub : Nat) (s : State) : Host.Outcome State Fault Refusal := run dt s fun t => t.gcs 0x0407 sub none bodyReduceStatus

end Sys2Proof.Machine
end

