-- ==== Sys2Proof/Machine/Cells.lean ====
section
/-! DEFINITION. Cells and shots: the declaration of a cell, the five gates, the firing of a shot (R43 to R48, R61 to R65, R89 of 02_shot_schedule;
R90 to R98, R106, R107, R118, R124 to R126 of 03; R157, R159 of 04; R203 of 06; R260 of 07). -/

namespace Sys2Proof.Machine

/-! The slow axis (R124 to R126). -/

/-- Binary value of `n` bits of Gray code (R126). -/
def grayTo (n v : Nat) : Nat := maskOf n fun i => ((List.range (n - i)).filter fun j => bit v (i + j)).length % 2 == 1

/-- Steps of the running Furrow issued by the start of cell `c`, spread evenly across it (R124): the cell's phase is its share of the Furrow. -/
def State.stepsBy (s : State) (c : Nat) : Nat := s.pf 2 0x20 0 10 * num (s.part 2) (num (s.part 2) 0x28 4 + 2 * c) 2 / 65536

/-- `n` steps counted in the direction of SLOW_DIR, which counts upward while it is low (log 40). -/
def stepAdd (dir : Bool) (pos : Word) (n : Nat) : Word := if dir then pos - BitVec.ofNat 32 n else pos + BitVec.ofNat 32 n

/-- The slow-axis position at the start of cell `c`, from the encoder's reading `raw`, and the unlocked flag (R125, R126). -/
def State.slowSample (s : State) (c raw : Nat) : State × Bool :=
  let enc := s.pf 2 0x0C 3 2
  if enc = 0 || s.pf 2 0x0C 0 1 = 1 then
    let p := if s.pf 2 0x0C 1 2 = 1 then stepAdd s.steer.slowDir s.steer.stepCount (s.stepsBy c) else s.steer.stepCount
    ({ s with steer := { s.steer with slowPos := p } }, s.steer.slowErr)
  else if enc = 1 then ({ s with steer := { s.steer with slowPos := BitVec.ofNat 32 raw } }, s.steer.slowErr)
  else
    let soon := s.steer.ssiStart.any fun t => decide (s.now < t + us 50)
    if soon then (s, true)
    else
      let n := s.pf 2 0x0C 5 6
      let v := raw % 2 ^ n
      let v := if s.pf 2 0x0C 11 1 = 1 then grayTo n v else v
      ({ s with steer := { s.steer with slowPos := BitVec.ofNat 32 v, ssiStart := some s.now } }, s.steer.slowErr)

/-! The declaration of a cell (R118). -/

/-- Runs that are over, older than any window, and that no channel-sheaf or unjudged shot needs. -/
def State.pruneRuns (s : State) : State :=
  let held := s.rx.chans.cells.flatMap fun c => c.2.sheaves.map (·.cellNo)
  s.each (List.range 32) fun i t =>
    let l := (t.str i).runs
    let old (r : CellRun) : Bool := match l.find? fun x => x.cellNo == r.cellNo + 1 with
      | some x => decide (x.tCell + us 20 < t.now)
      | none => false
    let busy (r : CellRun) : Bool := r.shots.any fun h => h.st == .admitted || (h.st == .fired && !h.judged)
    let keep (r : CellRun) : Bool := !(old r) || busy r || held.contains r.cellNo
    t.mapStr i fun q => { q with runs := q.runs.filter keep }

/-- What a channel listed in a cell reports for it: 0 NORMAL, 1 NO_ILLUM, 2 STALE (R306). A string that is faulted or UNVERIFIED comes first, CAL
cells included (log 42). -/
def runKind (q : StrState) (e : Bytes) (under : Bool) : Nat :=
  if q.mode == .faulted || q.mode == .unverified then 1
  else if eCal e then 2
  else if !eEn e || eProof e || under then 1
  else 0

/-- Errors of a string's entry at the declaration of cell `c` (R45, R89, R512): a failed complement, an empty prefetch buffer, a failed seed. -/
def State.cellErrors (s : State) (i c : Nat) (bad under seed : Bool) : State :=
  let t := if bad then
      let u := ({ s with seq := { s.seq with badInFurrow := s.seq.badInFurrow + 1 } }.integrityFault 1).post 0x2003 1 i [s.seq.variant, c]
      if u.seq.badInFurrow = 4 then { u with seq := { u.seq with reloading := true } } else u
    else s
  let t := if under then (t.mapStr i fun q => { q with underruns := q.underruns + 1 }).post 0x2005 1 i [c] else t
  if seed then ((t.mapStr i fun q => { q with seedBad := true }).integrityFault 3).post 0x200F 1 i else t

/-- VRES of a string at the cell after `c`, in the variant in use (R96). -/
def State.nextVres (s : State) (i c : Nat) : Nat := eVres (entryAt s.sched s.seq.variant (if c + 1 < hCells s.sched then c + 1 else 0) i)

/-- String `i` enters cell `c`, instance `n`: its entry, its shots, its setpoint (R43, R47, R61, R64, R96, R107). `bad`, `under` and `seed` tell
what the checks at this read find beside the stored set. -/
def State.declareString (s : State) (i c n : Nat) (slowBad bad under seed : Bool) : State :=
  let b := s.sched
  let e32 := entryAt b s.seq.variant c i
  let e := e32.take 16
  let map := mapRowAt b (eSmap e) i
  let wrong := bad || !(pairOk e32) || !(pairOk map) || eCell e != c
  let s := s.cellErrors i c wrong under ((seed || (s.str i).seedC != ~~~ (s.str i).seed) && !(s.str i).seedBad)
  let q := s.str i
  let armed := s.proofArmed i
  let sh := cellShots e armed (engineEdge s.now) q.lfsr q.shotK
  let shots := if under then [] else sh.1
  let r : CellRun := {
    cellNo := n, cell := c, furrow := s.seq.furrow, dir := s.seq.dir, tCell := engineEdge s.now, variant := s.seq.variant, entry := e, row := map.take 32
    bad := wrong || q.seedBad, underrun := under, proofArmed := armed && eProof e, shots := shots, slowPos := s.steer.slowPos, slowBad := slowBad
    kind := runKind q e under, use := s.strNow i, live := s.ranges }
  (s.checkCal 1 i).mapStr i fun q => { q with
    runs := r :: q.runs, lfsr := sh.2.1, shotK := sh.2.2, seedSteps := q.seedSteps + 6 * (sh.1.filter fun h => eDith e && !h.proof).length
    target := if shots.isEmpty then s.nextVres i c else eVres e
    moveAt := shots.getLast?.map fun h => (h.tFire + ns 40, s.nextVres i c) }

/-- A later channel-sheaf's cell has been declared for every channel that string `i`'s new run lights (R203). -/
def State.laterSheaf (s : State) (i : Nat) : State :=
  match (s.str i).runs.head? with
  | none => s
  | some r =>
    if r.kind != 0 then s
    else ((rowChannels r.row).filter fun c => decide (c < 512)).foldl (fun t c =>
      if (t.ch c).sheaves.isEmpty then t
      else t.mapCh c fun q => { q with sheaves := q.sheaves.map fun h =>
        if h.kind != 0 || h.later ≥ 2 then h
        else { h with later := h.later + 1, c2At := if h.later = 1 && decide (t.now ≤ h.tWin) then some t.now else h.c2At } }) s

/-- The CAPREQ of string `i`'s new cell is raised (R61, R230, R254, R258, R260); its trigger is the first fired shot's timestamp. -/
def State.capReq (s : State) (i : Nat) : State :=
  match (s.str i).runs.head? with
  | none => s
  | some r =>
    if !(eCapreq r.entry) || !r.live || r.underrun then s
    else
      let ch := (rowChannels r.row).getD (eCapCh r.entry) 0xFFFF
      let p := eCapProf r.entry
      s.ask i { ch := ch % 512, prof := p, profB := s.profile p, src := 1, cellNo := r.cellNo, str := i, cell := r.cell, furrow := r.furrow, dir := r.dir }
        (decide (ch ≥ 512) || !(s.chEn ch)) none

/-- In a CAL cell of its stripe, a converter without a spare calibrates one slice in the foreground, the positions in turn (R242). -/
def State.foreground (s : State) (a : Nat) : State :=
  s.mapGw a fun g => if g.on && g.spare.isNone then { g with fgSlice := g.pos[g.nextPos]?, nextPos := (g.nextPos + 1) % 4 } else { g with fgSlice := none }

/-- A dark-count pass sets its group's bias itself, to the codes of its two excess biases, which the spec does not give: free values within MAX_CODE (R159, R160; log 7).
This is the first of them; a pass that resumes keeps what it has set. -/
def State.darkBias (s : State) (g : Nat) : State :=
  if (s.group g).deferred then s
  else s.useFree.mapGroup g fun q => { q with deferred := true, code := freeNat s % (s.maxCode g + 1), changed := s.now }

/-- The calibration side of string `i`'s new cell (R159, R160, R242, R500): a CAL cell lets the stripe's first scheduled pass run and connects its source; in another cell no
pass of the stripe runs, and no source is connected. -/
def State.calCellOf (s : State) (i : Nat) : State :=
  let cal : Bool := ((s.str i).runs.head?).any fun r => eCal r.entry
  let p := if cal && s.armedUp then s.cal.passes.find? fun x => x.stripe == i && [0, 1, 2, 3, 5].contains x.pass else none
  let s := s.calSource i (p.any fun x => [0, 1, 5].contains x.pass)
  let s := { s with cal := { s.cal with
    passes := s.cal.passes.map fun y => if y.stripe = i then { y with inProg := p.any fun x => y.pass == x.pass } else y } }
  let s := if cal && s.armedUp then s.foreground i else s
  if p.any fun x => x.pass == 3 then s.darkBias (groupOf (16 * i)) else s

/-- PH[c] of the active drive descriptor, /65,536 of a half-period (R118, R127). -/
def State.phaseOf (s : State) (c : Nat) : Nat := num (s.part 2) (num (s.part 2) 0x28 4 + 2 * c) 2

/-- The phase crosses PH[c] at this engine-clock edge (R118): cell 0 with the Furrow boundary itself; another with the locked phase model, which stands within 1 % of a
half-period of the drive's phase while lock is not lost (R120), or, with FAST_SRC = 1, with the encoder count `enc` scaled from ENC_CPR to 65,536 (R119). -/
def State.phaseDue (s : State) (c enc : Nat) : Bool :=
  if c = 0 then engineEdge s.now == s.seq.lastBoundary
  else if s.encFast then decide (enc * 65536 ≥ s.phaseOf c * s.encCpr)
  else
    let half := halfTicks (s.steer.driveFreq * 1000).floor.toNat
    decide (100 * 65536 * (engineEdge s.now - s.seq.lastBoundary) + 65536 * half ≥ 100 * s.phaseOf c * half)

/-- CH_REF at a cell declaration: it has no channel-sheaves, so the cell boundaries are the instants at which its calibration values are formed, its spare lane takes over,
and its next counting span begins: its span is the cell, as it is for a channel whose string is dark (R144, R147, R156, R161, R498; log 75). -/
def State.refBoundary (s : State) : State :=
  ({ s with rx := { s.rx with refFrom := some s.now, refCount := 0 } }.checkCal 2 512).mapCh 512 fun q => { q with use := some (s.chanUse 512), onLaneB := q.onLaneB || q.laneAFail }

/-- CELL_DECLARATION: the steering block declares the next cell; the cell before it ends (R45, R61, R89, R118). `slow` is the encoder's reading, `enc` the count of
the fast axis where it comes from the encoder;
the masks name the strings whose prefetch buffer is empty, whose entry or map row fails its complement, and whose seed does. A cell-boundary APPLY that waits takes effect here (R382). -/
def execCellDeclaration (dt slow enc underruns bad seeds : Nat) (s : State) : Host.Outcome State Fault Refusal := runUp dt s fun t =>
  match t.seq.nextCell with
  | none => t
  | some c =>
    if !t.steer.running || !t.steer.locked || c ≥ hCells t.sched || !t.phaseDue c enc then t
    else
      let t := (t.arbitrate false).applyAtCell.endCells.pruneRuns
      let sl := t.slowSample c slow
      let n := t.seq.cellNo + 1
      let t := { sl.1 with
        seq := { sl.1.seq with cellNo := n, lastDecl := t.now, nextCell := if c + 1 < hCells t.sched then some (c + 1) else none } }
      let t := t.each (List.range 32) fun i u => u.declareString i c n sl.2 (bit bad i) (bit underruns i) (bit seeds i)
      (((t.each (List.range 32) fun i u => u.laterSheaf i).each (List.range 32) fun i u => u.capReq i).each (List.range 32) fun i u => u.calCellOf i).refBoundary

/-! The gates (R45, R73 to R80). -/

/-- The oldest undecided shot of string `i`'s present cell that can still be decided: at least 20 ns before it fires (R45, R75). -/
def State.nextShot (s : State) (i : Nat) : Option (CellRun × Shot) :=
  ((s.str i).runs.head?).bind fun r => (r.shots.find? fun h => h.st == .scheduled && decide (s.now + ns 20 ≤ h.tFire)).map fun h => (r, h)

/-- Gate 4 fails: arming, string state, device state, and no Furrow boundary yet since RANGING was entered (R45, R89, R104, R108, R549). -/
def State.gate4Fails (s : State) (i : Nat) (proof : Bool) : Bool :=
  let q := s.str i
  !s.pins.armEn || !s.pins.armOk || q.mode == .faulted || (q.mode == .unverified && !proof) || !s.ranges || !s.seq.fireFrom

/-- Gate 4 fails for a shot of run `r`: a string that returns to service does so from its next cell (R108). -/
def State.shotGate4 (s : State) (i : Nat) (r : CellRun) (h : Shot) : Bool := s.gate4Fails i h.proof || (r.kind == 1 && !h.proof)

/-- Gate 2 fails: less than 312.5 ns after the string's previous nominal instant (R45). -/
def gate2Fails (last : Option Nat) (t : Nat) : Bool := last.any fun l => decide (t < l + 1600000)

/-- A shot passes the five gates in order, or is withheld (R45, R46). `mv` is the reservoir at the guard sample, `tbl` a failed check of the
string's budget table at this use. -/
def State.judgeGates (s : State) (i : Nat) (r : CellRun) (h : Shot) (mv : Nat) (tbl : Bool) : State :=
  let last := (s.str i).lastTnom
  let s := s.mapStr i fun q => { q with lastTnom := some h.tNom }
  if r.bad || (s.str i).seedBad then s.withhold i r.cellNo h.j 1
  else if gate2Fails last h.tNom then s.withhold i r.cellNo h.j 2
  else if s.shotGate4 i r h then s.withhold i r.cellNo h.j 4
  else
    let s := if tbl || !(pairOk (budgetAt s.sched i)) then s.tableFails i else s
    let e := s.charge i h.pw mv h.vres
    let s := s.mapStr i fun q => q.mapRun r.cellNo fun r => r.mapShot h.j fun h => { h with vMeas := mv, charge := e }
    let g := s.gate5 i e
    if g.2 then (g.1.chargeShot i e).mapStr i fun q => q.mapRun r.cellNo fun r => r.mapShot h.j fun h => { h with st := .admitted }
    else g.1.withhold i r.cellNo h.j 5

/-- SHOT_DECISION: t_dec of string `str`'s next shot, after the guard sample 50 ns before t_fire and at least 20 ns before it (R45, R73, R75). A shot whose
instant has passed undecided is withheld at the cell's end (log 5). -/
def execShotDecision (dt str mv : Nat) (tbl : Bool) (s : State) : Host.Outcome State Fault Refusal := runUp dt s fun t =>
  match t.nextShot str with
  | none => t
  | some (r, h) => if t.now + ns 50 < h.tFire then t else t.judgeGates str r h mv tbl

/-! Firing (R90 to R93, R98, R157, R260, R571). -/

/-- The oldest admitted shot of string `i`. -/
def State.admittedShot (s : State) (i : Nat) : Option (CellRun × Shot) :=
  (s.str i).runs.reverse.findSome? fun r => (r.shots.find? fun h => h.st == .admitted).map fun h => (r, h)

/-- Fired shots of strings other than `i` whose reference windows overlap that of a shot at `f` (R157), as string, cell instance and number. -/
def State.refClash (s : State) (i f : Nat) : List (Nat × Nat × Nat) :=
  let w := s.pf 3 0x0C 16 16 - s.pf 3 0x0C 0 16
  ((List.range 32).filter fun k => k != i).flatMap fun k => (s.str k).runs.flatMap fun r =>
    (r.shots.filter fun h => h.st == .fired && decide (h.f ≤ f + w) && decide (f ≤ h.f + w)).map fun h => (k, r.cellNo, h.j)

/-- A shot whose reference window another overlaps counts toward neither figure of NO_LIGHT (R157). -/
def State.unRef (s : State) (x : Nat × Nat × Nat) : State :=
  let st := (((s.str x.1).run x.2.1).bind fun r => r.shots.find? fun h => h.j == x.2.2).elim 0 (·.refSt)
  s.mapStr x.1 fun q => { q.mapRun x.2.1 fun r => r.mapShot x.2.2 fun h => { h with refSt := 0 } with
    refShots := q.refShots - b2n (st != 0), refHits := q.refHits - b2n (st == 2) }

/-- The reference bookkeeping of a fired shot (R157). -/
def State.refFire (s : State) (i n j f : Nat) : State :=
  if !s.refOn then s
  else
    let l := s.refClash i f
    if l.isEmpty then s.mapStr i fun q => { q.mapRun n fun r => r.mapShot j fun h => { h with refSt := 1 } with refShots := q.refShots + 1 }
    else l.foldl State.unRef s

/-- A CAPREQ of the cell takes the first fired shot as its trigger (R260). -/
def State.capTrigger (s : State) (i n f : Nat) : State :=
  s.mapGw i fun g =>
    let set (c : Capture) : Capture := if c.src = 1 && c.cellNo = n && c.tTrig.isNone then
      { c with tTrig := some (f * 80 + c.delay * 3200), time := s.timeAt (f * 80 + c.delay * 3200), tapUse := s.useOf c.ch } else c
    { g with running := g.running.map set, waiting := g.waiting.map set }

/-- A pad gate of R27 holds the string's fire line low: once ARM_EN has fallen, it does so until firing resumes (R89, R571). -/
def State.padGated (s : State) (i : Nat) : Bool := s.pins.fireGate || !s.pins.armEn || !s.pins.armOk || (s.str i).blocked

/-- The edge of shot `h` at monitor timestamp `f`, `err` ticks off its requested instant (R90, R93, R98). -/
def State.fireEdge (s : State) (i : Nat) (r : CellRun) (h : Shot) (f : Nat) (err : Int) : State :=
  let off : Bool := h.vMeas + 2000 < h.vres * 20 || h.vres * 20 + 2000 < h.vMeas
  let skew := decide (err.natAbs > 512)
  let s := (s.emit .fire i (2000 + 500 * h.pw) []).count (256 + i) 1
  let s := s.mapStr i fun q => { q.mapRun r.cellNo fun r => { r.mapShot h.j fun h => { h with st := .fired, f := f } with outReg := r.outReg || off } with
    skewRun := if skew then q.skewRun + 1 else 0, skewCount := q.skewCount + b2n skew }
  (s.refFire i r.cellNo h.j f).capTrigger i r.cellNo f

/-- SHOT_FIRE: t_fire of string `str`'s oldest admitted shot: it fires with an edge `err` ticks off, or a pad gate stops it (R46, R90, R571). -/
def execShotFire (dt str : Nat) (err : Int) (s : State) : Host.Outcome State Fault Refusal := runUp dt s fun t =>
  match t.admittedShot str with
  | none => t
  | some (r, h) =>
    let edge := ((h.tFire : Int) + err).toNat
    if t.now < edge then t
    else if t.padGated str then
      (t.mapStr str fun q => q.mapRun r.cellNo fun r => r.mapShot h.j fun h => { h with st := .padStopped }).count (288 + str) 1
    else t.fireEdge str r h (edge / 80) err

/-- SCHED_RELOAD: the reload of the schedule set after a fourth complement failure in one Furrow ends; a failed one is FATAL (R89). -/
def execSchedReload (dt : Nat) (ok : Bool) (s : State) : Host.Outcome State Fault Refusal := runUp dt s fun t =>
  if !t.seq.reloading then t
  else
    let u := { t with seq := { t.seq with reloading := false } }
    if ok then u else u.post 0x2004 0 0

/-- SCHED_STATUS (R399; log 17): the set and the plan in the device block; per string its gate counters 1, 2, 3, 5 and SCHED_UNDERRUN. -/
def bodySchedStatus : Body := answer fun _ s =>
  replyWith (response 0x0302 [hSecVer s.sched, s.seq.variant, s.seq.ageing.getD 0, s.seq.planEpoch, b2n s.seq.planDomain] ((List.range 32).map fun i =>
    let q := s.str i
    [sat32 (q.gates.getD 0 0), sat32 (q.gates.getD 1 0), sat32 (q.gates.getD 2 0), sat32 (q.gates.getD 4 0), sat32 q.underruns]))

/-- SCHED_STATUS (R399). -/
def execSchedStatus (dt sub : Nat) (s : State) : Host.Outcome State Fault Refusal := run dt s fun t => t.gcs 0x0302 sub none bodySchedStatus

end Sys2Proof.Machine
end

