-- ==== Sys2Proof/Machine/Boundary.lean ====
section
/-! DEFINITION. Furrow boundaries, changes of state that a command or the firmware asks for, error handling, and the handover of the Steward pairs
(R45, R89, R106, R116, R118, R124, R148, R319, R374 to R377, R382, R383, R392 to R397, R513 to R516, R547 to R549). -/

namespace Sys2Proof.Machine

/-! Entry to RANGING (R375). -/

/-- Something asks for RANGING: a STATE_SET, or an automatic request (R375, R376). -/
def State.wantsRanging (s : State) : Bool := s.code == 4 && ((s.waiting .ranging).isSome || s.dev.autoRanging.isSome)
/-- Scan lock, bias and the arming of the thermal roles are all met (R117, R154, R375, R487). -/
def State.mayRange (s : State) : Bool := s.steer.locked && s.biasReady && s.hkArmed

/-- RANGING is entered, or DEGRADED where a reason stands (R106, R148, R156, R291, R375): verification ages start at 0, levels afresh, and shots wait
for a Furrow boundary. Engines that wait for a spare are served (R547). -/
def State.enterRanging (s : State) : State :=
  let deg := s.reasonsNow != 0
  let s := s.goto (if deg then 6 else 5) 0
  let fresh (c : ChanState) : ChanState := { c with fresh := true }
  let s := { s with
    seq := { s.seq with fireFrom := false }
    dev := { s.dev with autoRanging := none }
    rx := { s.rx with chans := { dflt := fresh s.rx.chans.dflt, cells := s.rx.chans.cells.map fun (c : Nat × ChanState) => (c.1, fresh c.2) } } }
  let s := s.each (List.range 32) fun i t => t.mapStr i fun q => { q with dlCount := 0, verAt := t.seq.rangingClk }
  let s := match s.waiting .ranging with
    | some e => s.finish e.sub (reply (if deg then 0x0003 else 0))
    | none => s
  s.assignSpares

/-- RANGING_ENTRY (R375). -/
def execRangingEntry (dt : Nat) (s : State) : Host.Outcome State Fault Refusal := runUp dt s fun t =>
  if t.wantsRanging && t.mayRange then t.enterRanging else t

/-- RANGING_WAIT_TIMEOUT: a request has waited 1 s; the first condition not met names its status, and an automatic request is given up with an
error (R117, R154, R376, R487). -/
def execRangingWaitTimeout (dt : Nat) (s : State) : Host.Outcome State Fault Refusal := runUp dt s fun t =>
  if t.mayRange then t
  else
    let st := if !t.steer.locked then 0x0210 else if !t.biasReady then 0x0211 else 0x0216
    let u := match t.waiting .ranging with
      | some e => if t.now ≥ e.since + sec 1 then t.finish e.sub (reply st) else t
      | none => t
    if u.dev.autoRanging.any fun a => decide (u.now ≥ a + sec 1) then
      ({ u with dev := { u.dev with autoRanging := none } }).post 0x1007 0 0 [st]
    else u

/-! The handover of the pairs (R392 to R397). -/

/-- RESUBMIT completions, in submission order, for the commands that a handover has abandoned (R392). -/
def State.resubmit (s : State) : State :=
  (s.cmds.inflight.filter fun e => e.abandoned && e.done.isNone).foldl (fun t e => t.finish e.sub (reply 0x0220)) s

/-- Fetching and mailbox acceptance resume (R392). -/
def State.resumeIntake (s : State) : State := ({ s with cmds := { s.cmds with paused := false } }).admitSlots 8

/-- The new pair takes control at the boundary, its image's microcode to run from the next boot on (R272): RESUBMITs, the completion of FW_HANDOVER, PF0 vector 8, and intake goes on (R392, step 6). A
calibration pass in progress is abandoned (R551). -/
def State.pairSwap (s : State) (sub : Nat) : State :=
  let n := s.fw.abandoned
  let s := { s with
    fw := { s.fw with active := 1 - s.fw.active, standbyOk := true, outcome := 1, abandoned := 0 }
    cal := { s.cal with passes := s.cal.passes.map fun (p : CalPass) => { p with inProg := false } } }
  let s := s.resubmit.finish sub (reply 0 (le 4 s.seq.furrow ++ le 4 n ++ le 8 s.deviceTime.toNat))
  ((((s.raise 0 8).post 0x1009 0 0 [1])).noteMicrocode s.fw.active).resumeIntake

/-- Whether a command has committed: it waits after it has changed something (R393). -/
def InFlight.hasCommitted (e : InFlight) : Bool :=
  e.committed || [WaitK.applyFurrow, .applyCell, .closing, .recStop, .reboot].contains e.wait

/-- Whether a waiting Baler job has written output (R393, R467). -/
def State.jobWrote (s : State) (e : InFlight) : Bool := e.wait == .baler && s.baler.running.any fun p => p.1 == e.sub && p.2.bytesOut != 0

/-- Commands in flight beside the handover that are not armed APPLYs (R392). -/
def State.drainLeft (s : State) (sub : Nat) : Bool :=
  s.cmds.inflight.any fun e => e.sub != sub && e.done.isNone && !(e.wait == .applyFurrow || e.wait == .applyCell)

/-- HANDOVER_DRAIN_END: the drain's time is over, or only armed APPLYs are left; commands that have not committed are abandoned (R392, R393), a
Baler job among them that has written no output; one that has ends with what it has produced (R467). -/
def execHandoverDrainEnd (dt : Nat) (s : State) : Host.Outcome State Fault Refusal := runUp dt s fun t =>
  match t.waiting .drain with
  | none => t
  | some e =>
    if t.now < e.arg && t.drainLeft e.sub then t
    else
      let lost (x : InFlight) : Bool := x.sub != e.sub && x.done.isNone && !x.hasCommitted && !(t.jobWrote x)
      let n := (t.cmds.inflight.filter lost).length
      let u := { t with
        fw := { t.fw with abandoned := t.fw.abandoned + n }
        cmds := { t.cmds with inflight := t.cmds.inflight.map fun x => if lost x then { x with abandoned := true, wait := .none } else x } }
      let u := u.mapCmd e.sub fun x => { x with wait := .swap, since := t.now }
      let u := (u.cmds.inflight.filter fun x => x.wait == .baler && x.done.isNone).foldl (fun v x => v.stopJob x.sub) u
      { u with baler := { u.baler with running := [] } }

/-- A pair fails its self-test and is unavailable until POR_N (R289, R292, R397). -/
def State.pairFails (s : State) (i : Nat) : State :=
  let s := s.mapPair i fun p => { p with avail := false, loading := false }
  let s := { s with fw := { s.fw with standbyOk := if i = s.fw.active then s.fw.standbyOk else false } }
  ((s.post 0x1006 9 i).logRepair 6 3 i 0xFFFF).spareZero 6 0

/-- STANDBY_SELF_TEST_FAIL: the handover is abandoned and the old pair keeps control (R392, R397). -/
def execStandbySelfTestFail (dt : Nat) (s : State) : Host.Outcome State Fault Refusal := runUp dt s fun t =>
  match t.handover with
  | none => t
  | some e =>
    let u := t.resubmit
    let u := { u with fw := { u.fw with outcome := 2, abandoned := 0 } }
    let u := (u.finish e.sub (reply 0x0520)).raise 0 8
    ((u.post 0x1009 0 0 [2]).pairFails u.standby).resumeIntake

/-- LOCKSTEP: a compare mismatch in a Steward pair (R519). -/
def execLockstep (dt pair : Nat) (s : State) : Host.Outcome State Fault Refusal := runUp dt s fun t => t.postHw 0x1005 9 pair

/-- STANDBY_READY: a pair that was reset, or released, has reloaded its image and passed its self-test (R291, R397). -/
def execStandbyReady (dt : Nat) (s : State) : Host.Outcome State Fault Refusal := runUp dt s fun t =>
  let p := t.pair t.standby
  if p.avail && p.loading then
    let u := t.mapPair t.standby fun p => { p with loading := false }
    { u with fw := { u.fw with standbyOk := true } }.dropReason 10
  else t

/-- PAIR_RELOAD_DONE: pair `pair` ends its reload. The active pair then writes the completions that it owes (R396); a pair that fails is unavailable (R397). -/
def execPairReloadDone (dt pair : Nat) (ok : Bool) (s : State) : Host.Outcome State Fault Refusal := runUp dt s fun t =>
  if pair ≥ 2 || !(t.pair pair).loading then t
  else if !ok then t.pairFails pair
  else
    let u := t.mapPair pair fun p => { p with loading := false }
    if pair = u.fw.active then
      if !u.fw.reloadSubs then u
      else
        let v := { u with fw := { u.fw with reloadSubs := false } }
        let v := (v.cmds.inflight.filter fun e => e.done.isNone).foldl (fun w e => w.finish e.sub (reply (if e.op = 0x0C01 then 0x0500 else 0x0220))) v
        v.resumeIntake
    else { u with fw := { u.fw with standbyOk := true } }.dropReason 10

/-! One Furrow boundary (R549). -/

/-- Step 1: STATE_SET to ARMED or HOLD takes effect, or RANGING is entered (R375, R549). A FATAL of the same engine cycle goes first, and what it leaves undone completes
with 0x0200 (R548). -/
def State.boundaryState (s : State) : State :=
  if !s.err.fatalDue.isEmpty then s
  else match s.waiting .toState with
  | some e =>
    let s := if s.ranges then s.dropRuns else s
    if e.arg = 4 then (s.goto 4 0).freshEstimates.finish e.sub (reply 0)
    else
      let t := ((s.mapCmd e.sub fun x => { x with wait := .closing }).failTransitions).enterHold 0
      if t.stream.opened then t else t.finish e.sub (reply 0)
  | none => if s.wantsRanging && s.mayRange then s.enterRanging else s

/-- Step 2: the APPLY that waits for the boundary (R382); one that was given in HOLD waits until the stream is closed, and leads to ARMED. -/
def State.boundaryApply (s : State) : State :=
  match s.waiting .applyFurrow with
  | none => s
  | some e =>
    if s.code = 3 then
      if s.stream.closing.isSome then s else let t := s.applyInHold; t.finish e.sub t.applyReply
    else if s.armedUp then let t := s.applySwap; t.finish e.sub t.applyReply
    else s

/-- Step 5: the pair swap of a handover whose drain is over (R392). -/
def State.boundarySwap (s : State) : State :=
  match s.waiting .swap with
  | some e => s.pairSwap e.sub
  | none => s

/-- Descriptor fields that hardware holds are checked against their complements, and a bad part is reloaded from the active set in the Silo: an ERROR, or FATAL where the Silo's
own part fails (R511, R512). R519 gives neither error a code: free values (log 7). The schedule and the budget have rules of their own (R83, R89). -/
def State.checkFields (s : State) : State :=
  s.each [3, 4, 5, 6, 7, 8, 9, 10, 2] fun n t =>
    let sound (b : Bytes) : Bool := b.drop (b.length / 2) == compl (b.take (b.length / 2))
    if sound (t.cfg.active.get n) then t
    else
      let ok := sound (t.cfg.silo.get n)
      let u := (t.integrityFault 6).useFree.postSev (if ok then 2 else 3) false (0x1000 + freeNat t % 0xF000) 0 0 []
      if ok then { u with cfg := { u.cfg with active := u.cfg.active.put n (u.cfg.silo.get n) } } else u

/-- Everything that waits for the boundary, in order (R549); then the bias targets (R149). -/
def State.boundary (s : State) : State := s.checkFields.boundaryState.boundaryApply.boundaryTail.boundarySwap

/-- A seed that failed its complement is replaced by the recomputed one: the state that the stepping has reached (R512). -/
def State.newSeeds (s : State) : State :=
  s.each (List.range 32) fun i t =>
    if (t.str i).seedBad then t.mapStr i fun q => { q with seedBad := false, seed := q.lfsr, seedC := ~~~ q.lfsr, seedSteps := 0 } else t

/-- The slow axis over the Furrow that ends: its steps, the reversal every FRAME_FURROWS, and the PWM duty, whose law is not stated (R124, log 7). -/
def State.slowFurrow (s : State) : State :=
  match s.pf 2 0x0C 1 2 with
  | 1 =>
    let n := s.pf 2 0x20 0 10
    let q := { s.steer with stepCount := stepAdd s.steer.slowDir s.steer.stepCount n, frameCount := s.steer.frameCount + 1 }
    if q.frameCount ≥ s.pf 2 0x20 16 16 then { s with steer := { q with frameCount := 0, slowDir := !q.slowDir } } else { s with steer := q }
  | 2 => { s.useFree with steer := { s.steer with slowDuty := freeNat s % 4096 } }
  | _ => s

/-- FURROW_BOUNDARY: the steering block declares a boundary of direction `dir`, at an engine-clock edge, while the axis is locked (R89, R118, R123, R124, R304, R549). With
FAST_SRC = 1 it is an ENC_Z pulse with `enc` counts since the one before; a wrong count loses lock in its place (R119, R120). -/
def execFurrowBoundary (dt : Nat) (dir : Bool) (enc : Nat) (s : State) : Host.Outcome State Fault Refusal := runUp dt s fun t =>
  if !t.steer.running || !t.steer.locked then t
  else if t.zBad enc then t.loseLock 4
  else
    let t := t.arbitrate false
    let t := if t.seq.furrows = 0 then t else t.slowFurrow
    let t := { t with seq := { t.seq with
      furrow := t.seq.furrows % 2 ^ 32, furrows := t.seq.furrows + 1, dir := dir, badInFurrow := 0, lastBoundary := engineEdge t.now } }
    let t := t.boundary.newSeeds.biasUpdate
    let t := { t with
      seq := { t.seq with fireFrom := true, nextCell := if t.steer.running && t.steer.locked then some 0 else none }
      pins := { t.pins with armOk := t.pins.armEn && t.pins.armStable, syncOutTill := if t.steer.running then t.now + ns 100 else t.pins.syncOutTill } }
    if t.steer.running then t.emit .syncOut 0 0 [] else t

/-- BOUNDARY_TAKEN_AT_ONCE: something waits for a Furrow boundary and none has been declared in the last 1 ms (R383). -/
def execBoundaryTakenAtOnce (dt : Nat) (s : State) : Host.Outcome State Fault Refusal := runUp dt s fun t =>
  let waits := [WaitK.applyFurrow, .toState, .swap].any fun w => (t.waiting w).isSome
  if waits && t.now ≥ t.seq.lastBoundary + ms 1 then t.boundary.biasUpdate else t

/-- The firmware path of a FATAL: outstanding alerts are retracted as ABORTED, sheaves and captures still open are abandoned, and the stream closes on
PATH 1 after the rest (R193, R234, R267, R324). -/
def State.firmwarePath (s : State) : State :=
  let s := s.thresh.outstanding.foldl (fun t a => t.retract a 3 0 0) s
  let s := (s.abandonSheaves fun h => h.ph == .accumulating).abandonCaptures fun c => !c.closed
  { s.clearAlerts with stream := { s.clearAlerts.stream with closing := some 1 } }

/-! STATE_SET, APPLY, RECOVER (R375, R377, R382, R466). -/

/-- STATE_SET (R375). -/
def bodyStateSet : Body := fun e _ s =>
  let target := e.p 0 0 4
  let wait (w : WaitK) : State × Option Completion := (s.mapCmd e.sub fun x => { x with wait := w, since := s.now, arg := target }, none)
  if [3, 4, 5].contains target && target = s.code then (s, some (reply 0x0001))
  else if target = 5 && s.code = 4 then wait .ranging
  else if (target = 4 && s.ranges) || (target = 3 && s.armedUp) then wait .toState
  else (s, some (reply 0x0200))

/-- The staged set changes the size of a Silo region (R466). -/
def State.resizes (s : State) : Bool := slice (s.cfg.staged.get 9) 0x0C 16 != slice (s.cfg.active.get 9) 0x0C 16

/-- APPLY (R382, R466). In HOLD it takes effect at once, whatever CELL says, once a stream that is closing has closed. -/
def bodyApply : Body := fun e _ s =>
  let differs (n : Nat) : Bool := s.cfg.staged.get n != s.cfg.active.get n
  let cell := e.p 0 0 1 == 1
  let wait (w : WaitK) : State × Option Completion := (s.mapCmd e.sub fun x => { x with wait := w, since := s.now, committed := true }, none)
  if !s.cfg.validated then (s, some (reply 0x0160))
  else if s.cfg.staged == s.cfg.active then (s, some (reply 0x0001))
  else if s.code != 3 && cell && (differs 1 || differs 2 || differs 10) then (s, some (reply 0x0161))
  else if s.resizes && !(s.code == 3 && s.recd.st == .idle) then (s, some (reply 0x0200))
  else if s.code = 3 then
    if s.stream.closing.isSome then wait .applyFurrow else let t := s.applyInHold; (t, some t.applyReply)
  else wait (if cell then .applyCell else .applyFurrow)

/-- RECOVER (R377, R400): SAFE is left for HOLD, its latch and a pending automatic recovery end. -/
def bodyRecover : Body := fun _ _ s =>
  let t := { s with dev := { s.dev with safeLatch := false, safeNoAuto := false, autoPend := false } }
  let t := if t.stream.opened && t.stream.closing != some 1 then t.firmwarePath else t
  (t.enterHold 0, some (reply 0))

/-- STATE_SET (R375). -/
def execStateSet (dt sub : Nat) (s : State) : Host.Outcome State Fault Refusal := runGcs dt 0x0102 sub none s bodyStateSet
/-- APPLY (R382). -/
def execApply (dt sub : Nat) (s : State) : Host.Outcome State Fault Refusal := runGcs dt 0x0202 sub none s bodyApply
/-- RECOVER (R377). -/
def execRecover (dt sub : Nat) (s : State) : Host.Outcome State Fault Refusal := runGcs dt 0x0103 sub none s bodyRecover

/-- AUTO_RECOVERY: 100 ms after entry to an unlatched SAFE, once the stream has closed: HOLD, the active set validated and applied again, ARMED, and a
request for RANGING (R376, R377). A set that fails leaves the device in HOLD with its status in CODE. -/
def execAutoRecovery (dt : Nat) (s : State) : Host.Outcome State Fault Refusal := runUp dt s fun t =>
  if t.code != 7 || !t.dev.autoResume || !t.dev.autoPend || t.dev.safeNoAuto || t.now < t.dev.safeAt + ms 100 || t.stream.opened then t
  else
    let t := ({ t with dev := { t.dev with autoPend := false } }).enterHold 0
    let j := ({ t with cfg := { t.cfg with staged := t.cfg.active } }).judgeSet (t.link.gen != 0)
    if !t.dev.applied then t
    else if j.status != 0 then { t with dev := { t.dev with code := BitVec.ofNat 16 j.status } }
    else
      let u := { t with dev := { t.dev with safeLatch := false }, link := { t.link with validatedRate := j.rate } }
      let u := (u.applyBudget.boundaryTail).enterArmed
      { u with dev := { u.dev with autoRanging := some u.now } }

/-! Error handling (R193, R234, R267, R513, R514). -/

/-- The record that is handled before `a`: higher severity, then the lower sequence number (R514). -/
def ErrRec.before (a b : ErrRec) : Bool := decide (b.sev < a.sev) || (a.sev == b.sev && decide (a.seqNo < b.seqNo))

/-- The unhandled record that is due first. -/
def Err.nextDue (e : Err) : Option ErrRec :=
  e.unhandled.foldl (fun b r => match b with | none => some r | some x => if r.before x then some r else some x) none

/-- The next record is taken up: an unhandled one, unless a suspended one of at least its severity resumes (R514). -/
def Err.takeUp (e : Err) : Err :=
  match e.nextDue with
  | none => e
  | some r =>
    let start := match e.handling with | [] => true | h :: _ => decide (h.sev < r.sev)
    if start then { e with handling := r :: e.handling, unhandled := e.unhandled.filter fun x => x.slot != r.slot } else e

/-- ERROR_HANDLING: the Steward handles one error. A FATAL in SAFE follows the firmware path, and ends with the final record; any other ends here
(R513, R514). Without an active pair nothing is handled (R396). -/
def execErrorHandling (dt : Nat) (s : State) : Host.Outcome State Fault Refusal := runUp dt s fun t =>
  if t.fw.reloadSubs then t
  else match t.err.handling with
    | [] => { t with err := t.err.takeUp }
    | h :: rest =>
      if h.sev = 3 && t.code == 7 && t.stream.opened then (if t.stream.closing == some 1 then t else t.firmwarePath)
      else { t with err := ({ t.err with handling := rest } : Err).takeUp }

end Sys2Proof.Machine
end

