-- ==== Sys2Proof/Machine/Cal.lean ====
section
/-! DEFINITION. Calibration passes, the calibration store, the ageing monitors and the margin ledger (R497 to R510 of
15_calibration_ageing_errors; R159 to R161 of 04; R405 of 12). -/

namespace Sys2Proof.Machine

/-! Passes (R500 to R503). -/

/-- The schedule with a pass of a stripe in it. -/
def State.addPass (s : State) (pass i : Nat) : State :=
  if s.cal.passes.any fun (p : CalPass) => p.pass == pass && p.stripe == i then s
  else { s with cal := { s.cal with passes := s.cal.passes ++ [{ pass := pass, stripe := i }] } }

/-- A pass of a stripe is to run before the others (R506). -/
def State.forward (s : State) (pass i : Nat) : State :=
  let rest := s.cal.passes.filter fun (p : CalPass) => p.pass != pass || p.stripe != i
  { s with cal := { s.cal with passes := { pass := pass, stripe := i } :: rest } }

/-- Passes 0 to 3 and 5 on each listed stripe. -/
def State.addStripes (s : State) (l : List Nat) : State := s.each l fun i t => t.each [0, 1, 2, 3, 5] fun p u => u.addPass p i

/-- The sum of the two TDC-region sensors of a stripe's group, in 1/16 degree each. -/
def State.stripeTemp (s : State) (i : Nat) : Int :=
  let g := groupOf (16 * i)
  (s.hk.sensors.get (2 * g)).value + (s.hk.sensors.get (2 * g + 1)).value

/-- CALIBRATION_SCHEDULE: every 10 minutes all stripes; a stripe whose group has moved 5 degrees since its last pass (R500). -/
def execCalibrationSchedule (dt : Nat) (s : State) : Host.Outcome State Fault Refusal := runUp dt s fun t =>
  if !t.armedUp then t
  else if t.now ≥ t.cal.schedAt + sec 600 then { t.addStripes (List.range 32) with cal := { (t.addStripes (List.range 32)).cal with schedAt := t.now } }
  else t.addStripes ((List.range 32).filter fun i =>
    (Tab.find i t.cal.lastPass.cells).isSome && decide ((t.stripeTemp i - t.cal.lastTemp.get i).natAbs ≥ 160))

/-- The kind and number of the object that a measurement names, by its pass. -/
def calObject (pass obj : Nat) : Nat × Nat :=
  if pass = 4 || pass = 6 then (1, obj) else if pass = 7 then (3, obj) else if pass = 5 && obj ≥ 1024 then (3, obj - 1024) else (2, obj)

/-- The terms that a pass produces (R500). -/
def calProduces (pass kind w : Nat) : Bool :=
  match pass with
  | 0 => kind == 2 && w < 40
  | 1 => kind == 2 && (w == 40 || w == 42 || (45 ≤ w && w < 53))
  | 2 => kind == 2 && (w == 43 || w == 44 || (45 ≤ w && w < 53))
  | 4 => kind == 1 && (w == 0 || (2 ≤ w && w < 39))
  | 5 => (kind == 3 && w < 4) || (kind == 2 && w == 53)
  | 6 => kind == 1 && 39 ≤ w && w < 927
  | 7 => kind == 3 && 4 ≤ w && w < 19
  | _ => false

/-- A coefficient measured, as kind, object, word, value and residual check. -/
structure CalItem where
  /-- object kind (R518) -/
  kind : Nat
  /-- object -/
  obj : Nat
  /-- word of the object's block -/
  w : Nat
  /-- value -/
  v : Int
  /-- what the residual check counts -/
  count : Nat
  /-- the residual -/
  err : Nat
  deriving DecidableEq, Repr

/-- The coefficients that a pass produces among what it measured; D_el is the pulser's mean less the residual skew of its tree, which the OTP holds (R159, R534). -/
def State.calItems (s : State) (pass : Nat) (l : List CalMeas) : List CalItem :=
  (l.map fun m => let o := calObject pass m.obj; { kind := o.1, obj := o.2, w := m.term, v := if pass = 1 && m.term = 40 then m.value - s.otp.treeSkew.get m.obj else m.value, count := m.count, err := m.err : CalItem }).filter
    fun x => calProduces pass x.kind x.w

/-- The widths of a lane's 20 taps in 1/256 LSB, with the measured starts where the pass has them. -/
def State.tapWidths (s : State) (l : List CalItem) (c lane : Nat) : List Int :=
  let start (i : Nat) : Int := ((l.find? fun x => x.obj == c && x.w == 20 * lane + i).map (·.v)).getD (s.calAt (tLin c lane i) (s.dieT c))
  (List.range 20).map fun i => if i = 19 then 5120 + start 0 - start 19 else start (i + 1) - start i

/-- Lanes, as channel and lane number, with a measured tap in a linearity pass. -/
def lanesIn (l : List CalItem) : List (Nat × Nat) := (l.map fun x => (x.obj, x.w / 20)).eraseDups

/-- The lanes that R161 judges failed in a pass, as channel and lane, and the state with the count of consecutive differences kept. In a skew pass D_el is TDC-A's mean, and
TDC-B's is the measured A - B offset below it; a lane fails whose mean departs from the other's by more than 4 LSB beyond the stored offset twice running, where the other
lane agrees with the channel's previous set within 2 LSB (how closely it must agree is not stated: DESIGN CHOICE, log 77). -/
def State.failedLanes (s : State) (pass : Nat) (l : List CalItem) : State × List (Nat × Nat) :=
  if pass = 0 then (s, (lanesIn l).filter fun x => (s.tapWidths l x.1 x.2).any fun d => decide (d * 10 < 256) || decide (d * 10 > 4864))
  else if pass = 1 then
    l.foldl (fun (p : State × List (Nat × Nat)) x =>
      if x.w != 42 then p
      else
        let c := x.obj
        let ab := s.calAt (tAB c) (s.dieT c)
        if (x.v - ab).natAbs ≤ 64 then (p.1.mapCh c fun q => { q with abRun := 0 }, p.2)
        else if (s.ch c).abRun = 0 then (p.1.mapCh c fun q => { q with abRun := 1 }, p.2)
        else match l.find? fun y => y.obj == c && y.w == 40 with
          | none => p
          | some y =>
            let a := y.v - s.calAt (tDel c) (s.dieT c)
            if a.natAbs ≤ 32 then (p.1, p.2 ++ [(c, 1)]) else if (a - (x.v - ab)).natAbs ≤ 32 then (p.1, p.2 ++ [(c, 0)]) else p) (s, [])
  else (s, [])

/-- A timing lane fails: the spare lane takes over at the next sheaf boundary, or the channel is dead (R161, R289, R290, R292). -/
def State.laneFails (s : State) (c lane : Nat) : State :=
  let q := s.ch c
  if (if lane = 0 then q.laneAFail else q.laneBFail) then s
  else
    let t := s.mapCh c fun q => if lane = 0 then { q with laneAFail := true } else { q with laneBFail := true }
    let t := (t.post 0x3004 2 c [lane]).logRepair 3 3 (2 * c + lane) (if lane = 0 && !q.laneBFail then 2 * c + 1 else 0xFFFF)
    if (t.ch c).laneAFail && (t.ch c).laneBFail then t.channelFails c 2 else t.spareZero 3 c

/-- A slice of a converter that its calibration in a CAL cell shows failed: retired as the spare, or replaced in its position (R241, R242). -/
def State.calSliceFails (s : State) (a sl : Nat) : State :=
  let g := s.gw.get a
  if g.spare = some sl then s.spareSliceFails a sl
  else match (List.range 4).find? fun p => g.pos.getD p 9 == sl with
    | some p => s.sliceFails a p
    | none => s

/-- The checks of R502 on a pass: the first failure as object kind, object and check. -/
def State.calFailure (s : State) (pass : Nat) (l : List CalItem) : Option (Nat × Nat × Nat) :=
  let wide := if pass = 0 then (lanesIn l).find? fun x => (s.tapWidths l x.1 x.2).any fun d => decide (d * 10 < 768) || decide (d * 10 > 4352) else none
  match wide with
  | some x => some (2, x.1, 1)
  | none => l.findSome? fun x =>
    let c := s.calJudge x.kind x.obj x.w x.v (residOk x.kind x.w x.count x.err)
    if c = 0 then none else some (x.kind, x.obj, c)

/-- The coefficients of an accepted pass (R501). -/
def State.calAccept (s : State) (l : List CalItem) : State :=
  l.foldl (fun t x => let m := calTerm x.kind x.obj x.w; t.calTake m (s.calAt m (s.calTemp x.kind x.obj x.w)) x.v) s

/-- A slice has completed a calibration in the foreground (R242). -/
def State.sliceDone (s : State) (a sl : Nat) : State :=
  s.mapGw a fun g => { g with fgSlice := if g.fgSlice = some sl then none else g.fgSlice, calDone := if g.calDone.contains sl then g.calDone else g.calDone ++ [sl] }

/-- A pass's results are judged (R161, R241, R500 to R503). -/
def State.calResults (s : State) (pass : Nat) (meas : List CalMeas) : State :=
  if pass = 3 then meas.foldl (fun t m => { t with cal := { t.cal with vbd := t.cal.vbd.set m.obj m.value } }) s
  else
    let all := s.calItems pass meas
    let bad := ((all.filter fun x => x.kind == 3 && decide (4 ≤ x.w) && !(calBoundOk 3 x.w x.v)).map fun x => (x.obj, (x.w - 4) / 3)).eraseDups
    let s := bad.foldl (fun t x => t.calSliceFails x.1 x.2) s
    let l := all.filter fun x => !(x.kind == 3 && decide (4 ≤ x.w) && bad.contains (x.obj, (x.w - 4) / 3))
    let f := s.failedLanes pass l
    let t := f.2.foldl (fun t x => t.laneFails x.1 x.2) f.1
    let rest := l.filter fun x => !(f.2.any fun (y : Nat × Nat) => y.1 == x.obj && (pass == 1 || y.2 == x.w / 20))
    match s.calFailure pass rest with
    | some e => t.calReject e.1 e.2.1 pass e.2.2
    | none => (rest.filter fun x => x.kind == 3 && decide (4 ≤ x.w)).foldl (fun u x => u.sliceDone x.obj ((x.w - 4) / 3)) (t.calAccept rest)

/-- A dark-count pass ends at the second of its two excess biases; the group's own R149 change follows at the next Furrow boundary (R159, R160; log 7). -/
def State.darkEnds (s : State) (g : Nat) : State :=
  s.useFree.mapGroup g fun q => { q with deferred := false, code := freeNat s % (s.maxCode g + 1), changed := s.now }

/-- The present cell has CAL = 1 for every string (R164). -/
def State.calEverywhere (s : State) : Bool := (List.range 32).all fun i => ((s.str i).runs.head?).any fun r => eCal r.entry && !r.ended

/-- A pass can have measured an object: CH_REF, which every string lights, only in a cell with CAL = 1 for every string (R164), and a slice's coefficients only while the
slice is out of service, as the spare or in a foreground calibration (R238, R242). -/
def State.calReaches (s : State) (pass : Nat) (m : CalMeas) : Bool :=
  if [0, 1, 2].contains pass then m.obj != 512 || s.calEverywhere
  else if pass = 5 then m.obj != 512 || s.calEverywhere
  else if pass = 7 then m.term < 4 || (let g := s.gw.get m.obj; g.spare == some ((m.term - 4) / 3) || g.fgSlice == some ((m.term - 4) / 3))
  else true

/-- CALIBRATION_PASS_END (R159, R500 to R503); passes 4 and 6 run while the device ranges, pass 7 from HOLD to SAFE (R547). -/
def execCalibrationPassEnd (dt stripe pass : Nat) (meas : List CalMeas) (s : State) : Host.Outcome State Fault Refusal := runUp dt s fun t =>
  let ok : Bool := if pass = 7 then true else if [4, 6].contains pass then t.ranges
    else t.armedUp && t.cal.passes.any fun (p : CalPass) => p.pass == pass && p.stripe == stripe && p.inProg
  if !ok then t
  else
    let t := meas.foldl (fun u m => let o := calObject pass m.obj; if pass = 3 then u else u.checkCal o.1 o.2) t
    let t := t.calResults pass (meas.filter fun m => t.calReaches pass m)
    let t := { t with cal := { t.cal with
      passes := t.cal.passes.filter fun (p : CalPass) => p.pass != pass || p.stripe != stripe
      lastPass := t.cal.lastPass.set stripe t.now
      lastTemp := t.cal.lastTemp.set stripe (t.stripeTemp stripe) } }
    let t := if pass = 3 then t.darkEnds (groupOf (16 * stripe)) else t
    t.post 0x3007 0 0 [pass, stripe]

/-! The sets as bytes (R499). -/

/-- The term whose first byte stands at offset `o` of a set. -/
def calTermAt (o : Nat) : Term :=
  if o < 0x100C0 then calTerm 2 ((o - 0x40) / 128) ((o - 0x40) % 128 / 2)
  else if o < 0x200C0 then calTerm 1 ((o - 0x100C0) / 2048) ((o - 0x100C0) % 2048 / 2)
  else calTerm 3 ((o - 0x200C0) / 64) ((o - 0x200C0) % 64 / 2)

/-- Set `k` of the working copy, field changes included, with its complement. -/
def State.calImage (s : State) (k : Nat) : Bytes :=
  let v := (s.cal.sets.getD k []).take calLen
  let v := s.cal.delta.cells.foldl (fun b (e : Nat × Int) =>
    let t := calTermAt e.1
    splice b e.1 (le t.width (twos (8 * t.width) (s.calIn k t)))) v
  v ++ compl v

/-- The header of set `k` (R499). The place of each field after FORMAT is the model's (log 18). -/
def State.calHeaderOk (s : State) (k : Nat) (b : Bytes) : Bool :=
  num b 0 4 == 0x4C41434A && num b 4 2 == 1 && num b 6 2 == k && signed 16 (num b 8 2) == [-400, 0, 250, 600, 950, 1250].getD k 0
    && num b 0x10 8 == s.ident.serial.toNat && num b 0x18 4 == calLen

/-- A term of a loaded set: unmeasured, or within its bounds (R499, R502). -/
def calLoadOk (b : Bytes) (kind obj w : Nat) : Bool :=
  let t := calTerm kind obj w
  let v := num b t.ofs t.width
  v == 2 ^ (8 * t.width - 1) || calBoundOk kind w (if t.signed then signed (8 * t.width) v else v)

/-- The tap widths of a lane in a loaded set, where its taps are measured (R499, R502). -/
def calTapsOk (b : Bytes) (c lane : Nat) : Bool :=
  let l := (List.range 20).map fun i => num b (calCh c + 40 * lane + 2 * i) 2
  let w := (List.range 20).map fun i => if i = 19 then (5120 + l.getD 0 0 : Int) - l.getD 19 0 else (l.getD (i + 1) 0 : Int) - l.getD i 0
  l.contains 0x8000 || w.all fun d => decide (768 ≤ d * 10) && decide (d * 10 ≤ 4352)

/-- Every term of a loaded set passes its bound (R502, R504). -/
def calBoundsOk (b : Bytes) : Bool :=
  ((List.range 513).all fun c => ((calWords 2).all fun w => calLoadOk b 2 c w) && calTapsOk b c 0 && calTapsOk b c 1) &&
  ((List.range 32).all fun i => (calWords 1).all fun w => calLoadOk b 1 i w) &&
  (List.range 32).all fun a => (calWords 3).all fun w => calLoadOk b 3 a w

/-! Commands (R399, R500, R504, R510). -/

/-- CAL_RUN (R500). -/
def bodyCalRun : Body := fun e _ s =>
  let p := e.p 0 0 8
  let l := bitsOf 32 (e.p 4 0 32)
  if p ≥ 7 then (s, some (reply 0x0102)) else (s.each l fun i t => t.addPass p i, some (reply 0 (le 4 l.length)))

/-- CAL_STATUS: rejected passes, ageing level, store generation and whether a store write is due; then for each stripe the masks of scheduled passes and
of passes in progress, and the age of its last pass in nanoseconds (R399, R500, R503; layout log 17). -/
def bodyCalStatus : Body := answer fun _ s =>
  let m (i : Nat) (p : CalPass → Bool) := maskOf 8 fun k => s.cal.passes.any fun (x : CalPass) => x.pass == k && x.stripe == i && p x
  replyWith (response 0x0A02 [sat32 s.cal.rejects, s.cal.level, s.cal.gen, b2n s.cal.dirty]
    ((List.range 32).map fun i => [m i fun _ => true, m i (·.inProg)] ++
      two (match Tab.find i s.cal.lastPass.cells with | some t => (s.now - t) / 5120 | none => 2 ^ 64 - 1)))

/-- CAL_READ: one set as the device block (R399, R499). -/
def bodyCalRead : Body := answer fun e s =>
  let k := e.p 0 0 3
  if k > 5 then reply 0x0102
  else
    let b := s.calImage k
    replyWith (le 2 0x0A03 ++ le 2 1 ++ le 2 0 ++ le 2 0 ++ le 4 b.length ++ le 4 0 ++ b)

/-- CAL_LOAD (R504). -/
def bodyCalLoad : Body := fun _ b s =>
  let sets := (List.range 6).map fun k => slice b (2 * calLen * k) (2 * calLen)
  if sets.any fun x => compl (x.take calLen) != x.drop calLen then (s, some (reply 0x0421))
  else if !((List.range 6).all fun k => s.calHeaderOk k (sets.getD k [])) || !(sets.all calBoundsOk) then (s, some (reply 0x0102))
  else
    let t := { s with
      cal := { s.cal with sets := sets, delta := ⟨0, []⟩, slope := ⟨0, []⟩, serdesBase := ⟨0, []⟩, level := 0, dirty := true, loadDue := some s.now }
      rx := { s.rx with chans := { s.rx.chans with cells := s.rx.chans.cells.map fun (x : Nat × ChanState) => (x.1, { x.2 with abRun := 0 }) } } }
    (t.reselect, some (reply 0))

/-- LEDGER_READ (R364, R510). -/
def bodyLedgerRead : Body := answer fun e s =>
  let m := e.p 0 0 8
  if m > 7 then reply 0x0102
  else
    let l := s.cal.ledger.get m
    let l := List.replicate (64 - l.length) (List.replicate 32 (0 : BitVec 8)) ++ l
    replyWith (le 2 0x0A10 ++ le 2 1 ++ le 2 64 ++ le 2 32 ++ le 4 0 ++ le 4 0 ++ l.flatten)

/-- CAL_RUN (R500). -/
def execCalRun (dt sub : Nat) (s : State) : Host.Outcome State Fault Refusal := runGcs dt 0x0A01 sub none s bodyCalRun
/-- CAL_STATUS (R399). -/
def execCalStatus (dt sub : Nat) (s : State) : Host.Outcome State Fault Refusal := runGcs dt 0x0A02 sub none s bodyCalStatus
/-- CAL_READ (R399). -/
def execCalRead (dt sub : Nat) (s : State) : Host.Outcome State Fault Refusal := runGcs dt 0x0A03 sub none s bodyCalRead
/-- CAL_LOAD (R504). -/
def execCalLoad (dt sub : Nat) (payload : Option Bytes) (s : State) : Host.Outcome State Fault Refusal := runGcs dt 0x0A04 sub payload s bodyCalLoad
/-- LEDGER_READ (R510). -/
def execLedgerRead (dt sub : Nat) (s : State) : Host.Outcome State Fault Refusal := runGcs dt 0x0A10 sub none s bodyLedgerRead

/-! The store (R505). -/

/-- The older copy is written, its header last; a write that fails leaves it without a valid header (R505, R520). -/
def State.storeCal (s : State) (ok : Bool) : State :=
  let i := match s.storePick with | some k => 1 - k | none => 0
  let g := s.cal.gen + 1
  let f := s.flash
  if ok then
    { s with
      flash := { f with
        calCopies := f.calCopies.set i (storeHeader g), calSets := f.calSets.set i s.cal.sets, calDelta := f.calDelta.set i s.cal.delta
        calSlope := f.calSlope.set i s.cal.slope, calSerdes := f.calSerdes.set i s.cal.serdesBase, calLevel := f.calLevel.set i s.cal.level
        calLedger := f.calLedger.set i s.cal.ledger }
      cal := { s.cal with gen := g, dirty := false, loadDue := none, storeAt := s.now } }
  else { s with flash := { f with calCopies := f.calCopies.set i [] } }

/-- A stored copy whose header disagrees with its complement is counted (R511, R512). -/
def State.countCopies (s : State) : State :=
  s.each [0, 1] fun i t => let b := t.flash.calCopies.getD i []; if b.isEmpty || b.drop 64 == compl (b.take 64) then t else t.integrityFault 9

/-- The newer valid copy is taken at boot; none leaves the sets empty (R505). -/
def State.loadCal (s : State) : State :=
  let s := s.countCopies
  match s.storePick with
  | none => { s with cal := { s.cal with sets := [] } }
  | some i =>
    let f := s.flash
    { s with cal := { s.cal with
      sets := f.calSets.getD i [], delta := f.calDelta.getD i ⟨0, []⟩, slope := f.calSlope.getD i ⟨0, []⟩, serdesBase := f.calSerdes.getD i ⟨0, []⟩
      level := f.calLevel.getD i 0, ledger := f.calLedger.getD i ⟨[], []⟩, gen := (s.storeGen i).getD 0 } }

/-- A store write is due (R505). -/
def State.storeDue (s : State) : Bool := s.cal.loadDue.isSome || (s.cal.dirty && decide (s.now ≥ s.cal.storeAt + sec 3600))

/-- CAL_STORE_WRITE (R505). -/
def execCalStoreWrite (dt : Nat) (flashOk : Bool) (s : State) : Host.Outcome State Fault Refusal := runUp dt s fun t =>
  if t.storeDue then t.storeCal flashOk else t

/-! The ageing monitors (R506 to R510). -/

/-- What a monitor reads of one object at a re-plan, and what it does. -/
structure Reading where
  /-- object, in the monitor's numbering -/
  obj : Nat
  /-- measured value -/
  v : Int
  /-- distance from the limit -/
  margin : Int
  /-- ACTION of R510 -/
  action : Nat := 1
  /-- setting before -/
  old : Int := 0
  /-- setting after -/
  new : Int := 0
  /-- LIMIT: the figure code, or 0 -/
  figure : Nat := 0
  /-- the value that was wanted, 0 for a monitor with no setting -/
  wanted : Int := 0
  /-- the value that was applied -/
  applied : Int := 0
  deriving DecidableEq, Repr

/-- A ledger entry (R510). -/
def ledgerEntry (mon : Nat) (time : DWord) (r : Reading) : Bytes :=
  le 4 (pack [(0, mon), (8, r.action), (16, b2n (r.action ≥ 2)), (17, b2n (r.figure != 0))]) ++ le 4 r.obj ++ le 8 time.toNat
    ++ le 4 (twos 32 r.v) ++ le 4 (twos 32 r.margin) ++ le 4 (twos 32 r.old) ++ le 4 (twos 32 r.new)

/-- The least-margin reading of a list. -/
def leastMargin (l : List Reading) : Option Reading :=
  l.foldl (fun b r => match b with | none => some r | some x => if r.margin < x.margin then some r else some x) none

/-- The object kind and number under which AGEING_LIMIT names a monitor's object (R518, R519). -/
def limitObject (mon o : Nat) : Nat × Nat :=
  match mon with
  | 0 => (12, o) | 1 => (2, o / 2) | 2 => (11, o) | 3 => (1, o) | 4 => (3, o / 5) | 5 => (5, o) | _ => (2, o)

/-- AGEING_LIMIT, once per monitor and object in a boot (R508). -/
def State.ageLimit (s : State) (mon : Nat) (r : Reading) : State :=
  if r.figure = 0 || s.cal.limited.contains (mon, r.obj) then s
  else
    let k := limitObject mon r.obj
    ({ s with cal := { s.cal with limited := (mon, r.obj) :: s.cal.limited } }).post 0x7001 k.1 k.2 [mon, r.figure, twos 32 r.wanted, twos 32 r.applied]

/-- The last `n` of a list. -/
def lastOf {α : Type} (n : Nat) (l : List α) : List α := l.drop (l.length - n)

/-- A monitor's readings of a re-plan: its limits, and at most four ledger entries, first the object with the least margin, then its actions in
descending size of change (R508, R510). -/
def State.monitorDone (s : State) (mon : Nat) (l : List Reading) : State :=
  let acts := sortBy (fun (a b : Reading) => decide ((a.new - a.old).natAbs > (b.new - b.old).natAbs)) (l.filter fun r => r.action ≥ 2)
  let first := leastMargin l
  let picked := match first with
    | none => acts
    | some r => r :: acts.filter fun x => x.obj != r.obj
  let entries := (picked.take 4).map (ledgerEntry mon s.deviceTime)
  let s := l.foldl (fun t r => t.ageLimit mon r) s
  if entries.isEmpty then s
  else { s with cal := { s.cal with dirty := true, ledger := s.cal.ledger.upd mon fun old => lastOf 64 (old ++ entries) } }

/-- The readings given for a monitor, by object. -/
def given (m : List (List Int)) (k : Nat) : List (Nat × Int) := (m.getD k []).zipIdx.map fun x => (x.2, x.1)

/-- Monitor 0, PATH_DELAY (R506). -/
def State.replan0 (s : State) (l : List (Nat × Int)) : State :=
  let rs := l.map fun (x : Nat × Int) =>
    let eng : Bool := x.1 < 1088
    ({ obj := x.1, v := x.2, margin := x.2 - 600, figure := if !eng && decide (x.2 < 600) then 3 else 0
       action := if eng then (if x.2 < 600 then 3 else 1) else if x.2 < 1000 then 5 else 1 } : Reading)
  let s := s.monitorDone 0 rs
  (rs.filter fun r => r.action == 3).foldl (fun t r => if t.heldPos r.obj < 1024 then t.raiseCause (t.heldPos r.obj) 5 else t) s

/-- Monitor 1, TDC_LIN: a linearity pass is brought forward for a lane above 0.25 LSB (R506). -/
def State.replan1 (s : State) (l : List (Nat × Int)) : State :=
  let rs := l.map fun (x : Nat × Int) =>
    ({ obj := x.1, v := x.2, margin := 64 - x.2, figure := if x.2 > 64 then 2 else 0, action := if decide (x.2 > 64) && decide (x.1 < 1024) then 4 else 1 } : Reading)
  (rs.filter fun r => r.action == 4).foldl (fun t r => t.forward 0 (r.obj / 32)) (s.monitorDone 1 rs)

/-- Monitor 2, DETECTOR: the working copy of VBD25 moves toward the breakdown measured, by 50 mV at most (R149, R506, R508). -/
def State.replan2 (s : State) : State :=
  let one (p : State × List Reading) (x : Nat × Int) : State × List Reading :=
    let g := x.1
    let base : Int := p.1.grp g 4 0 16
    let old := base + (p.1.group g).vbdAdj
    let new := old + max (-5) (min 5 (x.2 - old))
    let t := p.1.mapGroup g fun q => { q with vbdAdj := new - base }
    let want := t.biasWant g
    let top : Int := t.maxCode g
    let gain : Int := t.grp g 16 0 16
    (t, p.2 ++ [{ obj := g, v := x.2, margin := roundQ (((top - want) * gain : Int) / 100 : Rat), action := if new = old then 1 else 2, old := old, new := new
                  figure := if want > top then 1 else 0, wanted := want, applied := min top want }])
  let r := s.cal.vbd.cells.foldl one (s, [])
  r.1.monitorDone 2 r.2

/-- The ratio of a SLOPE reading to its baseline in 1/1,000 (R506). -/
def State.slopeRatio (s : State) (i : Nat) (v : Rat) : Int :=
  let b := s.cal.slope.get i
  if b ≤ 0 then 1000 else roundQ (v * 1000 / b)

/-- The ageing level that a SLOPE ratio asks for (R509). -/
def slopeLevel (r : Int) : Nat :=
  if r ≥ 900 then 0 else if r ≥ 850 then 1 else if r ≥ 800 then 2 else if r ≥ 750 then 3 else if r ≥ 700 then 4 else 5

/-- The SLOPE measure of each string with assigned CH_REF events since the last re-plan: photons per nJ over all of them together, as the rule says no more of the mean than
that (R506; DESIGN CHOICE, log 99). -/
def State.slopes (s : State) : List (Nat × Rat) :=
  (List.range 32).filterMap fun i => let q := s.str i; if q.slopeQ = 0 then none else some (i, (q.slopeN : Rat) / q.slopeQ)

/-- Monitor 3, SLOPE, and the ageing level, which `regions` may raise too (R506, R509). The first re-plan after CAL_LOAD sets the baselines. -/
def State.replan3 (s : State) (regions : Bool) : State :=
  let l := s.slopes
  let s := s.each (List.range 32) fun i t => t.mapStr i fun q => { q with slopeN := 0, slopeQ := 0 }
  let s := { s with cal := { s.cal with slope := l.foldl (fun (t : Tab Rat) (x : Nat × Rat) => if (Tab.find x.1 t.cells).isSome then t else t.set x.1 x.2) s.cal.slope } }
  let old := s.cal.level
  let low := (l.map fun x => s.slopeRatio x.1 x.2).foldl min 1000
  let new := max old (max (slopeLevel low) (if regions then 1 else 0))
  let rs := l.map fun (x : Nat × Rat) =>
    let r := s.slopeRatio x.1 x.2
    ({ obj := x.1, v := r, margin := r - 700, figure := if r < 700 then 4 else 0, action := if r = low ∧ new > old then 5 else 1
       old := if r = low ∧ new > old then (old : Int) else 0, new := if r = low ∧ new > old then (new : Int) else 0 } : Reading)
  let s := { s with cal := { s.cal with level := new } }
  s.monitorDone 3 rs |>.reselect

/-- Monitor 4, ADC_SLICE: how far offset and gain of each slice stand from the bounds of R241, the nearer one, in per cent of the bound (R506). -/
def State.replan4 (s : State) : State :=
  s.monitorDone 4 ((List.range 160).filterMap fun n =>
    let a := n / 5
    let o := tSlice a (n % 5) 0
    let g := tSlice a (n % 5) 1
    if !(s.calHas o) || !(s.calHas g) then none
    else
      let left (b : Int) (v : Int) : Int := roundQ (((b - (v.natAbs : Int)) * 100 : Int) / (b : Rat))
      let v := min (left 512 (s.calAt o (s.gwT a))) (left 6553 (s.calAt g (s.gwT a)))
      some { obj := n, v := v, margin := v - 25, figure := if v < 25 then 6 else 0 })

/-- Monitor 6, CHANNEL_GAIN: Q1 against its loaded value (R506). -/
def State.replan6 (s : State) : State :=
  s.monitorDone 6 ((List.range 513).filterMap fun c =>
    let t := tQ1 c
    let now := s.calAt t (s.pixT c)
    let loaded := now - (s.calField t).getD 0
    if s.calBlank t || loaded ≤ 0 then none
    else
      let r := roundQ ((now * 1000 : Int) / loaded : Rat)
      some { obj := c, v := r, margin := r - 500, figure := if r < 500 then 1 else 0 })

/-- Monitor 7, SKEW: what field passes have added to D_el (R506); 300 ps are 307.2 units. -/
def State.replan7 (s : State) : State :=
  s.monitorDone 7 ((List.range 513).filterMap fun c =>
    if s.calBlank (tDel c) then none
    else
      let d := (s.calField (tDel c)).getD 0
      some { obj := c, v := d, margin := 307 - (d.natAbs : Int), figure := if d.natAbs > 307 then 2 else 0 })

/-- REPLAN: `margins` holds the readings of monitor 0 and monitor 1, by object; the others read the device's own state. It runs after 10 minutes of engine-clock time in ARMED, RANGING or DEGRADED; during a handover it waits for the pair active after the swap
(R506 to R510, R520). -/
def execReplan (dt : Nat) (margins : List (List Int)) (s : State) : Host.Outcome State Fault Refusal := runUp dt s fun t =>
  if t.cal.replanT < sec 600 || t.handover.isSome || !t.armedUp then t
  else
    let t := { t with cal := { t.cal with replanT := t.cal.replanT - sec 600 } }
    let g (k : Nat) := given margins k
    let low := (g 0).any fun x => decide (x.1 ≥ 1088) && decide (x.2 < 1000)
    ((((((t.replan0 (g 0)).replan1 (g 1)).replan2).replan3 low).replan4).replan6).replan7

/-- EYE_MARGIN_READ: monitor 5 of R506. New adaptation targets are free values: the spec gives no rule for them (R405, log 7). -/
def execEyeMarginRead (dt : Nat) (heights : List Nat) (s : State) : Host.Outcome State Fault Refusal := runUp dt s fun t =>
  if t.now < t.cal.eyeAt + sec 600 then t
  else
    let l : List (Nat × Nat) := (heights.take 8).zipIdx.map fun x => (x.2, x.1)
    let base := l.foldl (fun (b : Tab Int) (x : Nat × Nat) => if (Tab.find x.1 b.cells).isSome then b else b.set x.1 x.2) t.cal.serdesBase
    let t := { t with cal := { t.cal with eyeAt := t.now, serdesBase := base } }
    let one (p : State × List Reading) (x : Nat × Nat) : State × List Reading :=
      let old := (p.1.lane x.1).adapt
      let new := freeNat p.1
      (p.1.useFree.mapLane x.1 fun q => { q with adapt := new },
        p.2 ++ [{ obj := x.1, v := x.2, margin := (x.2 : Int) - 6, action := if new = old then 1 else 2, old := old, new := new
                  figure := if x.2 < 6 then 5 else 0 }])
    let r := l.foldl one (t, [])
    r.1.monitorDone 5 r.2

end Sys2Proof.Machine
end

