-- ==== Sys2Proof/Machine/HostLink.lean ====
section
/-! DEFINITION. The host link and the resets of the host interface (R20, R22, R31, R326 to R332, R357 to R360). -/

namespace Sys2Proof.Machine

/-- Stream capacity in bytes per second (R20). -/
def State.capacity (s : State) : Nat := capMB s.link.gen s.link.width * 1000000

/-- A function can issue requests again: what waits goes out, and stream rings are served (R332, R357, R360). -/
def State.resumeFn (s : State) (fn : Nat) : State :=
  let s := s.flushFn fn
  if fn = 1 && s.canWrite 1 then s.serveRings ringNums else s

/-- A function after a reset: its configuration space and MSI-X table at their reset values; the fields that the bus standard calls sticky, those of
Advanced Error Reporting, stay where `sticky` is set (R357, log 13). -/
def Fn.afterReset (sticky : Bool) (f : Fn) : Fn :=
  if sticky then { aerUMask := f.aerUMask, aerUSev := f.aerUSev, aerCMask := f.aerCMask, ecrcGen := f.ecrcGen, ecrcChk := f.ecrcChk } else {}

/-- A function's configuration space and MSI-X table are reset, and what it has not yet sent is withheld (R357, R359). -/
def State.clearFn (s : State) (fn : Nat) (sticky : Bool) : State := (s.mapFn fn (Fn.afterReset sticky)).dropFn fn

/-- The host interface of PF0 is reset (R339, R357): rings, mailbox, doorbells, MSI-X, the refusal latch, INT_PEND and TIME_HI; completions of
commands in flight are discarded, and so is the staged configuration; the session closes. -/
def State.resetPf0 (s : State) : State :=
  let s := s.clearFn 0 true
  { s with
    pf0 := { holdOnReset := s.pf0.holdOnReset }
    cmds := { s.cmds with rings := [{}, {}, {}, {}], slots := [], busy := 0, done := 0, queuedSlots := []
                          inflight := s.cmds.inflight.map fun e => { e with discard := true } }
    cfg := { s.cfg with staged := s.cfg.active, validated := false }
    priv := { s.priv with opened := false } }

/-- A stream ring after a reset of PF1: its registers at their reset values, disabled, its records held, those of the batch first (R357, R359), and `l` the
alerts that were still to be written to it. -/
def StreamRing.afterReset (l : List Bytes) (q : StreamRing) : StreamRing :=
  { held := q.batch ++ q.held, heldAlerts := q.heldAlerts ++ l, opened := q.opened, records := q.records }

/-- The host interface of PF1 is reset (R357). Alerts that wait are kept for each ring that takes them, and delivered when it is enabled again, ahead of
the records that confirm them (R359, R360). -/
def State.resetPf1 (s : State) (sticky : Bool) : State :=
  let s := s.clearFn 1 sticky
  { s with
    thresh := { s.thresh with alertQ := [] }
    srings := { s.srings with cells := s.srings.cells.map fun (c : Nat × StreamRing) => (c.1, c.2.afterReset (s.thresh.alertQ.filter c.2.takes)) } }

/-- HOLD_ON_RESET: a host reset moves a running device to HOLD (R358). -/
def State.holdOnReset (s : State) : State :=
  if s.pf0.holdOnReset && s.armedUp then s.failTransitions.enterHold 0 else s

/-- PERST_N low or a hot reset (R357). -/
def State.hostReset (s : State) : State :=
  let s := { s with link := { s.link with up := false } }
  (s.resetPf0.resetPf1 true).holdOnReset

/-- The new capacity is compared with the validated rate (R22). R519 gives LINK_BELOW_CAP the validated rate in 10^6 B/s and no rounding: it is rounded up
(DESIGN CHOICE, log 70). -/
def State.judgeLink (s : State) : State :=
  let below := decide ((s.capacity : Rat) < s.link.validatedRate)
  let was := s.link.belowCap
  let s := { s with link := { s.link with belowCap := below } }
  if below && !was && s.ranges then
    s.post 0x1001 0 0 [sat32 (s.link.validatedRate / 1000000).ceil.toNat, s.capacity / 1000000] else s

/-- PERST_N changes level (R357). -/
def execPerstN (dt : Nat) (level : Bool) (s : State) : Host.Outcome State Fault Refusal := run dt s fun t =>
  let t := { t with pins := { t.pins with perstN := level } }
  if level then t else t.hostReset
/-- FLR_PF0 (R357, R358). -/
def execFlrPf0 (dt : Nat) (s : State) : Host.Outcome State Fault Refusal := run dt s fun t => t.resetPf0.holdOnReset
/-- FLR_PF1 (R357): the table excepts no sticky field of PF1. -/
def execFlrPf1 (dt : Nat) (s : State) : Host.Outcome State Fault Refusal := run dt s fun t => t.resetPf1 false
/-- LINK_TRAINED (R20, R22, R326): nothing trains while PERST_N is low; a trained link shows that REFCLK_PCIE is present. -/
def execLinkTrained (dt gen width : Nat) (s : State) : Host.Outcome State Fault Refusal := run dt s fun t =>
  if !t.pins.perstN || !([1, 2, 3, 4].contains gen) || !([1, 2, 4, 8].contains width) then t
  else
    let t := { t with link := { t.link with up := true, gen := gen, width := width }, pins := { t.pins with refPcie := true } }
    (t.judgeLink.resumeFn 0).resumeFn 1
/-- LINK_DOWN without a reset, or with a hot reset (R31, R357). -/
def execLinkDown (dt : Nat) (hot : Bool) (s : State) : Host.Outcome State Fault Refusal := run dt s fun t =>
  if hot then t.hostReset else { t with link := { t.link with up := false } }
/-- D3HOT_ENTRY (R332). -/
def execD3hotEntry (dt fn : Nat) (s : State) : Host.Outcome State Fault Refusal := run dt s fun t => t.mapFn fn fun f => { f with d3 := true }
/-- D0_RETURN (R332). -/
def execD0Return (dt fn : Nat) (s : State) : Host.Outcome State Fault Refusal :=
  run dt s fun t => (t.mapFn fn fun f => { f with d3 := false }).resumeFn fn
/-- BUS_MASTER_DISABLE: Bus Master Enable is cleared or set (R360). -/
def execBusMasterDisable (dt fn : Nat) (set : Bool) (s : State) : Host.Outcome State Fault Refusal := run dt s fun t =>
  let t := t.mapFn fn fun f => { f with bme := set }
  if set then t.resumeFn fn else t
/-- REFCLK_PCIE_LOSS: the host link stops, ranging does not (R31). -/
def execRefclkPcieLoss (dt : Nat) (s : State) : Host.Outcome State Fault Refusal := run dt s fun t =>
  { t with pins := { t.pins with refPcie := false }, link := { t.link with up := false } }
/-- COALESCE_TIMEOUT: the batch's oldest record has waited COALESCE (R348). -/
def execCoalesceTimeout (dt r : Nat) (s : State) : Host.Outcome State Fault Refusal := run dt s fun t =>
  let q := t.srings.get r
  if !q.batch.isEmpty && t.now ≥ q.batchSince + us q.coalesce then t.flushRing r else t
/-- STATUS_HEARTBEAT: 100 ms after the last status record of an open stream (R322). -/
def execStatusHeartbeat (dt : Nat) (s : State) : Host.Outcome State Fault Refusal := run dt s fun t =>
  if t.stream.opened && t.now ≥ t.stream.lastStatus + ms 100 then t.status (32 + t.whyNow) else t
/-- ALERT_RECORD_DELIVERY (R349). -/
def execAlertRecordDelivery (dt : Nat) (s : State) : Host.Outcome State Fault Refusal := run dt s fun t => t.deliverAlert
/-- COUNTER_OVERFLOW_SAMPLE: the sample of an overflow is written (R355). The overflow itself has reloaded the counter (`State.count`); SAMPLE_OVF is set
where the slot written is one that the host has not read (R354, log 73). -/
def execCounterOverflowSample (dt src pc : Nat) (s : State) : Host.Outcome State Fault Refusal := run dt s fun t =>
  let p := t.priv
  match p.samplePend with
  | [] => t
  | c :: rest =>
    let w := p.sampleWr.toNat
    let rc := le 2 c ++ le 2 src ++ le 4 (if src = 0xFFFF then 0 else pc) ++ le 8 t.deviceTime.toNat
    let full := p.sampleUnread == 256
    let t := if full then t.mark keySampleOvf else t
    let t := { t with priv := { t.priv with
      samplePend := rest, samples := p.samples.set w rc, sampleWr := p.sampleWr + 1, sampleUnread := min 256 (p.sampleUnread + 1)
      sampleOvf := p.sampleOvf || full } }
    t.raise 0 9

end Sys2Proof.Machine
end

