-- ==== Sys2Proof/Machine/HostWrite.lean ====
section
/-! DEFINITION. Host writes to registers that have no row of their own: the BARs, and the configuration space (R11, R328 to R334, R352, R357, R360). -/

namespace Sys2Proof.Machine

/-- A 64-bit BAR with half `hi` written as `v`: only its address bits take a value (R333). -/
def barW (fn i : Nat) (old : DWord) (hi : Bool) (v : Nat) : DWord := half old hi v &&& BitVec.ofNat 64 (barBits fn i)

/-- Size that a 3-bit code names, at most `most`: 128 bytes times its power of 2 (R329). -/
def sizeOf (code most : Nat) : Nat := min most (128 * 2 ^ code)

/-- Function `fn` is put into D3hot or D0 by its power state field (R329, R332); a code that names neither is ignored. -/
def State.powerW (s : State) (fn code : Nat) : State :=
  if code = 3 then s.mapFn fn fun f => { f with d3 := true }
  else if code = 0 then (s.mapFn fn fun f => { f with d3 := false }).resumeFn fn
  else s

/-- A function level reset (R329, R357, R358). -/
def State.flr (s : State) (fn : Nat) : State := if fn = 0 then s.resetPf0.holdOnReset else s.resetPf1 false

/-- The word at an offset of the configuration space of function `fn` is written (R328, R329, R333): read-only and unlisted registers ignore it (R11, R334). Bus
Master Enable, the power state and the function level reset act as their rows do (R332, R357, R360); a vector that is no longer masked sends what pends (R352). -/
def State.cfgW (s : State) (fn ofs v : Nat) : State :=
  let set (f : Fn → Fn) : State := s.mapFn fn f
  match ofs with
  | 0x04 => (set fun f => { f with cmd := BitVec.ofNat 16 (v &&& 0x0542), bme := bit v 2 }).resumeFn fn
  | 0x10 => set fun f => { f with bars := updAt f.bars 0 fun b => barW fn 0 b false v }
  | 0x14 => set fun f => { f with bars := updAt f.bars 0 fun b => barW fn 0 b true v }
  | 0x18 => set fun f => { f with bars := updAt f.bars 1 fun b => barW fn 1 b false v }
  | 0x1C => set fun f => { f with bars := updAt f.bars 1 fun b => barW fn 1 b true v }
  | 0x3C => set fun f => { f with intLine := BitVec.ofNat 8 v }
  | 0x44 => s.powerW fn (v % 4)
  | 0x58 =>
    if bit v 15 then s.flr fn
    else set fun f => { f with errEn := BitVec.ofNat 4 v, mps := sizeOf (bits v 5 3) 512, extTag := bit v 8, mrrs := sizeOf (bits v 12 3) 4096 }
  | 0x60 => set fun f => { f with linkCtl := BitVec.ofNat 16 (v &&& 0x00C8) }
  | 0xB0 => (set fun f => { f with msixMask := bit v 30, msixEn := bit v 31 }).sendPending fn
  | 0x108 => set fun f => { f with aerUMask := BitVec.ofNat 32 v }
  | 0x10C => set fun f => { f with aerUSev := BitVec.ofNat 32 v }
  | 0x114 => set fun f => { f with aerCMask := BitVec.ofNat 32 v }
  | 0x118 => set fun f => { f with ecrcGen := bit v 6, ecrcChk := bit v 8 }
  | _ => s

/-- A 4-byte register write: BARs 0 to 2, or the configuration space of PF0 (3) or PF1 (4). -/
def State.write32 (s : State) (bar ofs v : Nat) : State :=
  match bar with | 0 => s.writeBar0 ofs v | 1 => s.writeBar2 ofs v | 3 => s.cfgW 0 ofs v | 4 => s.cfgW 1 ofs v | _ => s.writePf1 ofs v

/-- A write meets a reserved bit with a 1, on a register that the write reaches (R12). PRIV_STS ignores every write (R354), and so does a
privileged register outside a session. -/
def State.hitsReserved (s : State) (bar ofs v : Nat) : Bool :=
  !(bar == 0 && 0x100000 ≤ ofs && !s.priv.opened) && v &&& reservedBits bar ofs != 0

/-- A host write of `len` bytes (R334): 4 or 8 bytes, aligned, act; an 8-byte write acts on the lower register and then the upper; another
size is ignored, and still counts as an access to the privileged page. A write of configuration space may be of 1 or 2 bytes: the rest of the word keeps its value. -/
def State.hostW (s : State) (bar ofs len val : Nat) : State :=
  if !s.reached bar then s
  else if len = 4 && ofs % 4 = 0 then s.write32 bar ofs (val % 2 ^ 32)
  else if len = 8 && ofs % 8 = 0 then (s.write32 bar ofs (val % 2 ^ 32)).write32 bar (ofs + 4) (val / 2 ^ 32 % 2 ^ 32)
  else if bar ≥ 3 && (len = 1 || len = 2) && ofs % len = 0 then
    s.write32 bar (ofs / 4 * 4) (num (splice (le 4 (s.readReg bar (ofs / 4 * 4))) (ofs % 4) (le len val)) 0 4)
  else if bar = 0 && 0x100000 ≤ ofs && ofs < 0x200000 && ofs / 4 != 0x40000 && !s.priv.opened then s.deny else s

/-- The write carries a 1 to a reserved bit. -/
def State.writeReserved (s : State) (bar ofs len val : Nat) : Bool :=
  s.reached bar && ((len == 4 && ofs % 4 == 0 && s.hitsReserved bar ofs (val % 2 ^ 32))
    || (len == 8 && ofs % 8 == 0 && (s.hitsReserved bar ofs (val % 2 ^ 32) || s.hitsReserved bar (ofs + 4) (val / 2 ^ 32 % 2 ^ 32))))

/-- REGISTER_WRITE (R334). -/
def execRegisterWrite (dt bar ofs len val : Nat) (s : State) : Host.Outcome State Fault Refusal :=
  runW dt s (s.writeReserved bar ofs len val) fun t => t.hostW bar ofs len val

end Sys2Proof.Machine
end

