-- ==== Sys2Proof/Machine/Power.lean ====
section
/-! DEFINITION. Supplies, clocks, reset, boot, REBOOT and the stored configuration (R521 to R545 of 16_power_reset_startup; R30 of 01;
R271, R286, R292 of 08; R376, R378, R384, R399 of 11). -/

namespace Sys2Proof.Machine

/-! Supplies and clocks (R522 to R527). -/

/-- The step of a rail, 1 to 3 (R522). -/
def railStep (r : Nat) : Nat := if r < 2 then 1 else if r = 2 then 2 else 3

/-- The violations of a power-up, as instant, KIND and rail: `t` gives for each rail the instants in ns at which it crosses 10 % and 90 %
(R522, R523). -/
def riseFaults (t : List Nat) : List (Nat × Nat × Nat) :=
  let st (r : Nat) := t.getD (2 * r) 0
  let en (r : Nat) := t.getD (2 * r + 1) 0
  (List.range 5).flatMap fun r =>
    let before := (List.range 5).filter fun q => railStep q < railStep r
    let due := maxOf 0 ((before.filter fun q => railStep q + 1 == railStep r).map en)
    (if before.any fun q => decide (st r < en q) then [(st r, 0, r)] else [])
      ++ (if en r - st r < 100000 then [(en r, 1, r)] else [])
      ++ (if en r - st r > 10000000 then [(st r + 10000000, 2, r)] else [])
      ++ (if !before.isEmpty && decide (st r > due + 10000000) then [(due + 10000000, 3, r)] else [])

/-- The first violation of a power-up, as KIND and rail (R523). -/
def firstRiseFault (t : List Nat) : Option (Nat × Nat) :=
  (riseFaults t).foldl (fun (b : Option (Nat × Nat × Nat)) x => match b with | none => some x | some y => if x.1 < y.1 then some x else some y) none |>.map (·.2)

/-- SUPPLY_RISE: the last rail comes within its tolerance; OFF becomes RESET (R374, R522, R523). -/
def execSupplyRise (dt : Nat) (ramps : List Nat) (s : State) : Host.Outcome State Fault Refusal := run dt s fun t =>
  if t.code != 0 then t
  else
    let u := t.toReset 0 false false
    let p := match firstRiseFault ramps with
      | none => { u.power with okSince := t.now }
      | some x => { u.power with okSince := t.now, nextSrc := 2, kind := BitVec.ofNat 3 x.1, rail := BitVec.ofNat 3 x.2 }
    { u with power := p }

/-- The violation that a rail at `mil` thousandths of its nominal value for `len` ns makes: UNDERVOLT or OVERVOLT (R523). -/
def railFault (mil len : Nat) : Option Nat :=
  if len < 2000 then none else if mil < 940 then some 4 else if mil > 1080 then some 5 else none
/-- A rail at `mil` thousandths of its nominal value is out of its tolerance (R521). -/
def railOut (rail mil : Nat) : Bool := let w := if rail = 4 then 50 else 30; decide (mil < 1000 - w) || decide (mil > 1000 + w)

/-- SUPPLY_VIOLATION: from now on rail `rail` stands at `mil` thousandths of its nominal value, and `len` ns later it is within its tolerance again. A violation leads to
RESET within 2 us; the first one is recorded, one during power-down is not. In RESET, a rail out of tolerance starts the 1 ms again (R523, R527). -/
def execSupplyViolation (dt rail mil len : Nat) (powerDown : Bool) (s : State) : Host.Outcome State Fault Refusal := run dt s fun t =>
  if t.code = 0 then t
  else match railFault mil len with
  | none => if t.code = 1 && railOut rail mil then { t with power := { t.power with okSince := max t.power.okSince (t.now + ns len) } } else t
  | some kind =>
    let held : Bool := t.code == 1 && t.power.nextSrc == 2 && t.power.kind != 7
    let u := t.toReset 2 false false
    let p := { u.power with okSince := max t.power.okSince (t.now + ns len) }
    { u with power := if powerDown || held then p else { p with rail := BitVec.ofNat 3 rail, kind := BitVec.ofNat 3 kind } }

/-- POWER_REMOVED: every rail is down; only fuses and flash keep what they hold (R374, R526, R528). -/
def execPowerRemoved (dt : Nat) (s : State) : Host.Outcome State Fault Refusal := run dt s fun t =>
  let u := t.afterReset false false false
  ({ u with power := {}, time := {}, jtag := {}, dev := { u.dev with coldStart := true } }).setWord 0

/-- POR_N_LOW: POR_N falls for `len` ns: a pulse of 10 us or more resets, one shorter than 1 us does not, and for one between the two the spec
leaves it open: a free value (R527, log 7). -/
def execPorNLow (dt len : Nat) (s : State) : Host.Outcome State Fault Refusal := run dt s fun t =>
  let taken : Bool := len ≥ 10000 || (len ≥ 1000 && freeNat t % 2 == 1)
  let t := if len ≥ 1000 && len < 10000 then t.useFree else t
  if t.code = 0 || !taken then t
  else
    let src := if t.code = 1 then t.power.nextSrc else 1
    let u := t.toReset src false false
    { u with power := { u.power with porRise := t.now + ns len }, pins := { u.pins with porN := false } }

/-- RESET_END: t_por (R523, R527). -/
def execResetEnd (dt : Nat) (s : State) : Host.Outcome State Fault Refusal := run dt s fun t =>
  if t.code != 1 || t.now < t.power.okSince + ms 1 || t.now < t.power.porRise then t
  else { t with pins := { t.pins with porN := true, faultN := true } }.enterBoot t.power.nextSrc 1

/-- PLL_LOCK: the clock monitor is armed; device time starts at 0 after power-on from OFF, resumes with the RTC count, or restarts at 0
(R525, R526). -/
def execPllLock (dt : Nat) (rtc : Option Nat) (s : State) : Host.Outcome State Fault Refusal := run dt s fun t =>
  if t.code != 2 || t.power.pllLocked then t
  else
    let units := if t.dev.coldStart then 0 else match rtc with | some n => t.power.resetTime + n * 156250000 * 1000000000 | none => 0
    { t with
      power := { t.power with pllLocked := true, clkMon := true, pllTryAt := none }
      dev := { t.dev with coldStart := false }
      time := { t.time with units := units, running := true } }

/-- PLL_LOCK_RETRY: boot waits at stage 0x02, with a retry every 10 ms (R525). -/
def execPllLockRetry (dt : Nat) (s : State) : Host.Outcome State Fault Refusal := run dt s fun t =>
  if t.code == 2 && t.dev.stage == 2 && !t.power.pllLocked && t.power.pllTryAt.all (fun a => decide (t.now ≥ a + ms 10)) then
    { t with power := { t.power with pllRetry := t.power.pllRetry + 1, pllTryAt := some t.now } }
  else t

/-- CLOCK_LOSS: fire lines gated, bias at standby, FAULT_N low until RESET ends (R30, R153, R517, R527, R529). -/
def execClockLoss (dt : Nat) (pll : Bool) (s : State) : Host.Outcome State Fault Refusal := run dt s fun t =>
  if !t.power.clkMon || t.code = 0 || t.code = 1 then t
  else
    let u := t.biasStandby.toReset 3 true false
    { u with pins := { u.pins with faultN := false, fireGate := true }, power := { u.power with clkArg := some (b2n pll) } }

/-! The stored configuration (R384, R530 to R532, R537 to R539). -/

/-- Bytes of a configuration image's area (R531). -/
def State.imgArea (s : State) : Nat := (s.flash.size - 0x750000) / 2

/-- A configuration image is valid (R532). -/
def State.imgOk (s : State) (b : Bytes) : Bool :=
  let len := num b 0x0C 4
  slice b 64 64 == compl (slice b 0 64) && num b 0 4 == 0x4746434A && num b 4 2 == 1 && decide (128 ≤ len) && decide (len ≤ s.imgArea)
    && decide (len ≤ b.length) && num b 0x10 4 == (crc32c (slice b 128 (len - 128))).toNat

/-- GEN of a configuration image. -/
def imgGen (b : Bytes) : Nat := num b 8 4
/-- A configuration image. -/
def State.img (s : State) (i : Nat) : Bytes := s.flash.img.getD i []

/-- The image marked for use: the valid one with the higher GEN, image A when they are equal (R532, R545). -/
def State.imgPick (s : State) : Option Nat :=
  if s.imgOk (s.img 0) then
    if s.imgOk (s.img 1) && decide (imgGen (s.img 1) > imgGen (s.img 0)) then some 1 else some 0
  else if s.imgOk (s.img 1) then some 1 else none

/-- Length of part `n` at the start of `b`, as its stage payload states it (R380, R399, R532). -/
def partLen (n : Nat) (b : Bytes) : Nat :=
  match n with
  | 1 => num b 0x38 4
  | 2 => 2 * num b 0x2C 4
  | 3 => 16928 | 4 => 4224 | 5 => 4224 | 6 => 2688
  | 7 => 3584 | 8 => 128 | 9 => 128 | _ => 256

/-- The parts of a configuration image (R532). -/
def imgParts (b : Bytes) : Parts :=
  { p := (List.range 10).map fun k => let o := b.drop (num b (0x14 + 4 * k) 4); o.take (partLen (k + 1) o) }

/-- The image of a set with generation `g` (R532). -/
def imgOf (p : Parts) (g : Nat) : Bytes :=
  let body := (List.range 10).flatMap fun k => p.get (k + 1)
  let ofs := (List.range 10).map fun k => 128 + ((List.range k).map fun j => (p.get (j + 1)).length).sum
  let h := fit 64 (le 4 0x4746434A ++ le 2 1 ++ le 2 0 ++ le 4 g ++ le 4 (128 + body.length) ++ le 4 (crc32c body).toNat ++ ofs.flatMap fun o => le 4 o)
  h ++ compl h ++ body

/-- CONFIG_STORE (R384, R531, R532, R539). A write that fails leaves its image invalid. -/
def bodyConfigStore (flashOk : Bool) : Body := fun _ _ s =>
  let i := match s.imgPick with | some k => 1 - k | none => 0
  let g := if s.imgOk (s.img (1 - i)) then imgGen (s.img (1 - i)) + 1 else 1
  let b := imgOf s.cfg.active g
  if !s.dev.applied then (s, some (reply 0x0200))
  else if b.length > s.imgArea then (s, some (reply 0x0326))
  else if !flashOk then ({ s with flash := { s.flash with img := s.flash.img.set i [] } }, some (reply 0x0500))
  else
    let t := { s with
      flash := { s.flash with img := s.flash.img.set i b }
      otp := { s.otp with schedCtr := max s.otp.schedCtr (min (hSecVer s.sched) 64) } }
    (t.storePolicy, some (reply 0 (le 4 i)))

/-- CONFIG_STORE (R384). -/
def execConfigStore (dt sub : Nat) (flashOk : Bool) (s : State) : Host.Outcome State Fault Refusal := runGcs dt 0x0205 sub none s (bodyConfigStore flashOk)

/-- REBOOT; an orderly one first closes the stream, stops recording with a shutdown notification and writes the calibration store
(R399, R459, R505). -/
def bodyReboot : Body := fun e _ s =>
  let orderly := e.p 0 0 1
  let t := s.mapCmd e.sub fun x => { x with wait := .reboot, since := s.now, arg := orderly }
  if orderly = 1 then
    let t := if t.armedUp then t.enterHold 0 else t
    let t := if t.recd.st == .running || t.recd.st == .full then t.recStop 3 else t
    (if t.cal.sets.isEmpty then t else t.storeCal true, none)
  else (t, none)

/-- REBOOT (R399). -/
def execReboot (dt sub : Nat) (s : State) : Host.Outcome State Fault Refusal := runGcs dt 0x0105 sub none s bodyReboot

/-! Boot (R540 to R544). -/

/-- A boot that cannot complete: HOLD with CODE, the staged set empty; `only` when the boot ROM's commands alone are served (R378, R542, R543). -/
def State.bootFails (s : State) (stage code : Nat) (only : Bool) : State :=
  { s with
    dev := { s.dev with stage := BitVec.ofNat 8 stage, code := BitVec.ofNat 16 code, mbxReady := true }
    cfg := { s.cfg with staged := {}, validated := false }
    cmds := { s.cmds with romOnly := only } }.goto 3 0

/-- The identity checks of the device itself (R8, R542). -/
def State.identOk (s : State) : Bool :=
  let w := BitVec.ofNat 32 (pack [(4, s.ident.variant.toNat), (8, s.ident.stepping.toNat), (16, 0x5120)])
  s.ident.identC == ~~~ w && (s.ident.variant == 1 || s.ident.variant == 2)

/-- An engine is found bad, or logged, at boot: RETIRED, a spare takes its position (R282, R286, R292). -/
def State.retireAtBoot (s : State) (e cause : Nat) : State :=
  if (s.eng e).st == .retired then s
  else
    let g := engGroup e
    let p := s.heldPos e
    let t := s.mapEngine e fun x => { x with st := .retired, cause := cause }
    let t := if p ≥ 1024 then t
      else match (t.idleSpares g).head? with
        | some sp => { t.mapEngine sp fun x => { x with st := .active } with repair := { (t.mapEngine sp fun x => { x with st := .active }).repair with map := t.repair.map.set p (some sp) } }
        | none => t.noSpare p
    let t := if cause = 7 then t.logRepair 1 7 e (if p ≥ 1024 || t.holder p = e then 0xFFFF else t.holder p) else t
    s.sparesChange t g

/-- Stage 0x03: what BIST found (R286); the soft repair registers are rebuilt. -/
def State.bist (s : State) (r : BootReport) : State :=
  let t := r.badEngines.foldl (fun t e => if e < 1088 then t.retireAtBoot e 7 else t) s
  let t := r.badBanks.foldl (fun t b =>
    if t.repair.spareBanks = 0 || t.repair.banks.contains b then t else t.retireBank b 2) t
  let t := r.badConverters.foldl (fun t a => if a < 32 then t.converterDead a else t) t
  let t := { t with repair := { t.repair with rowcol := ⟨(4, 2), []⟩ } }
  let t := r.rowcol.foldl (fun t (x : Nat × Nat × Nat) =>
    let u := { t with repair := { t.repair with rowcol := t.repair.rowcol.set x.1 (4 - x.2.1, 2 - x.2.2) } }
    if u.macroSpare x.1 = 0 then u.spareZero 5 x.1 else u) t
  r.badStrings.foldl (fun t i => if i < 32 then t.faultString i 7 else t) t

/-- The logged repair `e` is applied at boot (R292). The cause of a logged channel death is read from its entry: ENGINE for CAUSE 1, else INPUT: DESIGN CHOICE (log 92). -/
def State.applyLog (s : State) (e : RepairEnt) : State :=
  match e.kind with
  | 1 => if e.restored || e.object ≥ 1088 then s else s.retireAtBoot e.object 8
  | 2 =>
    let a := e.object / 8
    let sl := e.object % 8
    let t := s.mapGw a fun g => { g with
      pos := if e.subst = 0xFFFF then g.pos else g.pos.map fun x => if x = sl then e.subst else x
      failed := sl :: g.failed, spare := none }
    t.spareZero 2 a
  | 3 =>
    let c := e.object / 2
    let t := s.mapCh c fun q => if e.object % 2 = 0 then { q with laneAFail := true } else { q with laneBFail := true }
    if (t.ch c).laneAFail && (t.ch c).laneBFail then (t.mapCh c fun q => { q with dead := 2 }).addReason 3 else t.spareZero 3 c
  | 4 =>
    if s.repair.spareBanks = 0 || s.repair.banks.contains e.object then s
    else
      let u := { s with repair := { s.repair with banks := s.repair.banks ++ [e.object], spareBanks := s.repair.spareBanks - 1 } }
      if u.repair.spareBanks = 0 then u.spareZero 4 0 else u
  | 5 => (s.mapCh e.object fun q => { q with dead := if q.dead != 0 then q.dead else if e.cause = 1 then 3 else 1 }).addReason 3
  | _ => s

/-- Stage 0x09: the repair log; an entry that fails its complement is ignored and posted (R292, R293, R512). -/
def State.applyRepairLog (s : State) (bad : List Nat) : State :=
  let s := { s with repair := { s.repair with logBad := bad } }
  s.repair.log.zipIdx.foldl (fun t (x : RepairEnt × Nat) =>
    if bad.contains x.2 then (t.integrityFault 8).post 0x4009 0 0 [x.2] else t.applyLog x.1) s

/-- One program or revoke action of the provisioning block leaves the OTP as `o`; the flag tells that something was done (R535). -/
def provKeys (l : List Bytes) (mask : Nat) (hash : Nat → Bytes) (ok : Bool) : List Bytes × List Nat × Bool :=
  let todo := (bitsOf 4 mask).filter fun k => (l.getD k []).isEmpty
  (todo.foldl (fun l k => if ok then l.set k (hash k) else l) l, if ok then [] else todo, !todo.isEmpty)

/-- Session-key revocations one by one; with `keep`, one that would leave no unrevoked slot is not carried out (R535). -/
def revokeAll (rev mask : Nat) (keep : Bool) : Nat :=
  (bitsOf 4 mask).foldl (fun r k => if keep && (bitsOf 4 (15 - r)).filter (· != k) == [] then r else r ||| 2 ^ k) rev

/-- Stage 0x05: the provisioning block (R534, R535). The Bool tells that a read-back failed. -/
def State.provision (s : State) (fusesOk : Bool) : State × Bool :=
  let b := s.flash.prov
  if slice b 0x280 640 != compl (slice b 0 640) then (s, false)
  else
    let o := s.otp
    let w (lo n : Nat) := fieldOf b 8 lo n
    if !o.provLock then
      let k := provKeys o.schedHash (w 0 4) (fun k => slice b (0x100 + 48 * k) 48) fusesOk
      let e := provKeys o.sessHash (w 4 4) (fun k => slice b (0x1C0 + 48 * k) 48) fusesOk
      let sub : Bool := w 8 1 == 1 && o.ssvid.isNone
      let rv : Bool := w 16 4 != 0 || w 20 4 != 0
      let acted : Bool := k.2.2 || e.2.2 || sub || rv || w 9 1 == 1
      ({ s with
        otp := { o with
          schedHash := k.1, sessHash := e.1, badHash := o.badHash ++ k.2.1.map (4 + ·) ++ e.2.1.map (8 + ·)
          ssvid := if sub && fusesOk then some (BitVec.ofNat 32 (num b 0x0C 4)) else o.ssvid
          schedRev := BitVec.ofNat 4 (revokeAll o.schedRev.toNat (w 16 4) false), sessRev := BitVec.ofNat 4 (revokeAll o.sessRev.toNat (w 20 4) false)
          provLock := w 9 1 == 1 }
        power := { s.power with provActed := acted } }, !fusesOk && (k.2.2 || e.2.2 || sub))
    else if (w 16 4 != 0 || w 20 4 != 0) && s.sigOk 2 (slice b 0x500 256) (slice b 0 640) then
      ({ s with
        otp := { o with
          schedRev := BitVec.ofNat 4 (revokeAll o.schedRev.toNat (w 16 4) false), sessRev := BitVec.ofNat 4 (revokeAll o.sessRev.toNat (w 20 4) true) }
        power := { s.power with provActed := true } }, false)
    else (s, false)

/-- Stage 0x06: the slot to boot, the slot of higher GEN first, and whether that slot was rejected (R528, R536). -/
def State.fwPick (s : State) : Option (Nat × Bool) :=
  let a := s.flash.fw.getD 0 []
  let b := s.flash.fw.getD 1 []
  let first := if fwGen b > fwGen a then 1 else 0
  let ok (i : Nat) : Bool := s.fwCheck (s.flash.fw.getD i []) == 0
  if ok first then some (first, false)
  else if ok (1 - first) then some (1 - first, !(s.flash.fw.getD first []).isEmpty) else none

/-- Stage 0x04: the pairs' self-tests. A pair that failed once stays unavailable until POR_N (R541). -/
def State.bootPairs (s : State) (r : BootReport) : State :=
  let bad := (List.range 2).map fun i => s.fw.bootFailed.getD i false || !(r.pairs.getD i false)
  { s with fw := { s.fw with
    bootFailed := bad, pairs := bad.map fun b => { avail := !b }, active := if bad.getD 0 true then 1 else 0, standbyOk := false, rom := true } }

/-- Records of the causes of the reset (R517, R529). -/
def State.bootRecords (s : State) : State :=
  let s := if s.power.src = 2 then s.postBoot 0x1003 0 0 [s.power.rail.toNat] else s
  let s := match s.power.clkArg with
    | some a => if s.power.src = 3 then { s with power := { s.power with clkArg := none } }.postBoot 0x1002 0 0 [a] else { s with power := { s.power with clkArg := none } }
    | none => s
  if s.hk.tripRec then
    let o := heatObj s.hk.tripSrc
    { s with hk := { s.hk with tripRec := false } }.postBoot 0x6004 o.1 o.2 [s.hk.trips, b2n s.hk.tripOpen]
  else s

/-- Stage 0x08 (R271, R438, R529, R535, R541): the pair that failed is logged, the other one loads. A failed fuse read-back posts an INFO record whose
code the spec does not give: a free value (log 7). -/
def State.stage8 (s : State) (r : BootReport) (fuseBad : Bool) : State :=
  let img := (s.pair s.fw.active).image
  let t := { s with
    silo := { s.silo with regions := [268435456, 134217728, 0, 0, 0, 0], perCh := r.perChannel }
    repair := { s.repair with mcRun := num img 0x14 4, mcNew := num img 0x14 4 }
    power := { s.power with bootAt := s.now } }
  let t := t.bootRecords
  let t := if fuseBad then t.useFree.postSev 0 false (0x1000 + freeNat t % 0xF000) 0 0 [] else t
  if (t.pair t.standby).avail then t.mapPair t.standby fun p => { p with loading := true, image := img }
  else (t.logRepair 6 2 t.standby 0xFFFF).spareZero 6 0

/-- Stage 0x0A: the stored configuration image is selected, checked and staged (R532, R542, R545). -/
def State.bootImage (s : State) : State :=
  let s := s.each [0, 1] fun i t => let b := t.img i; if b.isEmpty || slice b 64 64 == compl (slice b 0 64) then t else t.integrityFault 9
  match s.imgPick with
  | none => s.bootFails 0x0A 0x0423 false
  | some i =>
    let b := s.img i
    let other := s.img (1 - i)
    { s with
      dev := { s.dev with stage := 0x0B }
      cfg := { s.cfg with staged := imgParts b, validated := false }
      power := { s.power with cfgImg := i == 1, cfgFallback := !other.isEmpty && !(s.imgOk other) && decide (imgGen other > imgGen b) } }

/-- Stages 0x0B and 0x0C: the staged configuration is validated, boot completes, and AUTO_RESUME acts (R376, R377, R542). -/
def State.bootConfig (s : State) : State :=
  let v := s.validateSet (s.link.gen != 0)
  let st := v.2.status
  let code := if st != 0 then st else if v.1.dev.safeLatch then 0x0222 else 0
  let u := { v.1 with dev := { v.1.dev with stage := 0x0C, code := BitVec.ofNat 16 code }, cmds := { v.1.cmds with romOnly := false } }.goto 3 0
  if code = 0 && u.dev.autoResume then
    let x := u.applyInHold
    { x with dev := { x.dev with autoRanging := some x.now } }
  else u

/-- Stage 0x06: the firmware slot is selected and verified; at its end the device serves the mailbox and the rings (R536, R540, R542). -/
def State.bootSlot (s : State) : State :=
  let pol := s.storedPolicy
  let s := { s with dev := { s.dev with autoResume := pol.1, timeSource := pol.2 } }
  match s.fwPick with
  | none => s.bootFails 0x06 0x0424 true
  | some (i, fall) =>
    let t := s.mapPair s.fw.active fun p => { p with image := s.flash.fw.getD i [] }
    { t with
      fw := { t.fw with rom := false }
      dev := { t.dev with mbxReady := true, stage := 7 }
      power := { t.power with fwImg := i == 1, fwFallback := fall } }

/-- The state with boot at a later stage. -/
def State.atStage (s : State) (n : Nat) : State := { s with dev := { s.dev with stage := BitVec.ofNat 8 n } }

/-- The boot stage in progress is carried out, and STAGE shows the next one (R540 to R544). While the SYS PLLs are not locked, boot stays at stage 0x02 (R525). -/
def State.bootStage (r : BootReport) (s : State) : State :=
  match s.dev.stage.toNat with
  | 1 =>
    let t := { s with otp := { s.otp with badHash := bitsOf 12 r.badHash } }
    if !t.identOk then ((t.bootPairs r).integrityFault 0).bootFails 0x01 0x0425 true else t.atStage 2
  | 2 => if s.power.pllLocked then s.atStage 3 else s
  | 3 => let t := s.bist r; if !r.bqOk then (t.bootPairs r).bootFails 0x03 0x0510 true else t.atStage 4
  | 4 =>
    let t := s.bootPairs r
    if t.fw.pairs.all fun p => !p.avail then { t with dev := { t.dev with stage := 0xFF, mbxReady := false } }
    else if !r.flash then t.bootFails 0x04 0x0512 true
    else { t with power := { t.power with flashSingle := !r.octal, provActed := false, fwFallback := false, cfgFallback := false, fuseBad := false } }.atStage 5
  | 5 => let p := s.provision r.fusesOk; { p.1 with power := { p.1.power with fuseBad := p.2 } }.atStage 6
  | 6 => s.bootSlot
  | 7 => if !r.ddr then s.bootFails 0x07 0x0511 true else s.atStage 8
  | 8 => (s.stage8 r s.power.fuseBad).atStage 9
  | 9 => let t := (s.applyRepairLog r.badLog).loadCal; if t.cal.sets.isEmpty then t.bootFails 0x09 0x0422 false else t.atStage 0x0A
  | 0x0A => s.bootImage
  | 0x0B => s.bootConfig
  | _ => s

/-- The stages from the one in progress through `till`, at most `n` of them. -/
def State.bootRun (r : BootReport) (till : Nat) : Nat → State → State
  | 0, s => s
  | n + 1, s => if s.code = 2 && decide (s.dev.stage.toNat ≤ till) then State.bootRun r till n (s.bootStage r) else s

/-- BOOT: the stages from the one in progress through `till` (all that are left, with `till` = 0x0B), at the instant at which the last of them ends. `report` is what the
hardware shows in them (R540 to R544). How long each lasts is left out (log 69). -/
def execBoot (dt till : Nat) (report : BootReport) (s : State) : Host.Outcome State Fault Refusal := run dt s fun t => t.bootRun report till 11

end Sys2Proof.Machine
end

