-- ==== Sys2Proof/Machine/Dispatch.lean ====
section
/-! DEFINITION. The dispatch: one arm for each command, one meaning for each arm. -/

namespace Sys2Proof.Machine

def exec (i : Instr) (s : State) : Host.Outcome State Fault Refusal :=
  match i with
  | .deviceInfo dt sub => Sys2Proof.Machine.execDeviceInfo dt sub s
  | .stateSet dt sub => Sys2Proof.Machine.execStateSet dt sub s
  | .recover dt sub => Sys2Proof.Machine.execRecover dt sub s
  | .policySet dt sub flashOk => Sys2Proof.Machine.execPolicySet dt sub flashOk s
  | .reboot dt sub => Sys2Proof.Machine.execReboot dt sub s
  | .timeSet dt sub => Sys2Proof.Machine.execTimeSet dt sub s
  | .timeSlew dt sub => Sys2Proof.Machine.execTimeSlew dt sub s
  | .timeSource dt sub flashOk => Sys2Proof.Machine.execTimeSource dt sub flashOk s
  | .validate dt sub => Sys2Proof.Machine.execValidate dt sub s
  | .apply dt sub => Sys2Proof.Machine.execApply dt sub s
  | .stageDiscard dt sub => Sys2Proof.Machine.execStageDiscard dt sub s
  | .stageStatus dt sub => Sys2Proof.Machine.execStageStatus dt sub s
  | .configStore dt sub flashOk => Sys2Proof.Machine.execConfigStore dt sub flashOk s
  | .schedStage dt sub payload => Sys2Proof.Machine.execSchedStage dt sub payload s
  | .schedStatus dt sub => Sys2Proof.Machine.execSchedStatus dt sub s
  | .budgetStatus dt sub => Sys2Proof.Machine.execBudgetStatus dt sub s
  | .driveStage dt sub payload => Sys2Proof.Machine.execDriveStage dt sub payload s
  | .driveStatus dt sub => Sys2Proof.Machine.execDriveStatus dt sub s
  | .stringReverify dt sub => Sys2Proof.Machine.execStringReverify dt sub s
  | .rxStage dt sub payload => Sys2Proof.Machine.execRxStage dt sub payload s
  | .rxStatus dt sub => Sys2Proof.Machine.execRxStatus dt sub s
  | .threshStage dt sub payload => Sys2Proof.Machine.execThreshStage dt sub payload s
  | .threshStatus dt sub => Sys2Proof.Machine.execThreshStatus dt sub s
  | .alertList dt sub => Sys2Proof.Machine.execAlertList dt sub s
  | .reduceStage dt sub payload => Sys2Proof.Machine.execReduceStage dt sub payload s
  | .reduceStatus dt sub => Sys2Proof.Machine.execReduceStatus dt sub s
  | .gleanStage dt sub payload => Sys2Proof.Machine.execGleanStage dt sub payload s
  | .gleanStatus dt sub => Sys2Proof.Machine.execGleanStatus dt sub s
  | .gleanTest dt sub => Sys2Proof.Machine.execGleanTest dt sub s
  | .gleanForce dt sub => Sys2Proof.Machine.execGleanForce dt sub s
  | .outputStage dt sub payload => Sys2Proof.Machine.execOutputStage dt sub payload s
  | .outputStatus dt sub => Sys2Proof.Machine.execOutputStatus dt sub s
  | .droverStage dt sub payload => Sys2Proof.Machine.execDroverStage dt sub payload s
  | .droverStatus dt sub => Sys2Proof.Machine.execDroverStatus dt sub s
  | .planIssue dt sub => Sys2Proof.Machine.execPlanIssue dt sub s
  | .laneService dt sub => Sys2Proof.Machine.execLaneService dt sub s
  | .siloStage dt sub payload => Sys2Proof.Machine.execSiloStage dt sub payload s
  | .siloStatus dt sub => Sys2Proof.Machine.execSiloStatus dt sub s
  | .balerJob dt sub payload src => Sys2Proof.Machine.execBalerJob dt sub payload src s
  | .balerResume dt sub src => Sys2Proof.Machine.execBalerResume dt sub src s
  | .recStart dt sub drive => Sys2Proof.Machine.execRecStart dt sub drive s
  | .recStop dt sub => Sys2Proof.Machine.execRecStop dt sub s
  | .recStatus dt sub => Sys2Proof.Machine.execRecStatus dt sub s
  | .hkStage dt sub payload => Sys2Proof.Machine.execHkStage dt sub payload s
  | .hkStatus dt sub => Sys2Proof.Machine.execHkStatus dt sub s
  | .thermalStatus dt sub => Sys2Proof.Machine.execThermalStatus dt sub s
  | .calRun dt sub => Sys2Proof.Machine.execCalRun dt sub s
  | .calStatus dt sub => Sys2Proof.Machine.execCalStatus dt sub s
  | .calRead dt sub => Sys2Proof.Machine.execCalRead dt sub s
  | .calLoad dt sub payload => Sys2Proof.Machine.execCalLoad dt sub payload s
  | .ledgerRead dt sub => Sys2Proof.Machine.execLedgerRead dt sub s
  | .redundancyStatus dt sub => Sys2Proof.Machine.execRedundancyStatus dt sub s
  | .engineStatus dt sub => Sys2Proof.Machine.execEngineStatus dt sub s
  | .engineRetire dt sub => Sys2Proof.Machine.execEngineRetire dt sub s
  | .repairLogClear dt sub => Sys2Proof.Machine.execRepairLogClear dt sub s
  | .snapshot dt sub => Sys2Proof.Machine.execSnapshot dt sub s
  | .counterClear dt sub => Sys2Proof.Machine.execCounterClear dt sub s
  | .eyeScan dt sub counts => Sys2Proof.Machine.execEyeScan dt sub counts s
  | .loopback dt sub => Sys2Proof.Machine.execLoopback dt sub s
  | .errorRead dt sub => Sys2Proof.Machine.execErrorRead dt sub s
  | .fwLoad dt sub payload hwOk => Sys2Proof.Machine.execFwLoad dt sub payload hwOk s
  | .fwHandover dt sub => Sys2Proof.Machine.execFwHandover dt sub s
  | .fwStatus dt sub => Sys2Proof.Machine.execFwStatus dt sub s
  | .fwCommit dt sub flashOk => Sys2Proof.Machine.execFwCommit dt sub flashOk s
  | .sessionChallenge dt sub => Sys2Proof.Machine.execSessionChallenge dt sub s
  | .sessionOpen dt sub payload => Sys2Proof.Machine.execSessionOpen dt sub payload s
  | .sessionClose dt sub => Sys2Proof.Machine.execSessionClose dt sub s
  | .mbxDb dt v => Sys2Proof.Machine.execMbxDb dt v s
  | .cmdTail dt r v => Sys2Proof.Machine.execCmdTail dt r v s
  | .cplHead dt r v => Sys2Proof.Machine.execCplHead dt r v s
  | .cmdRingControlWrite dt r v => Sys2Proof.Machine.execCmdRingControlWrite dt r v s
  | .commandFetch dt r descs => Sys2Proof.Machine.execCommandFetch dt r descs s
  | .streamRingControlWrite dt r v => Sys2Proof.Machine.execStreamRingControlWrite dt r v s
  | .consLo dt r v => Sys2Proof.Machine.execConsLo dt r v s
  | .timeLo dt len => Sys2Proof.Machine.execTimeLo dt len s
  | .prodLo dt r len => Sys2Proof.Machine.execProdLo dt r len s
  | .counterLowRead dt ofs len => Sys2Proof.Machine.execCounterLowRead dt ofs len s
  | .rcFieldRead dt deny len => Sys2Proof.Machine.execRcFieldRead dt deny len s
  | .snap dt => Sys2Proof.Machine.execSnap dt s
  | .msixUnmask dt fn vec => Sys2Proof.Machine.execMsixUnmask dt fn vec s
  | .registerWrite dt bar ofs len val => Sys2Proof.Machine.execRegisterWrite dt bar ofs len val s
  | .supplyRise dt ramps => Sys2Proof.Machine.execSupplyRise dt ramps s
  | .supplyViolation dt rail mil len powerDown => Sys2Proof.Machine.execSupplyViolation dt rail mil len powerDown s
  | .powerRemoved dt => Sys2Proof.Machine.execPowerRemoved dt s
  | .resetEnd dt => Sys2Proof.Machine.execResetEnd dt s
  | .porNLow dt ns => Sys2Proof.Machine.execPorNLow dt ns s
  | .boot dt till report => Sys2Proof.Machine.execBoot dt till report s
  | .pllLock dt rtc => Sys2Proof.Machine.execPllLock dt rtc s
  | .pllLockRetry dt => Sys2Proof.Machine.execPllLockRetry dt s
  | .clockLoss dt pll => Sys2Proof.Machine.execClockLoss dt pll s
  | .refclkPcieLoss dt => Sys2Proof.Machine.execRefclkPcieLoss dt s
  | .refclkSdsLoss dt clk => Sys2Proof.Machine.execRefclkSdsLoss dt clk s
  | .refclkPcie2Loss dt => Sys2Proof.Machine.execRefclkPcie2Loss dt s
  | .perstN dt level => Sys2Proof.Machine.execPerstN dt level s
  | .flrPf0 dt => Sys2Proof.Machine.execFlrPf0 dt s
  | .flrPf1 dt => Sys2Proof.Machine.execFlrPf1 dt s
  | .linkTrained dt gen width => Sys2Proof.Machine.execLinkTrained dt gen width s
  | .linkDown dt hot => Sys2Proof.Machine.execLinkDown dt hot s
  | .d3hotEntry dt fn => Sys2Proof.Machine.execD3hotEntry dt fn s
  | .d0Return dt fn => Sys2Proof.Machine.execD0Return dt fn s
  | .busMasterDisable dt fn set => Sys2Proof.Machine.execBusMasterDisable dt fn set s
  | .armEnFall dt => Sys2Proof.Machine.execArmEnFall dt s
  | .armEnRise dt => Sys2Proof.Machine.execArmEnRise dt s
  | .armEnStable dt => Sys2Proof.Machine.execArmEnStable dt s
  | .furrowBoundary dt dir enc => Sys2Proof.Machine.execFurrowBoundary dt dir enc s
  | .cellDeclaration dt slow enc underruns bad seeds => Sys2Proof.Machine.execCellDeclaration dt slow enc underruns bad seeds s
  | .shotDecision dt str mv tbl => Sys2Proof.Machine.execShotDecision dt str mv tbl s
  | .guardBucketBoundary dt w => Sys2Proof.Machine.execGuardBucketBoundary dt w s
  | .guardBlockEnd dt str w => Sys2Proof.Machine.execGuardBlockEnd dt str w s
  | .shotFire dt str err => Sys2Proof.Machine.execShotFire dt str err s
  | .fireSkew dt str ps => Sys2Proof.Machine.execFireSkew dt str ps s
  | .shotJudgement dt str drop q clip duty => Sys2Proof.Machine.execShotJudgement dt str drop q clip duty s
  | .resOvervolt dt str => Sys2Proof.Machine.execResOvervolt dt str s
  | .resRegulation dt str mv ilim => Sys2Proof.Machine.execResRegulation dt str mv ilim s
  | .gateStuck dt str => Sys2Proof.Machine.execGateStuck dt str s
  | .stringUnverified dt str => Sys2Proof.Machine.execStringUnverified dt str s
  | .noLight dt str => Sys2Proof.Machine.execNoLight dt str s
  | .satbusRefresh dt => Sys2Proof.Machine.execSatbusRefresh dt s
  | .satbusEchoCheck dt ok lastGood => Sys2Proof.Machine.execSatbusEchoCheck dt ok lastGood s
  | .fastAxisLock dt peak dac halves => Sys2Proof.Machine.execFastAxisLock dt peak dac halves s
  | .lossOfLock dt m => Sys2Proof.Machine.execLossOfLock dt m s
  | .acquisitionTimeout dt => Sys2Proof.Machine.execAcquisitionTimeout dt s
  | .shotSyncEdge dt => Sys2Proof.Machine.execShotSyncEdge dt s
  | .shotSyncLost dt => Sys2Proof.Machine.execShotSyncLost dt s
  | .slowAxisError dt err => Sys2Proof.Machine.execSlowAxisError dt err s
  | .photonEvent dt ch q peak code codeB lowAt => Sys2Proof.Machine.execPhotonEvent dt ch q peak code codeB lowAt s
  | .holdoffEnd dt slice => Sys2Proof.Machine.execHoldoffEnd dt slice s
  | .inputOverload dt ch on => Sys2Proof.Machine.execInputOverload dt ch on s
  | .candidateArrival dt slice => Sys2Proof.Machine.execCandidateArrival dt slice s
  | .pairDelivery dt ch => Sys2Proof.Machine.execPairDelivery dt ch s
  | .sheafOpen dt ch => Sys2Proof.Machine.execSheafOpen dt ch s
  | .ambientEstimate dt ch => Sys2Proof.Machine.execAmbientEstimate dt ch s
  | .sheafProcessingStart dt ch => Sys2Proof.Machine.execSheafProcessingStart dt ch s
  | .processingTimeOut dt ch => Sys2Proof.Machine.execProcessingTimeOut dt ch s
  | .sheafProcessingEnd dt ch => Sys2Proof.Machine.execSheafProcessingEnd dt ch s
  | .sheafRecordRelease dt ch full => Sys2Proof.Machine.execSheafRecordRelease dt ch full s
  | .alertPinRelease dt => Sys2Proof.Machine.execAlertPinRelease dt s
  | .alertRecordDelivery dt => Sys2Proof.Machine.execAlertRecordDelivery dt s
  | .coalesceTimeout dt r => Sys2Proof.Machine.execCoalesceTimeout dt r s
  | .statusHeartbeat dt => Sys2Proof.Machine.execStatusHeartbeat dt s
  | .counterOverflowSample dt src pc => Sys2Proof.Machine.execCounterOverflowSample dt src pc s
  | .captureWindowClose dt gw low => Sys2Proof.Machine.execCaptureWindowClose dt gw low s
  | .captureReadoutDone dt gw smp => Sys2Proof.Machine.execCaptureReadoutDone dt gw smp s
  | .gainSaturationSwitch dt gw => Sys2Proof.Machine.execGainSaturationSwitch dt gw s
  | .gainRangeStep dt gw cond => Sys2Proof.Machine.execGainRangeStep dt gw cond s
  | .sliceRotation dt gw meas => Sys2Proof.Machine.execSliceRotation dt gw meas s
  | .sliceSwap dt gw meas => Sys2Proof.Machine.execSliceSwap dt gw meas s
  | .calgap dt gw => Sys2Proof.Machine.execCalgap dt gw s
  | .gleanerStartComplete dt gw => Sys2Proof.Machine.execGleanerStartComplete dt gw s
  | .recoveryComplete dt gw => Sys2Proof.Machine.execRecoveryComplete dt gw s
  | .engineUe dt pos inSpare => Sys2Proof.Machine.execEngineUe dt pos inSpare s
  | .engineTrap dt pos => Sys2Proof.Machine.execEngineTrap dt pos s
  | .lsCe dt pos inSpare => Sys2Proof.Machine.execLsCe dt pos inSpare s
  | .auditStart dt grp => Sys2Proof.Machine.execAuditStart dt grp s
  | .spareSelfTestDone dt pos ok => Sys2Proof.Machine.execSpareSelfTestDone dt pos ok s
  | .compareGate dt pos mismatch held => Sys2Proof.Machine.execCompareGate dt pos mismatch held s
  | .gateTimeout dt pos spareOnly => Sys2Proof.Machine.execGateTimeout dt pos spareOnly s
  | .offlineTestDone dt eng ok => Sys2Proof.Machine.execOfflineTestDone dt eng ok s
  | .bankSubst dt bank cause hit => Sys2Proof.Machine.execBankSubst dt bank cause hit s
  | .bankCopyDone dt hit => Sys2Proof.Machine.execBankCopyDone dt hit s
  | .repairLogWrite dt => Sys2Proof.Machine.execRepairLogWrite dt s
  | .channelInputFail dt ch => Sys2Proof.Machine.execChannelInputFail dt ch s
  | .detHvPg dt level => Sys2Proof.Machine.execDetHvPg dt level s
  | .calibrationSchedule dt => Sys2Proof.Machine.execCalibrationSchedule dt s
  | .calibrationPassEnd dt stripe pass meas => Sys2Proof.Machine.execCalibrationPassEnd dt stripe pass meas s
  | .calStoreWrite dt flashOk => Sys2Proof.Machine.execCalStoreWrite dt flashOk s
  | .replan dt margins => Sys2Proof.Machine.execReplan dt margins s
  | .eyeMarginRead dt heights => Sys2Proof.Machine.execEyeMarginRead dt heights s
  | .errorPost dt code kind obj args => Sys2Proof.Machine.execErrorPost dt code kind obj args s
  | .errorHandling dt => Sys2Proof.Machine.execErrorHandling dt s
  | .autoRecovery dt => Sys2Proof.Machine.execAutoRecovery dt s
  | .rangingEntry dt => Sys2Proof.Machine.execRangingEntry dt s
  | .rangingWaitTimeout dt => Sys2Proof.Machine.execRangingWaitTimeout dt s
  | .handoverDrainEnd dt => Sys2Proof.Machine.execHandoverDrainEnd dt s
  | .standbySelfTestFail dt => Sys2Proof.Machine.execStandbySelfTestFail dt s
  | .lockstep dt pair => Sys2Proof.Machine.execLockstep dt pair s
  | .standbyReady dt => Sys2Proof.Machine.execStandbyReady dt s
  | .pairReloadDone dt pair ok => Sys2Proof.Machine.execPairReloadDone dt pair ok s
  | .sessionIdleTimeout dt => Sys2Proof.Machine.execSessionIdleTimeout dt s
  | .nonceExpiry dt => Sys2Proof.Machine.execNonceExpiry dt s
  | .sessionLockoutEnd dt => Sys2Proof.Machine.execSessionLockoutEnd dt s
  | .frameReceived dt port rx => Sys2Proof.Machine.execFrameReceived dt port rx s
  | .frameBoundaryTransmit dt port => Sys2Proof.Machine.execFrameBoundaryTransmit dt port s
  | .retransmitTimeout dt port => Sys2Proof.Machine.execRetransmitTimeout dt port s
  | .hello dt port => Sys2Proof.Machine.execHello dt port s
  | .helloTimer dt port => Sys2Proof.Machine.execHelloTimer dt port s
  | .topo dt port => Sys2Proof.Machine.execTopo dt port s
  | .topoTimer dt => Sys2Proof.Machine.execTopoTimer dt s
  | .topoTimeout dt => Sys2Proof.Machine.execTopoTimeout dt s
  | .join dt port => Sys2Proof.Machine.execJoin dt port s
  | .joinTimer dt => Sys2Proof.Machine.execJoinTimer dt s
  | .admitMsg dt port => Sys2Proof.Machine.execAdmitMsg dt port s
  | .memberForget dt id => Sys2Proof.Machine.execMemberForget dt id s
  | .plan dt port => Sys2Proof.Machine.execPlan dt port s
  | .sync dt port => Sys2Proof.Machine.execSync dt port s
  | .syncTimer dt port => Sys2Proof.Machine.execSyncTimer dt port s
  | .dreq dt port => Sys2Proof.Machine.execDreq dt port s
  | .dresp dt port => Sys2Proof.Machine.execDresp dt port s
  | .lane dt port => Sys2Proof.Machine.execLane dt port s
  | .breakMsg dt port => Sys2Proof.Machine.execBreakMsg dt port s
  | .rerouteWaitEnd dt => Sys2Proof.Machine.execRerouteWaitEnd dt s
  | .ringReturn dt => Sys2Proof.Machine.execRingReturn dt s
  | .laneLoss dt l cdr silent => Sys2Proof.Machine.execLaneLoss dt l cdr silent s
  | .portLoss dt port sense => Sys2Proof.Machine.execPortLoss dt port sense s
  | .relockAttempt dt l took => Sys2Proof.Machine.execRelockAttempt dt l took s
  | .laneRejoin dt port => Sys2Proof.Machine.execLaneRejoin dt port s
  | .shedLevelChange dt port => Sys2Proof.Machine.execShedLevelChange dt port s
  | .trainingStepTimeout dt port took => Sys2Proof.Machine.execTrainingStepTimeout dt port took s
  | .trainingComplete dt port m => Sys2Proof.Machine.execTrainingComplete dt port m s
  | .ppsEdge dt => Sys2Proof.Machine.execPpsEdge dt s
  | .timePpsLost dt => Sys2Proof.Machine.execTimePpsLost dt s
  | .timeStale dt => Sys2Proof.Machine.execTimeStale dt s
  | .timeSlewEnd dt => Sys2Proof.Machine.execTimeSlewEnd dt s
  | .bqShareFull dt share fullFor => Sys2Proof.Machine.execBqShareFull dt share fullFor s
  | .ddrUe dt region ring n ce => Sys2Proof.Machine.execDdrUe dt region ring n ce s
  | .recCommitTimer dt => Sys2Proof.Machine.execRecCommitTimer dt s
  | .recCommit dt => Sys2Proof.Machine.execRecCommit dt s
  | .nvmeCompletion dt status => Sys2Proof.Machine.execNvmeCompletion dt status s
  | .recFault dt status => Sys2Proof.Machine.execRecFault dt status s
  | .smartPoll dt warn temp => Sys2Proof.Machine.execSmartPoll dt warn temp s
  | .recGap dt => Sys2Proof.Machine.execRecGap dt s
  | .balerDestStall dt sub => Sys2Proof.Machine.execBalerDestStall dt sub s
  | .balerTokenExpiry dt slot => Sys2Proof.Machine.execBalerTokenExpiry dt slot s
  | .hadcResult dt ch m => Sys2Proof.Machine.execHadcResult dt ch m s
  | .hadcCalSlot dt meas => Sys2Proof.Machine.execHadcCalSlot dt meas s
  | .ondieSensorSample dt temps failed => Sys2Proof.Machine.execOndieSensorSample dt temps failed s
  | .thermalFall dt => Sys2Proof.Machine.execThermalFall dt s
  | .thermalShutdownReset dt => Sys2Proof.Machine.execThermalShutdownReset dt s
  | .thermalRestart dt => Sys2Proof.Machine.execThermalRestart dt s
  | .boundaryTakenAtOnce dt => Sys2Proof.Machine.execBoundaryTakenAtOnce dt s
  | .timeSetPpsTimeout dt => Sys2Proof.Machine.execTimeSetPpsTimeout dt s
  | .resOvervoltComparator dt str high => Sys2Proof.Machine.execResOvervoltComparator dt str high s
  | .sliceMeanCheck dt gw pos far => Sys2Proof.Machine.execSliceMeanCheck dt gw pos far s
  | .schedReload dt ok => Sys2Proof.Machine.execSchedReload dt ok s

end Sys2Proof.Machine
end

