-- ==== Sys2Proof/Machine/Jtag.lean ====
section
/-! DEFINITION. What the digital output pads carry, and the JTAG port that may drive them (R27, R91, R97, R152, R517, R558, R559, R566 to R568, R571). No row of the opcode
table moves the port, so its operations stand here as functions of State that no command calls (log 68). -/

namespace Sys2Proof.Machine

/-- What the device puts on a pad. -/
inductive Drive where
  /-- driven, or pulled, low. -/
  | low
  /-- driven high. -/
  | high
  /-- not driven: an open-drain pad that is off. -/
  | off
  /-- the block behind the pad moves it. -/
  | moving
  deriving DecidableEq, Repr

/-- The digital output pads with a cell in the boundary-scan chain, which leaves out the lane, PCI Express, recording, DDR5 and CH pins (R567). -/
inductive Pad where
  /-- FIRE_Snn of string `i`. -/
  | fire (i : Nat)
  /-- RES_GATE_Snn of string `i`. -/
  | resGate (i : Nat)
  /-- DET_HV_EN. -/
  | detHvEn
  /-- FAULT_N, open-drain. -/
  | faultN
  /-- ALERT_N, open-drain. -/
  | alertN
  /-- THERM_N, open-drain. -/
  | thermN
  /-- SATBUS. -/
  | satbus
  /-- SLOW_STEP. -/
  | slowStep
  /-- SLOW_DIR. -/
  | slowDir
  /-- SHOT_SYNC_OUT. -/
  | syncOut
  deriving DecidableEq, Repr

/-- The pads in the order of their cells; the spec gives no order (DESIGN CHOICE, log 68). -/
def pads : List Pad :=
  (List.range 32).map .fire ++ (List.range 32).map .resGate ++ [.detHvEn, .faultN, .alertN, .thermN, .satbus, .slowStep, .slowDir, .syncOut]

/-- A level as a drive. -/
def driveOf (b : Bool) : Drive := if b then .high else .low
/-- An open-drain pad, asserted while its level is low. -/
def openDrain (level : Bool) : Drive := if level then .off else .low

/-- What the functional blocks put on a pad (R27, R91, R97, R103, R124, R152, R517, R558). -/
def State.padFunction (s : State) (p : Pad) : Drive :=
  match p with
  | .fire i => driveOf (!s.pins.fireGate && s.pins.armEn && (s.pulse i).isSome)
  | .resGate i => if s.pins.resGate || (s.str i).overV || (s.str i).gateHeld then .low else .moving
  | .detHvEn => driveOf s.pins.detHvEn
  | .faultN => openDrain s.pins.faultN
  | .alertN => openDrain s.pins.alertN
  | .thermN => openDrain s.pins.thermN
  | .satbus => if !s.pins.satGate && decide (s.now < s.satbus.busyTill) then .moving else .low
  | .slowStep => if s.holdUp && s.pf 2 0x0C 1 2 != 0 then .moving else .low
  | .slowDir => driveOf (s.holdUp && s.steer.slowDir)
  | .syncOut => driveOf (decide (s.now < s.pins.syncOutTill))

/-- The pad's cell only observes: FIRE_Snn, RES_GATE_Snn, DET_HV_EN (R568). -/
def Pad.observeOnly : Pad → Bool
  | .fire _ => true
  | .resGate _ => true
  | .detHvEn => true
  | _ => false
/-- The pad is open-drain (R556). -/
def Pad.isOpenDrain : Pad → Bool
  | .faultN => true
  | .alertN => true
  | .thermN => true
  | _ => false

/-- The update latch of a pad's cell. -/
def State.cellLatch (s : State) (p : Pad) : Bool := (((pads.zip s.jtag.latch).find? fun x => x.1 == p).map (·.2)).getD false

/-- What a pad carries: its function's drive, or its cell's under EXTEST and CLAMP, or nothing under HIGHZ; a cell that only observes never moves its pad, and an open-drain
pad under EXTEST can only add to an assertion (R558, R567, R568, R571). -/
def State.padDrive (s : State) (p : Pad) : Drive :=
  let f := s.padFunction p
  if !s.jtag.trstN || p.observeOnly then f
  else match s.jtag.ir with
    | .extest => if p.isOpenDrain then (if f == .low then .low else openDrain (s.cellLatch p)) else driveOf (s.cellLatch p)
    | .clamp => if p.isOpenDrain then (if f == .low then .low else openDrain (s.cellLatch p)) else driveOf (s.cellLatch p)
    | .highz => .off
    | _ => f

/-! The port (R567). -/

/-- IDCODE: the stepping in bits 31:28, 0x5120, the manufacturer's identity of the ordering sheet (log 7), and 1. -/
def State.idcode (s : State) : Nat :=
  pack [(0, 1), (1, Config.jtagManufacturer.toNat), (12, 0x5120), (28, if s.isA0 then 0 else 1)]

/-- TRST_N changes: low holds the boundary-scan logic in reset, with IDCODE selected (IEEE 1149.1: PRESUMED, log 68). -/
def State.jtagReset (s : State) (level : Bool) : State :=
  if level then { s with jtag := { s.jtag with trstN := true } } else { s with jtag := {} }
/-- An instruction is taken up. -/
def State.jtagSelect (s : State) (i : JtagIr) : State := if s.jtag.trstN then { s with jtag := { s.jtag with ir := i } } else s
/-- The data register of the instruction in force takes what it shows: one bit of 0, the 32 bits of IDCODE, or the levels at the chain's pads, with `ext` for those that the
device does not drive. -/
def State.jtagCapture (s : State) (ext : Pad → Bool) : State :=
  let level (p : Pad) : Bool := match s.padDrive p with | .low => false | .high => true | _ => ext p
  if !s.jtag.trstN then s
  else { s with jtag := { s.jtag with dr := match s.jtag.ir with
    | .idcode => (List.range 32).map (bit s.idcode)
    | .sample => pads.map level
    | .extest => pads.map level
    | _ => [false] } }
/-- One bit is shifted: what TDO shows, and the port with `tdi` taken in. -/
def State.jtagShift (s : State) (tdi : Bool) : Bool × State :=
  if !s.jtag.trstN then (false, s)
  else (s.jtag.dr.headD false, { s with jtag := { s.jtag with dr := s.jtag.dr.drop 1 ++ [tdi] } })
/-- The update latches take the shifted chain, under SAMPLE/PRELOAD and EXTEST. -/
def State.jtagUpdate (s : State) : State :=
  if s.jtag.trstN && (s.jtag.ir == .sample || s.jtag.ir == .extest) then { s with jtag := { s.jtag with latch := s.jtag.dr } } else s

end Sys2Proof.Machine
end

