-- ==== Sys2Proof/Safety.lean ====
section
/-! DEFINITION. The terms the statements use: what counts as a safe run, when a command of the Grazil set starts, and a state in which nothing is due. -/

namespace Sys2Proof

/-- The device state word and its complement agree (R319 of 09_record_formats). -/
def StateWordOk (s : Machine.State) : Prop := s.dev.wordC = ~~~ s.dev.word

/-- A step that is neither a fault nor a refusal. -/
def Completes (s : Machine.State) : Prop := ∃ t, Machine.step s = .next t

/-- Each anti-rollback counter counts no more than the 64 fuses it has (R534, R538 of 16_power_reset_startup). -/
def FusesOk (s : Machine.State) : Prop := s.otp.fwCtr ≤ 64 ∧ s.otp.schedCtr ≤ 64

/-- The payload a command of the Grazil set runs with: none where PAYLOAD_LEN is 0, else what the host's memory or the slot gives, cut or filled to
PAYLOAD_LEN (R363 of 11_grazil_command_set). -/
def payloadOf (e : Machine.InFlight) (payload : Option Bytes) : Option Bytes :=
  if e.plen = 0 then some [] else payload.map (Machine.fit e.plen)

/-- Command `sub` is the in-flight command `e` with opcode `op`, it may start (R369 to R371), it passes checks 1 to 7 of R362, and its payload
reads as `b`. -/
def Starts (s : Machine.State) (op sub : Nat) (payload : Option Bytes) (e : Machine.InFlight) (b : Bytes) : Prop :=
  s.cmds.inflight.find? (fun x => x.sub == sub && x.op == op) = some e ∧ Machine.startable s.cmds.inflight e = true ∧ s.precheck e = 0
    ∧ payloadOf e payload = some b

/-- The state in which command `sub` has started in `t`: marked as started; a privileged command counts as use of the session (R369, R387). -/
def begunAt (t : Machine.State) (op sub : Nat) : Machine.State :=
  let u := t.mapCmd sub fun x => { x with started := true, since := t.now }
  if (Machine.opInfo op).any (·.priv) then { u with priv := { u.priv with lastUse := u.now } } else u

/-- The state in which command `sub` has started, `dt` ticks after `s`. -/
def begun (s : Machine.State) (dt op sub : Nat) : Machine.State := begunAt (s.advance dt) op sub

/-- The state in which stage command `sub` has replaced part `n` of the staged set with `b` and cleared the validated mark (R380). -/
def restaged (s : Machine.State) (dt op sub n : Nat) (b : Bytes) : Machine.State :=
  { begun s dt op sub with cfg := { s.cfg with staged := s.cfg.staged.put n b, validated := false } }

/-- Nothing is due at the end of a step: no capture request waits for the end of its engine cycle, the state word agrees with its complement, no CAPREQ has
its trigger instant still to come, no FATAL is to be taken up, REASONS and the state are as they should be, no close, handover or REBOOT waits, and no status
record is owed. -/
def Quiet (s : Machine.State) : Prop :=
  s.glq = [] ∧ StateWordOk s
    ∧ (∀ x ∈ s.gw.cells, ∀ c ∈ x.2.running.toList ++ x.2.waiting, c.src = 1 → ∀ t, c.tTrig = some t → t ≤ s.now)
    ∧ s.err.fatalDue = [] ∧ s.reasonsNow = s.dev.reasons ∧ (s.code = 5 → s.dev.reasons = 0) ∧ (s.code = 6 → s.dev.reasons ≠ 0)
    ∧ s.stream.closing = none ∧ s.waiting .flash = none ∧ s.waiting .reboot = none ∧ (∀ t, s.dev.rebootAt = some t → s.now < t)
    ∧ (s.stream.opened = true → s.whyNow = 0)

end Sys2Proof
end

