-- ==== Sys2Proof/Certificates/Slice0/Obligations.lean ====
section
/-! DEFINITION. The statements for the provers. `endStep dt s u` closes every step: it settles `u`, adds `dt` to the clock, and keeps the queue, the
identity and the fuses as hardware keeps them; `SettleOnQuietState` says when settling changes nothing. -/

open Sys2Proof Sys2Proof.Machine

/-! The block as a whole. -/

/-- The block takes the command at the front of its queue and runs it with the rest of the queue; with nothing waiting it idles (the model's own rule: log
3). -/
def Obligations.StepRunsFrontCommand : Prop :=
  (∀ (s : State) (c : Instr) (rest : List Instr), s.pending = c :: rest → step s = exec c { s with pending := rest })
  ∧ ∀ s : State, s.pending = [] → step s = .next s

/-- Whatever command runs to a next state, the queue, the serial number, variant and stepping are as before and time has not run backwards. -/
def Obligations.ExecKeepsQueueAndIdentity : Prop :=  ∀ (c : Instr) (s t : State), exec c s = .next t → t.pending = s.pending ∧ t.ident = s.ident ∧ s.now ≤ t.now

/-- Fuses are only ever blown: whatever step runs, neither anti-rollback counter falls, programmed key hashes, the subsystem ID, revocations and the
provisioning lock stand, and each counter stays within its 64 fuses (R534, R538; that revocation and lock fuses stand is R528 and R534's OTP). -/
def Obligations.FusesOnlyBlown : Prop :=
  ∀ s t : State, FusesOk s → step s = .next t →
    FusesOk t ∧ s.otp.fwCtr ≤ t.otp.fwCtr ∧ s.otp.schedCtr ≤ t.otp.schedCtr
    ∧ (s.otp.provLock = true → t.otp.provLock = true)
    ∧ (∀ v, s.otp.ssvid = some v → t.otp.ssvid = some v)
    ∧ (∀ k, s.otp.schedRev.getLsbD k = true → t.otp.schedRev.getLsbD k = true)
    ∧ (∀ k, s.otp.sessRev.getLsbD k = true → t.otp.sessRev.getLsbD k = true)
    ∧ (∀ k, k < 4 → s.otp.fwHash.getD k [] ≠ [] → t.otp.fwHash.getD k [] = s.otp.fwHash.getD k [])
    ∧ (∀ k, k < 4 → s.otp.schedHash.getD k [] ≠ [] → t.otp.schedHash.getD k [] = s.otp.schedHash.getD k [])
    ∧ (∀ k, k < 4 → s.otp.sessHash.getD k [] ≠ [] → t.otp.sessHash.getD k [] = s.otp.sessHash.getD k [])

/-- The state after reset meets the fuse invariant and the state word and its complement agree. -/
def Obligations.ResetMeetsInvariants : Prop := FusesOk State.reset ∧ StateWordOk State.reset

/-- Where nothing is due, settling changes nothing, so the step's next state is the effect's own state with the clock moved. -/
def Obligations.SettleOnQuietState : Prop :=
  ∀ (dt : Nat) (s u : State), Quiet u → u.settle = u
    ∧ endStep dt s u = { u with now := s.now + dt, pending := s.pending, ident := s.ident, otp := s.otp.burn u.otp }

/-- A 1 written to a reserved bit of a register that the write reaches has no defined effect, and the model stops by name (R12; log 6). -/
def Obligations.ReservedBitWriteStops : Prop :=
  (∀ (s : State) (dt v : Nat), s.reached 0 = true → v &&& 0xFFFFFF00 ≠ 0 → exec (.mbxDb dt v) s = .fault .reservedBitWritten)
  ∧ (∀ (s : State) (dt r v : Nat), s.reached 0 = true → v &&& 0xFFFFF000 ≠ 0 →
      exec (.cmdTail dt r v) s = .fault .reservedBitWritten ∧ exec (.cplHead dt r v) s = .fault .reservedBitWritten)
  ∧ (∀ (s : State) (dt r v : Nat), s.reached 1 = true → v &&& 0xFFFFFFC0 ≠ 0 → exec (.cmdRingControlWrite dt r v) s = .fault .reservedBitWritten)
  ∧ (∀ (s : State) (dt r v : Nat), s.reached 2 = true → v &&& 0xE0000000 ≠ 0 → exec (.streamRingControlWrite dt r v) s = .fault .reservedBitWritten)
  ∧ (∀ (s : State) (dt bar ofs len val : Nat), s.writeReserved bar ofs len val = true →
      exec (.registerWrite dt bar ofs len val) s = .fault .reservedBitWritten)

/-- DEVICE_INFO answers the versions and the policy; STATE_SET answers NO_CHANGE, waits for RANGING's conditions or for the boundary, or is refused;
RECOVER leaves SAFE for HOLD; POLICY_SET keeps AUTO_RESUME and stores the policy; REBOOT waits for the end of its step, an orderly one after HOLD, a stopped
recording and a calibration store; when its wait is over it completes, and the reset follows 1 ms later (R375 to R377, R399, R526; the layout of RESULT is
the model's, log 17; the step that makes the reset, log 96). TIME_SET steps device time at once, or arms a step for the next PPS_IN edge; TIME_SLEW sets the
rate and its end; TIME_SOURCE selects and stores the discipline, and posts 0x100C for source 2 on a device that is no member (R399, R417). While the source is
the Drover link, TIME_SET and TIME_SLEW are refused. -/
def Obligations.DeviceAndTimeCommandsRun : Prop :=
  ((∀ (s : State) (dt sub : Nat) (e : InFlight) (b : Bytes), Starts s 0x0101 sub none e b →
      exec (.deviceInfo dt sub) s = .next (endStep dt s ((begun s dt 0x0101 sub).finish sub (reply 0
        (le 4 (fwVersion (s.pair s.fw.active).image) ++ le 4 (fwVersion (s.pair s.standby).image) ++ le 4 s.repair.mcRun ++ le 4 s.policyWord)))))
  ∧ (∀ (s : State) (dt sub : Nat) (e : InFlight) (b : Bytes), Starts s 0x0102 sub none e b →
      (e.p 0 0 4 = s.code → s.isIn [3, 4, 5] = true →
        exec (.stateSet dt sub) s = .next (endStep dt s ((begun s dt 0x0102 sub).finish sub (reply 0x0001))))
      ∧ (e.p 0 0 4 = 5 → s.code = 4 → exec (.stateSet dt sub) s = .next (endStep dt s ((begun s dt 0x0102 sub).mapCmd sub fun x =>
          { x with wait := .ranging, since := s.now + dt, arg := 5 })))
      ∧ (e.p 0 0 4 = 4 → s.ranges = true → exec (.stateSet dt sub) s = .next (endStep dt s ((begun s dt 0x0102 sub).mapCmd sub fun x =>
          { x with wait := .toState, since := s.now + dt, arg := 4 })))
      ∧ (e.p 0 0 4 = 3 → s.armedUp = true → exec (.stateSet dt sub) s = .next (endStep dt s ((begun s dt 0x0102 sub).mapCmd sub fun x =>
          { x with wait := .toState, since := s.now + dt, arg := 3 })))
      ∧ ((e.p 0 0 4 ≠ 3 ∧ e.p 0 0 4 ≠ 4 ∧ e.p 0 0 4 ≠ 5) ∨ (e.p 0 0 4 = 4 ∧ s.code = 3) ∨ (e.p 0 0 4 = 5 ∧ s.code ≠ 4 ∧ s.code ≠ 5) →
        exec (.stateSet dt sub) s = .next (endStep dt s ((begun s dt 0x0102 sub).finish sub (reply 0x0200)))))
  ∧ (∀ (s : State) (dt sub : Nat) (e : InFlight) (b : Bytes) (t : State), Starts s 0x0103 sub none e b →
      t = { begun s dt 0x0103 sub with dev := { s.dev with safeLatch := false, safeNoAuto := false, autoPend := false } } →
      exec (.recover dt sub) s = .next (endStep dt s
        (((if s.stream.opened = true ∧ s.stream.closing ≠ some 1 then t.firmwarePath else t).enterHold 0).finish sub (reply 0))))
  ∧ (∀ (s : State) (dt sub : Nat) (e : InFlight) (b : Bytes), Starts s 0x0104 sub none e b →
      exec (.policySet dt sub true) s = .next (endStep dt s ((({ begun s dt 0x0104 sub with
        dev := { s.dev with autoResume := e.p 0 0 1 == 1, autoPend := e.p 0 0 1 == 1 && s.code == 7 && !s.dev.safeNoAuto } } : State).storePolicy).finish sub
          (reply 0 (le 4 (b2n s.dev.autoResume)))))
      ∧ exec (.policySet dt sub false) s = .next (endStep dt s ((begun s dt 0x0104 sub).finish sub (reply 0x0500))))
  ∧ (∀ (s : State) (dt sub : Nat) (e : InFlight) (b : Bytes), Starts s 0x0105 sub none e b →
      (e.p 0 0 1 = 0 → exec (.reboot dt sub) s = .next (endStep dt s ((begun s dt 0x0105 sub).mapCmd sub fun x =>
        { x with wait := .reboot, since := s.now + dt, arg := 0 })))
      ∧ (∀ t u v : State, e.p 0 0 1 = 1 → t = (begun s dt 0x0105 sub).mapCmd sub (fun x => { x with wait := .reboot, since := s.now + dt, arg := 1 }) →
        u = (if s.armedUp then t.enterHold 0 else t) → v = (if u.recd.st = .running ∨ u.recd.st = .full then u.recStop 3 else u) →
        exec (.reboot dt sub) s = .next (endStep dt s (if v.cal.sets.isEmpty then v else v.storeCal true))))
  ∧ (∀ (s : State) (e : InFlight), s.waiting .reboot = some e →
      (e.arg = 0 ∨ (s.stream.opened = false ∧ (s.recd.st = .idle ∨ s.recd.st = .fault)) → s.tryReboot = { s.finish e.sub (reply 0) with
        dev := { (s.finish e.sub (reply 0)).dev with rebootAt := some (s.now + ms 1) } })
      ∧ (e.arg = 1 → s.stream.opened = true ∨ (s.recd.st ≠ .idle ∧ s.recd.st ≠ .fault) → s.tryReboot = s))
  ∧ (∀ (s : State) (t : Nat), s.dev.rebootAt = some t → (t ≤ s.now → s.rebootDue = s.toReset 4 true true) ∧ (s.now < t → s.rebootDue = s)))
  ∧ ((∀ (s : State) (dt sub : Nat) (e : InFlight) (b : Bytes), Starts s 0x0106 sub none e b →
      (s.dev.timeSource ≠ 2 → e.p 8 0 1 ≠ 1 → exec (.timeSet dt sub) s = .next (endStep dt s (({ begun s dt 0x0106 sub with
        time := { (s.advance dt).time with units := e.p64 0 * 5120000000000, lastHostSet := s.now + dt } } : State).finish sub
          (reply 0 (le 8 (s.advance dt).deviceTime.toNat ++ le 8 (e.p64 0))))))
      ∧ (s.dev.timeSource ≠ 2 → e.p 8 0 1 = 1 → exec (.timeSet dt sub) s = .next (endStep dt s ((begun s dt 0x0106 sub).mapCmd sub fun x =>
          { x with wait := .pps, since := s.now + dt, arg := e.p64 0 })))
      ∧ (s.dev.timeSource = 2 → exec (.timeSet dt sub) s = .next (endStep dt s ((begun s dt 0x0106 sub).finish sub (reply 0x0200)))))
  ∧ (∀ (s : State) (dt sub : Nat) (e : InFlight) (b : Bytes) (rate : Int), Starts s 0x0107 sub none e b → rate = signed 32 (e.p 0 0 32) →
      exec (.timeSlew dt sub) s = .next (endStep dt s (
        if s.dev.timeSource = 2 then (begun s dt 0x0107 sub).finish sub (reply 0x0200)
        else if -100000 ≤ rate ∧ rate ≤ 100000 ∧ 1 ≤ e.p 4 0 32 ∧ e.p 4 0 32 ≤ 60000 then
          ({ begun s dt 0x0107 sub with
            time := { (s.advance dt).time with ppb := rate, slewEnd := some (s.now + dt + ms (e.p 4 0 32)), lastHostSet := s.now + dt } } : State).finish sub (reply 0)
        else (begun s dt 0x0107 sub).finish sub (reply 0x0102))))
  ∧ (∀ (s : State) (dt sub : Nat) (e : InFlight) (b : Bytes) (t : State), Starts s 0x0108 sub none e b →
      t = ({ begun s dt 0x0108 sub with
        dev := { s.dev with timeSource := e.p 0 0 2 }
        time := { (s.advance dt).time with lastPps := none, ppsLost := false, srcAt := s.now + dt, lastHostSet := s.now + dt } } : State).storePolicy →
      exec (.timeSource dt sub true) s = .next (endStep dt s ((if e.p 0 0 2 = 2 ∧ s.role ≠ 2 then t.post 0x100C 0 0 [2] else t).finish sub (reply 0)))
      ∧ exec (.timeSource dt sub false) s = .next (endStep dt s ((begun s dt 0x0108 sub).finish sub (reply 0x0500)))))

/-- VALIDATE judges the staged set and answers its status and RESULT; STAGE_DISCARD makes the staged set the active one again; STAGE_STATUS answers the
parts that differ, the validated mark and the last status (R379, R381, R399). APPLY, by the checks of R382 and R466 in order: a set that is not validated, one
equal to the active set, CELL with another part 1, 2 or 10, another size of a Silo region, and then its effect: in HOLD at once, or once a stream that closes
has closed; elsewhere it waits for the boundary, or for the cell where CELL is set. CONFIG_STORE writes the active set and the policy into the image that
boot would not pick, with the next generation, and raises SCHED_CTR to the SEC_VER of the stored schedule, at most 64; a failed write leaves that image
invalid and the counter as it was; without an applied set it is refused, and a set larger than the area has no room (R384, R531, R532, R539). -/
def Obligations.StagedSetCommandsRun : Prop :=
  ((∀ (s : State) (dt sub : Nat) (e : InFlight) (b : Bytes) (j : Judgement), Starts s 0x0201 sub none e b →
      j = (begun s dt 0x0201 sub).judgeSet (s.link.gen != 0) →
      exec (.validate dt sub) s = .next (endStep dt s (if j.status = 0
        then ({ begun s dt 0x0201 sub with
          cfg := { s.cfg with lastStatus := 0, validated := true }, link := { s.link with stagedRate := j.rate } } : State).finish sub (reply 0 j.result)
        else ({ begun s dt 0x0201 sub with cfg := { s.cfg with lastStatus := j.status } } : State).finish sub (reply j.status j.result))))
  ∧ (∀ (s : State) (dt sub : Nat) (e : InFlight) (b : Bytes), Starts s 0x0203 sub none e b →
      exec (.stageDiscard dt sub) s = .next (endStep dt s (({ begun s dt 0x0203 sub with
        cfg := { s.cfg with staged := s.cfg.active, validated := false } } : State).finish sub (reply 0))))
  ∧ (∀ (s : State) (dt sub : Nat) (e : InFlight) (b : Bytes), Starts s 0x0204 sub none e b →
      exec (.stageStatus dt sub) s = .next (endStep dt s ((begun s dt 0x0204 sub).finish sub (reply 0
        (le 4 (maskOf 10 fun i => s.cfg.staged.get (i + 1) != s.cfg.active.get (i + 1)) ++ le 4 (b2n s.cfg.validated) ++ le 4 s.cfg.lastStatus))))))
  ∧ (∀ (s : State) (dt sub : Nat) (e : InFlight) (b : Bytes) (t : State), Starts s 0x0202 sub none e b → t = begun s dt 0x0202 sub →
    exec (.apply dt sub) s = .next (endStep dt s (
      if s.cfg.validated = false then t.finish sub (reply 0x0160)
      else if s.cfg.staged = s.cfg.active then t.finish sub (reply 0x0001)
      else if s.code ≠ 3 ∧ e.p 0 0 1 = 1 ∧ ([1, 2, 10].any fun n => s.cfg.staged.get n != s.cfg.active.get n) = true then t.finish sub (reply 0x0161)
      else if s.resizes = true ∧ ¬(s.code = 3 ∧ s.recd.st = .idle) then t.finish sub (reply 0x0200)
      else if s.code = 3 then
        if s.stream.closing = none then t.applyInHold.finish sub t.applyInHold.applyReply
        else t.mapCmd sub fun x => { x with wait := .applyFurrow, since := s.now + dt, committed := true }
      else if e.p 0 0 1 = 1 then t.mapCmd sub fun x => { x with wait := .applyCell, since := s.now + dt, committed := true }
      else t.mapCmd sub fun x => { x with wait := .applyFurrow, since := s.now + dt, committed := true })))
  ∧ (∀ (s : State) (dt sub : Nat) (e : InFlight) (b : Bytes) (i g : Nat) (ok : Bool), Starts s 0x0205 sub none e b →
    i = s.imgPick.elim 0 (fun k => 1 - k) → g = (if s.imgOk (s.img (1 - i)) then imgGen (s.img (1 - i)) + 1 else 1) →
    exec (.configStore dt sub ok) s = .next (endStep dt s (
      if s.dev.applied = false then (begun s dt 0x0205 sub).finish sub (reply 0x0200)
      else if (imgOf s.cfg.active g).length > s.imgArea then (begun s dt 0x0205 sub).finish sub (reply 0x0326)
      else if ok = false then ({ begun s dt 0x0205 sub with flash := { s.flash with img := s.flash.img.set i [] } } : State).finish sub (reply 0x0500)
      else (({ begun s dt 0x0205 sub with
        flash := { s.flash with img := s.flash.img.set i (imgOf s.cfg.active g) }
        otp := { s.otp with schedCtr := max s.otp.schedCtr (min (hSecVer s.sched) 64) } } : State).storePolicy).finish sub (reply 0 (le 4 i)))))

/-- A stage command replaces its part of the staged set and clears the validated mark, and checks PAYLOAD_LEN alone: SCHED_STAGE and DRIVE_STAGE against
the size the payload states; SILO_STAGE on JLN-5120-AQ refuses a recording region (R380, R399). -/
def Obligations.StageCommandsRun : Prop :=
  ∀ (s : State) (dt sub : Nat) (payload : Option Bytes) (e : InFlight) (b : Bytes),
    (Starts s 0x0301 sub payload e b → b.length = num b 0x38 4 → exec (.schedStage dt sub payload) s = .next (endStep dt s ((restaged s dt 0x0301 sub 1 b).finish sub (reply 0))))
    ∧ (Starts s 0x0301 sub payload e b → b.length ≠ num b 0x38 4 →
        exec (.schedStage dt sub payload) s = .next (endStep dt s ((begun s dt 0x0301 sub).finish sub (reply 0x0103))))
    ∧ (Starts s 0x0304 sub payload e b → b.length = 2 * num b 0x2C 4 → exec (.driveStage dt sub payload) s = .next (endStep dt s ((restaged s dt 0x0304 sub 2 b).finish sub (reply 0))))
    ∧ (Starts s 0x0304 sub payload e b → b.length ≠ 2 * num b 0x2C 4 →
        exec (.driveStage dt sub payload) s = .next (endStep dt s ((begun s dt 0x0304 sub).finish sub (reply 0x0103))))
    ∧ (Starts s 0x0401 sub payload e b → exec (.rxStage dt sub payload) s = .next (endStep dt s ((restaged s dt 0x0401 sub 3 b).finish sub (reply 0))))
    ∧ (Starts s 0x0403 sub payload e b → exec (.threshStage dt sub payload) s = .next (endStep dt s ((restaged s dt 0x0403 sub 4 b).finish sub (reply 0))))
    ∧ (Starts s 0x0406 sub payload e b → exec (.reduceStage dt sub payload) s = .next (endStep dt s ((restaged s dt 0x0406 sub 5 b).finish sub (reply 0))))
    ∧ (Starts s 0x0501 sub payload e b → exec (.gleanStage dt sub payload) s = .next (endStep dt s ((restaged s dt 0x0501 sub 6 b).finish sub (reply 0))))
    ∧ (Starts s 0x0901 sub payload e b → exec (.hkStage dt sub payload) s = .next (endStep dt s ((restaged s dt 0x0901 sub 7 b).finish sub (reply 0))))
    ∧ (Starts s 0x0601 sub payload e b → exec (.outputStage dt sub payload) s = .next (endStep dt s ((restaged s dt 0x0601 sub 8 b).finish sub (reply 0))))
    ∧ (Starts s 0x0801 sub payload e b → (s.isAQ = false ∨ num b 0x14 4 = 0) →
        exec (.siloStage dt sub payload) s = .next (endStep dt s ((restaged s dt 0x0801 sub 9 b).finish sub (reply 0))))
    ∧ (Starts s 0x0801 sub payload e b → s.isAQ = true → num b 0x14 4 ≠ 0 →
        exec (.siloStage dt sub payload) s = .next (endStep dt s ((begun s dt 0x0801 sub).finish sub (reply 0x0302))))
    ∧ (Starts s 0x0701 sub payload e b → exec (.droverStage dt sub payload) s = .next (endStep dt s ((restaged s dt 0x0701 sub 10 b).finish sub (reply 0))))

/-! Status queries, and the commands of groups 0x03 to 0x0C that act. -/

/-- Status queries of the optical side: each answers from the state it starts in, `t` where time matters, and changes nothing but its own completion;
GLEAN_STATUS comes after the capture requests of the engine cycles that are over (R81, R254, R264, R364, R399; the order of the words in a response is the
model's, log 17). -/
def Obligations.OpticalQueriesAnswer : Prop :=
  ∀ (s t : State) (dt sub : Nat) (e : InFlight) (b : Bytes), t = s.advance dt →
  (Starts s 0x0302 sub none e b → exec (.schedStatus dt sub) s = .next (endStep dt s ((begun s dt 0x0302 sub).finish sub
    (replyWith (response 0x0302 [hSecVer s.sched, s.seq.variant, s.seq.ageing.getD 0, s.seq.planEpoch, b2n s.seq.planDomain] ((List.range 32).map fun i =>
      [0, 1, 2, 4].map (fun g => sat32 ((s.str i).gates.getD g 0)) ++ [sat32 (s.str i).underruns]))))))
  ∧ (Starts s 0x0303 sub none e b → exec (.budgetStatus dt sub) s = .next (endStep dt s ((begun s dt 0x0303 sub).finish sub
    (replyWith (response 0x0303 [] ((if e.p 0 0 32 = 0 then List.range 32 else bitsOf 32 (e.p 0 0 32)).map fun i =>
      (s.str i).guard.flatMap (fun w => two w.sum) ++ [maskOf 4 fun w => ((s.str i).guard.getD w {}).release.isSome]
        ++ (s.str i).guard.flatMap (fun w => two (w.release.elim 0 fun r => t.deviceTime.toNat + (r - (s.now + dt)) / 5120))
        ++ (s.str i).guard.map fun w => sat32 w.blocks))))))
  ∧ (Starts s 0x0404 sub none e b → exec (.threshStatus dt sub) s = .next (endStep dt s ((begun s dt 0x0404 sub).finish sub
    (replyWith (response 0x0404 [s.thresh.outstanding.length] ((List.range 32).map fun i =>
      two (s.thresh.slices.get i).cands ++ two (s.thresh.slices.get i).pairs
        ++ [(s.thresh.slices.get i).aliasRej, (s.thresh.slices.get i).alerts, (s.thresh.slices.get i).confirmed, (s.thresh.slices.get i).retracted,
          (s.thresh.slices.get i).ovf].map sat32))))))
  ∧ (Starts s 0x0405 sub none e b → exec (.alertList dt sub) s = .next (endStep dt s ((begun s dt 0x0405 sub).finish sub
    (replyWith (response 0x0405 [] (s.thresh.outstanding.map fun r => [r.id.toNat, r.zone, r.ch] ++ two r.time.toNat))))))
  ∧ (Starts s 0x0407 sub none e b → exec (.reduceStatus dt sub) s = .next (endStep dt s ((begun s dt 0x0407 sub).finish sub
    (replyWith (response 0x0407
      ((List.range 32).flatMap fun i => [(s.thresh.units.get i).requests, (s.thresh.units.get i).holdRej, (s.thresh.units.get i).trigCap].map sat32)
      (((List.range 512).filter fun c => e.p 0 0 32 == 0 || bit (e.p 0 0 32) (c / 16)).map fun c =>
        [(s.ch c).logOvf, (s.ch c).latePair, (s.ch c).closeTrunc, (s.ch c).histSat, (s.ch c).slotMiss].map sat32))))))
  ∧ (Starts s 0x0305 sub none e b → exec (.driveStatus dt sub) s = .next (endStep dt s ((begun s dt 0x0305 sub).finish sub
    (replyWith (response 0x0305 ([b2n s.steer.locked, b2n (!s.steer.slowErr), sat32 s.satbus.frames, sat32 s.satbus.breaks]
        ++ two s.steer.syncTime.toNat ++ two (twos 64 (s.steer.syncOfs / 5120)) ++ [sat32 s.steer.syncCount])
      ((List.range 32).map fun i => [pack [(0, (s.str i).mode.num), (8, b2n (s.str i).gateHeld), (9, b2n (s.str i).overV), (16, t.setpoint i)]]
        ++ two (if (s.str i).aged then t.verAge i / 5120 else 0) ++ (s.str i).judg.map sat32 ++ [(s.str i).cause]))))))
  ∧ (Starts s 0x0402 sub none e b → exec (.rxStatus dt sub) s = .next (endStep dt s ((begun s dt 0x0402 sub).finish sub
    (replyWith (response 0x0402
      (((List.range 4).flatMap fun g => [(s.group g).code, (s.group g).target,
          if s.grp g 20 24 8 < 16 then twos 32 (s.hk.chans.get (s.grp g 20 24 8)).value else 0])
        ++ (List.range 32).flatMap fun i => [twos 32 (t.dl i), sat32 (s.str i).dlCount])
      ((if e.p 0 0 32 = 0 then List.range 513 else (List.range 512).filter fun c => bit (e.p 0 0 32) (c / 16)).map fun c =>
        [(s.ch c).k, rate16 ((s.ch c).lam.getD 0), (s.ch c).laneWord, sat32 (s.ch c).evtOvf, sat32 (s.ch c).candDrop, sat32 (s.ch c).refAmbig]))))))
  ∧ (∀ u : State, u = t.arbitrate false → Starts u 0x0502 sub none e b → exec (.gleanStatus dt sub) s = .next (endStep dt s ((begunAt u 0x0502 sub).finish sub
    (replyWith (response 0x0502 [] ((if e.p 0 0 32 = 0 then List.range 32 else bitsOf 32 (e.p 0 0 32)).map fun a =>
      [(u.gw.get a).mode.num,
        pack ((List.range 4).map (fun p => (3 * p, (u.gw.get a).pos.getD p 0)) ++ [(12, (u.gw.get a).spare.getD 7), (16, maskOf 5 fun i => (u.gw.get a).failed.contains i)]),
        (u.gw.get a).ch, (u.gw.get a).gain, (u.gw.get a).filt, capWord (u.gw.get a).running, capWord ((u.gw.get a).waiting[0]?), capWord ((u.gw.get a).waiting[1]?),
        sat32 (u.gw.get a).captures, sat32 (u.gw.get a).overrun, sat32 (u.gw.get a).noSpace] ++ (u.gw.get a).refused.map sat32
        ++ [sat32 (u.gw.get a).noFire, sat32 (u.gw.get a).fallback, sat32 (u.gw.get a).unmeasured, sat32 (u.gw.get a).swaps, sat32 (u.gw.get a).swapAborts]))))))

/-- Status queries of the host, memory, Drover, firmware and redundancy side (R272, R295, R364, R399, R421, R460, R492, R495, R499, R510; the order of the
words in a response is the model's, log 17): each answers from the state it starts in, `t` where time matters. REC_STATUS on JLN-5120-AQ is refused (R4), and
before any commit is known its last COMMIT_SEQ is a free value (log 7); DROVER_STATUS first takes up the counts of lanes in loopback; CAL_READ and
LEDGER_READ refuse a number that names nothing. ERROR_READ answers up to the number of records asked for, from ERR_RD on, as blocks of 64 bytes, and with
ADVANCE moves ERR_RD past them; a count of 0 or above 256 is refused (R364, R390). -/
def Obligations.DeviceQueriesAnswer : Prop :=
  (∀ (s t : State) (dt sub : Nat) (e : InFlight) (b : Bytes), t = s.advance dt →
  (Starts s 0x0A21 sub none e b → exec (.engineStatus dt sub) s = .next (endStep dt s ((begun s dt 0x0A21 sub).finish sub
    (replyWith (response 0x0A21 ((List.range 1024).map s.holder ++ [s.repair.mcRun, s.repair.mcNew]) ((List.range 1088).map fun x =>
      [(s.eng x).st.num, (s.eng x).cause, s.posOf x] ++ (s.eng x).cnt.map sat32))))))
  ∧ (Starts s 0x0A20 sub none e b → exec (.redundancyStatus dt sub) s = .next (endStep dt s ((begun s dt 0x0A20 sub).finish sub
    (replyWith (response 0x0A20 (([16] ++ (List.range 4).map s.sparesLeft ++ [worst ((List.range 4).map s.sparesLeft)])
      ++ ([1] ++ (List.range 32).map s.sliceSpare ++ [worst ((List.range 32).map s.sliceSpare)])
      ++ ([1] ++ (List.range 513).map s.laneSpare ++ [worst ((List.range 513).map s.laneSpare)])
      ++ ([4] ++ [s.repair.spareBanks] ++ [worst [s.repair.spareBanks]])
      ++ ([6] ++ (List.range Config.sramMacros).map s.macroSpare ++ [worst ((List.range Config.sramMacros).map s.macroSpare)])
      ++ ([1] ++ [b2n s.fw.standbyOk] ++ [worst [b2n s.fw.standbyOk]])
      ++ [(s.repair.log.filter fun x => x.kind != 0).length, b2n s.repair.logFull]) [])))))
  ∧ (Starts s 0x0C03 sub none e b → exec (.fwStatus dt sub) s = .next (endStep dt s ((begun s dt 0x0C03 sub).finish sub (reply 0
    (le 4 (fwVersion (s.pair s.fw.active).image) ++ le 4 (fwVersion (s.pair s.standby).image) ++ le 4 s.standbyState ++ le 4 s.fw.outcome)))))
  ∧ (Starts s 0x0903 sub none e b → exec (.thermalStatus dt sub) s = .next (endStep dt s ((begun s dt 0x0903 sub).finish sub (reply 0
    (le 4 (pack [(0, s.hk.level), (8, s.hottest)]) ++ le 4 (twos 32 (roundQ (s.heatReading s.hottest)))
      ++ le 4 (pack [(0, s.hk.trips), (16, s.hk.tripSrc), (22, b2n s.hk.tripOpen)]) ++ le 4 0)))))
  ∧ (Starts s 0x0902 sub none e b → exec (.hkStatus dt sub) s = .next (endStep dt s ((begun s dt 0x0902 sub).finish sub
    (replyWith (response 0x0902
      ([(scanCycle s.hk.cfg + 2) / 3] ++ two s.hk.calSlot.toNat ++ s.hk.pwm.map (fun d => roundCap 65535 (d * 65536)) ++ [s.hk.alertPin.toNat])
      ((List.range 16).map (fun i => [twos 32 (s.hk.chans.get i).value, (s.hk.chans.get i).tag.toNat] ++ two (s.hk.chans.get i).time.toNat
          ++ [sat32 (s.hk.chans.get i).opens, sat32 (s.hk.chans.get i).steps])
        ++ (List.range 24).map fun i => [twos 32 (roundQ (((s.hk.sensors.get i).value : Rat) * 125 / 2)), 16 * b2n (s.hk.sensors.get i).failed,
          twos 32 (roundQ (((s.hk.sensors.get i).min : Rat) * 125 / 2)), twos 32 (roundQ (((s.hk.sensors.get i).max : Rat) * 125 / 2)), 0, 0]))))))
  ∧ (Starts s 0x0A02 sub none e b → ∀ mask : Nat → (CalPass → Bool) → Nat,
      (∀ i p, mask i p = maskOf 8 fun k => s.cal.passes.any fun (x : CalPass) => x.pass == k && x.stripe == i && p x) →
    exec (.calStatus dt sub) s = .next (endStep dt s ((begun s dt 0x0A02 sub).finish sub
      (replyWith (response 0x0A02 [sat32 s.cal.rejects, s.cal.level, s.cal.gen, b2n s.cal.dirty]
        ((List.range 32).map fun i => [mask i fun _ => true, mask i CalPass.inProg]
          ++ two (match Tab.find i s.cal.lastPass.cells with | some a => (s.now + dt - a) / 5120 | none => 2 ^ 64 - 1)))))))
  ∧ (Starts s 0x0A03 sub none e b → exec (.calRead dt sub) s = .next (endStep dt s ((begun s dt 0x0A03 sub).finish sub
    (if e.p 0 0 3 > 5 then reply 0x0102 else
      replyWith (le 2 0x0A03 ++ le 2 1 ++ le 2 0 ++ le 2 0 ++ le 4 (t.calImage (e.p 0 0 3)).length ++ le 4 0 ++ t.calImage (e.p 0 0 3))))))
  ∧ (Starts s 0x0A10 sub none e b → exec (.ledgerRead dt sub) s = .next (endStep dt s ((begun s dt 0x0A10 sub).finish sub
    (if e.p 0 0 8 > 7 then reply 0x0102 else
      replyWith (le 2 0x0A10 ++ le 2 1 ++ le 2 64 ++ le 2 32 ++ le 4 0 ++ le 4 0
        ++ (List.replicate (64 - (s.cal.ledger.get (e.p 0 0 8)).length) (List.replicate 32 (0 : BitVec 8)) ++ s.cal.ledger.get (e.p 0 0 8)).flatten)))))
  ∧ (Starts s 0x0802 sub none e b → exec (.siloStatus dt sub) s = .next (endStep dt s ((begun s dt 0x0802 sub).finish sub
    (replyWith (response 0x0802 (two (2 * s.silo.perCh) ++ s.silo.regions.flatMap two
      ++ [s.regionFill 0, s.regionFill 1 + s.regionFill 2 + s.regionFill 3 + s.regionFill 4, s.regionFill 5].flatMap two
      ++ [maskOf 6 fun w => s.silo.wmWave.getD w false, maskOf 6 fun w => s.silo.wmDump.getD w false,
        sat32 s.silo.notStored, sat32 s.silo.heldDrop, sat32 s.silo.ceCount, sat32 s.silo.dumpDrop] ++ [s.silo.waveQ]) [])))))
  ∧ (Starts s 0x0602 sub none e b → exec (.outputStatus dt sub) s = .next (endStep dt s ((begun s dt 0x0602 sub).finish sub
    (replyWith (response 0x0602 [num (s.part 8) 0x0C 4, num (s.part 8) 0x10 4, b2n s.stream.opened, sat32 s.stream.sheavesLost, sat32 s.stream.capsLost]
      (ringNums.map fun r => [b2n (s.srings.get r).en, b2n (s.srings.get r).full, b2n (s.srings.get r).opened, b2n (s.srings.get r).heldDrop,
        sat32 (s.srings.get r).records, sat32 ((bytesIn (s.srings.get r).held + bytesIn (s.srings.get r).heldAlerts) / 1024)]))))))
  ∧ (Starts s 0x0807 sub none e b → exec (.recStatus dt sub) s = .next (endStep dt s (
      if s.isAQ = true then (begun s dt 0x0807 sub).finish sub (reply 0x0302)
      else (if s.recd.lastCommit.isNone then (begun s dt 0x0807 sub).useFree else begun s dt 0x0807 sub).finish sub
        (replyWith (response 0x0807 ([s.recd.st.num, s.recd.ns] ++ two s.recd.nextLba ++ two s.recd.oldest ++ [s.recd.wraps % 2 ^ 32]
          ++ two (s.recd.lastCommit.getD (freeNat s)) ++ two s.recd.bytesIn ++ two s.recd.bytesOut ++ [sat32 s.recd.gapTotal] ++ s.recd.blocks.flatMap two
          ++ [s.recd.warn.toNat, s.recd.temp]) [])))))
  ∧ (Starts s 0x0702 sub none e b → ∀ u : State, u = (begun s dt 0x0702 sub).readLoops → exec (.droverStatus dt sub) s = .next (endStep dt s (u.finish sub
      (replyWith (response 0x0702
        ([s.devId, s.domain, s.drover.join.num, s.drover.refusedBy, s.drover.root, s.drover.hops, s.drover.pathNs, s.dev.timeSource, b2n u.timeLocked,
          twos 32 (roundQ u.drover.lastOfs), s.seq.planEpoch, (s.drover.pendPlan.map PlanSt.epoch).getD 0] ++ two ((s.drover.pendPlan.map fun p => p.act.toNat).getD 0))
        ((List.range 4).map fun p => [s.prole p, (s.port p).st.num] ++ [(u.lane (2 * p)).state, (u.lane (2 * p + 1)).state]
          ++ [(roundQ (s.port p).delay).toNat % 2 ^ 32, (s.port p).shed]
          ++ (two (u.lane (2 * p)).bits ++ two (u.lane (2 * p)).errs ++ (two (u.lane (2 * p + 1)).bits ++ two (u.lane (2 * p + 1)).errs))
          ++ (List.range 8).flatMap fun i => two (u.priv.cnt.get (352 + 8 * p + i)).toNat)
        ++ (if s.role ≠ 1 then [] else u.drover.members.flatMap fun m => [m.id, m.hops, m.pathNs, m.ackEpoch] ++ two (u.timeAt m.lastReport).toNat).flatMap
          fun v => le 4 v))))))
  ∧ (∀ (s : State) (dt sub : Nat) (e : InFlight) (b : Bytes) (l : List Nat) (answer : Completion), Starts s 0x0B05 sub none e b →
    l = (ringSlots s.err.rd.toNat s.err.wr.toNat).take (e.p 0 0 9) →
    answer = replyWith (le 2 0x0B05 ++ le 2 1 ++ le 2 l.length ++ le 2 64 ++ le 4 0 ++ le 4 0 ++ l.flatMap fun i => fit 64 (s.err.slots.get i)) →
    (1 ≤ e.p 0 0 9 → e.p 0 0 9 ≤ 256 → e.p 0 16 1 = 1 → exec (.errorRead dt sub) s = .next (endStep dt s (({ begun s dt 0x0B05 sub with
        err := { s.err with rd := s.err.rd + BitVec.ofNat 8 l.length } } : State).finish sub answer)))
    ∧ (1 ≤ e.p 0 0 9 → e.p 0 0 9 ≤ 256 → e.p 0 16 1 ≠ 1 → exec (.errorRead dt sub) s = .next (endStep dt s ((begun s dt 0x0B05 sub).finish sub answer)))
    ∧ ((e.p 0 0 9 = 0 ∨ e.p 0 0 9 > 256) → exec (.errorRead dt sub) s = .next (endStep dt s ((begun s dt 0x0B05 sub).finish sub (reply 0x0102)))))

/-- STRING_REVERIFY moves a faulted string to UNVERIFIED and clears its history of judged shots; a string that is not faulted answers NO_CHANGE, one with
GATE_STUCK is refused (R105). GLEAN_TEST ends a converter's TEST, sets its pattern, and refuses the reserved pattern and a converter that is off; GLEAN_FORCE
joins its request to the others of its engine cycle and completes with what becomes of it (R244, R254, R258, R263). The commands of the Gleaner come after
the capture requests of the engine cycles that are over: `u`. -/
def Obligations.OpticalCommandsRun : Prop :=
  (∀ (s : State) (dt sub : Nat) (e : InFlight) (b : Bytes), Starts s 0x0306 sub none e b →
      exec (.stringReverify dt sub) s = .next (endStep dt s (
        if (s.str (e.p 0 0 5)).mode ≠ .faulted then (begun s dt 0x0306 sub).finish sub (reply 0x0001)
        else if (s.str (e.p 0 0 5)).cause = 8 then (begun s dt 0x0306 sub).finish sub (reply 0x0215)
        else ((begun s dt 0x0306 sub).mapStr (e.p 0 0 5) fun q =>
            { q with mode := .unverified, fromFault := true, cause := 0, hist := [], gateHeld := false }).finish sub (reply 0))))
  ∧ (∀ (s u : State) (dt sub : Nat) (e : InFlight) (b : Bytes), u = (s.advance dt).arbitrate false →
      (Starts u 0x0503 sub none e b → exec (.gleanTest dt sub) s = .next (endStep dt s (
        if e.p 0 16 2 = 3 then (begunAt u 0x0503 sub).finish sub (reply 0x0102)
        else if e.p 0 8 1 ≠ 1 then ((begunAt u 0x0503 sub).endTest (e.p 0 0 5)).finish sub (reply 0)
        else if (u.gw.get (e.p 0 0 5)).on = false then (begunAt u 0x0503 sub).finish sub (reply 0x0212)
        else (((begunAt u 0x0503 sub).mapGw (e.p 0 0 5) fun g =>
            { g with testPat := some (e.p 0 16 2 + 4 * e.p 4 0 12) }).nextCapture (e.p 0 0 5)).finish sub (reply 0))))
      ∧ (Starts u 0x0504 sub none e b → ∀ c : Capture, c = {
          ch := e.p 0 16 9, prof := e.p 4 0 4, profB := u.profile (e.p 4 0 4), src := 2, tTrig := some (u.sampleNow * 3200), cellNo := u.seq.cellNo
          str := e.p 0 0 5, cell := (((u.str (e.p 0 0 5)).runs.head?).map (·.cell)).getD 0, furrow := u.seq.furrow, dir := u.seq.dir
          time := u.timeAt (u.sampleNow * 3200), tag := e.tag } →
        exec (.gleanForce dt sub) s = .next (endStep dt s
          (((begunAt u 0x0504 sub).mapCmd sub fun x => { x with wait := .force, since := u.now }).ask (e.p 0 0 5) c false (some sub)))))
  ∧ (∀ (s t : State) (r : GwReq) (sub o why : Nat), r.sub = some sub → s.request r.gw r.cap r.noCh = (t, o, why) →
      s.serveReq r = t.finish sub (reply 0 (le 4 o ++ le 4 why)))

/-- PLAN_ISSUE at the root sets the pending domain plan, a plan out of range is refused, and so is every plan elsewhere; LANE_SERVICE takes a lane out of
service or retrains it; LOOPBACK refuses a mode above 3 and a lane in service, and else sets the loop, with the partner told where it takes part, or ends it;
EYE_SCAN answers 192 blocks and the eyes it finds in them, and on the A0 stepping refuses a lane in service (R406 to R408, R421, R434; the eye's measure, log
56). -/
def Obligations.DroverCommandsRun : Prop :=
  (∀ (s : State) (dt sub : Nat) (e : InFlight) (b : Bytes) (now : Nat), Starts s 0x0703 sub none e b → now = (s.advance dt).deviceTime.toNat →
      exec (.planIssue dt sub) s = .next (endStep dt s (
        if s.role ≠ 1 then (begun s dt 0x0703 sub).finish sub (reply 0x0200)
        else if 0 < e.p 0 0 32 ∧ e.p 0 0 32 < 2 ^ 31 ∧ 1 ≤ e.p 4 0 16 ∧ e.p 4 0 16 ≤ 1023 ∧ e.p 4 16 16 ≠ 0 ∧ e.p 4 16 16 ≠ s.domEpoch
            ∧ now + 10000000 ≤ e.p64 8 ∧ e.p64 8 ≤ now + 60000000000 then
          ((begun s dt 0x0703 sub).setPendPlan
            { base := BitVec.ofNat 31 (e.p 0 0 32), stride := e.p 4 0 16, epoch := e.p 4 16 16, act := BitVec.ofNat 64 (e.p64 8) }).finish sub (reply 0)
        else (begun s dt 0x0703 sub).finish sub (reply 0x0102))))
  ∧ (∀ (s : State) (dt sub : Nat) (e : InFlight) (b : Bytes), Starts s 0x0704 sub none e b →
      (e.p 0 8 1 = 1 → exec (.laneService dt sub) s = .next (endStep dt s (((begun s dt 0x0704 sub).takeOut (e.p 0 0 3)).finish sub (reply 0))))
      ∧ (e.p 0 8 1 ≠ 1 → exec (.laneService dt sub) s = .next (endStep dt s (((begun s dt 0x0704 sub).retrain (e.p 0 0 3)).finish sub (reply 0)))))
  ∧ (∀ (s t : State) (dt sub : Nat) (e : InFlight) (b : Bytes), Starts s 0x0B04 sub none e b →
      t = (begun s dt 0x0B04 sub).readLoops.mapLane (e.p 0 0 3) (fun x =>
            { x with state := 3, loop := e.p 0 8 4, outBy := true, relocked := false, bits := 0, errs := 0 }) →
      exec (.loopback dt sub) s = .next (endStep dt s (
        if e.p 0 8 4 > 3 then (begun s dt 0x0B04 sub).finish sub (reply 0x0102)
        else if (s.lane (e.p 0 0 3)).state = 0 then (begun s dt 0x0B04 sub).finish sub (reply 0x0200)
        else if e.p 0 8 4 = 0 then ((begun s dt 0x0B04 sub).readLoops.retrain (e.p 0 0 3)).finish sub (reply 0)
        else if e.p 0 8 4 = 1 then t.finish sub (reply 0)
        else (t.laneMsg (e.p 0 0 3) 3 (e.p 0 8 4) 0).finish sub (reply 0))))
  ∧ (∀ (s : State) (dt sub ph : Nat) (counts blocks : List (List Nat)) (e : InFlight) (b : Bytes), Starts s 0x0B03 sub none e b → ph = 16 * 2 ^ e.p 0 8 4 →
      blocks = (List.range 192).map (fun i => (padTo ph 0 (counts.getD i [])).map fun v => v % 2 ^ 32) →
      exec (.eyeScan dt sub counts) s = .next (endStep dt s ((begun s dt 0x0B03 sub).finish sub (
        if e.p 0 8 4 > 3 then reply 0x0102
        else if s.isA0 = true ∧ (s.lane (e.p 0 0 3)).state = 0 then reply 0x0200
        else replyWith (response 0x0B03 ([e.p 0 0 3, ph, 64, 2097152] ++ (List.range 3).flatMap fun k =>
            [openRun (blocks.getD (64 * k + 32) []) (ph / 2), openRun ((List.range 64).map fun v => (blocks.getD (64 * k + v) []).getD (ph / 2) 0) 32]) blocks)))))

/-- SNAPSHOT copies every performance counter to its shadow, COUNTER_CLEAR clears the counters, REPAIR_LOG_CLEAR empties the entries named, all where the
count is 0, and ends LOG_FULL, ENGINE_RETIRE makes the engine of a position SUSPECT with cause HOST where a spare is idle (R273, R294, R354, R356, R399).
All four need the session that `Starts` asks for (R388); a start counts as its use (R387): `t`. -/
def Obligations.PrivilegedCommandsRun : Prop :=
  ∀ (s t : State) (dt sub : Nat) (e : InFlight) (b : Bytes),
  (Starts s 0x0B01 sub none e b → t = begun s dt 0x0B01 sub →
      exec (.snapshot dt sub) s = .next (endStep dt s (({ t with priv := { t.priv with shd := (s.advance dt).priv.cnt } } : State).finish sub
        (reply 0 (le 8 (s.advance dt).deviceTime.toNat)))))
  ∧ (Starts s 0x0B02 sub none e b → t = begun s dt 0x0B02 sub →
      exec (.counterClear dt sub) s = .next (endStep dt s (({ t with priv := { t.priv with cnt := ⟨0, []⟩ } } : State).finish sub (reply 0))))
  ∧ (∀ first n : Nat, Starts s 0x0A24 sub none e b → t = begun s dt 0x0A24 sub → first = e.p 0 0 8 → n = (if e.p 0 8 9 = 0 then 256 else e.p 0 8 9) →
      exec (.repairLogClear dt sub) s = .next (endStep dt s (({ t with repair := { s.repair with
        log := (List.range s.repair.log.length).map fun i => if first ≤ i && decide (i < first + n) then ({} : RepairEnt) else s.repair.log.getD i {}
        logFull := false, logBad := s.repair.logBad.filter fun i => !(decide (first ≤ i) && decide (i < first + n)) } } : State).finish sub (reply 0))))
  ∧ (Starts s 0x0A22 sub none e b → t = begun s dt 0x0A22 sub →
      exec (.engineRetire dt sub) s = .next (endStep dt s (
        if (s.eng (s.holder (e.p 0 0 10))).st = .suspect then t.finish sub (reply 0x0214)
        else if s.idleSpares (e.p 0 0 10 / 256) = [] then t.finish sub (reply 0x0310)
        else (t.raiseCause (e.p 0 0 10) 6).finish sub (reply 0))))
  ∧ ((opInfo 0x0B01).any (·.priv) = true → t = begun s dt 0x0B01 sub → t.priv.lastUse = s.now + dt)

/-- CAL_RUN schedules its pass for the stripes it names and answers how many they are, and refuses a pass number above 6; CAL_LOAD refuses sets whose
complement or bounds fail, and else puts the six sets in place of the old ones, ends what was measured since, selects the ageing variant afresh and makes a
store write due (R500, R504, R509). -/
def Obligations.CalibrationCommandsRun : Prop :=
  (∀ (s : State) (dt sub : Nat) (e : InFlight) (b : Bytes), Starts s 0x0A01 sub none e b →
      exec (.calRun dt sub) s = .next (endStep dt s (
        if e.p 0 0 8 ≥ 7 then (begun s dt 0x0A01 sub).finish sub (reply 0x0102)
        else ((begun s dt 0x0A01 sub).each (bitsOf 32 (e.p 4 0 32)) fun i t => t.addPass (e.p 0 0 8) i).finish sub
          (reply 0 (le 4 (bitsOf 32 (e.p 4 0 32)).length)))))
  ∧ (∀ (s t : State) (dt sub : Nat) (payload : Option Bytes) (e : InFlight) (b : Bytes) (sets : List Bytes), Starts s 0x0A04 sub payload e b →
      t = begun s dt 0x0A04 sub → sets = (List.range 6).map (fun k => slice b (2 * calLen * k) (2 * calLen)) →
      exec (.calLoad dt sub payload) s = .next (endStep dt s (
        if (sets.any fun x => compl (x.take calLen) != x.drop calLen) = true then t.finish sub (reply 0x0421)
        else if ((List.range 6).all fun k => t.calHeaderOk k (sets.getD k [])) = false ∨ sets.all calBoundsOk = false then t.finish sub (reply 0x0102)
        else (({ t with
          cal := { (s.advance dt).cal with sets := sets, delta := ⟨0, []⟩, slope := ⟨0, []⟩, serdesBase := ⟨0, []⟩, level := 0, dirty := true
                                           loadDue := some (s.now + dt) }
          rx := { s.rx with chans := { s.rx.chans with cells := s.rx.chans.cells.map fun (x : Nat × ChanState) => (x.1, { x.2 with abRun := 0 }) } } }
          : State).reselect).finish sub (reply 0))))

/-- SESSION_CHALLENGE outside a lockout makes a nonce, a free value (log 7), and answers it; SESSION_OPEN with a signature over the nonce in time opens the
session and voids the nonce, and else fails and is counted, the third failure within 60 s starting the lockout; SESSION_CLOSE closes it or answers
NO_CHANGE (R385 to R387). FW_LOAD of a checked image loads the standby pair; FW_HANDOVER that passes its checks announces itself and waits for the flash
commands ahead of it, and where none is left it pauses intake and starts its drain; FW_COMMIT writes the running image into the inactive slot with the next
generation, and with ADVANCE raises FW_CTR to min(SEC_VER, 64) (R378, R391, R392, R398, R539). -/
def Obligations.SessionAndFirmwareCommandsRun : Prop :=
  ((∀ (s : State) (dt sub : Nat) (e : InFlight) (b : Bytes), Starts s 0x0C10 sub none e b →
      (s.sess.lockout = none ∨ (∃ a, s.sess.lockout = some a ∧ a + sec 60 ≤ s.now + dt) →
        exec (.sessionChallenge dt sub) s = .next (endStep dt s (({ begun s dt 0x0C10 sub with
          free := s.free + 1, sess := { s.sess with nonce := some (le 16 (freeNat s)), nonceAt := s.now + dt, lockout := none } } : State).finish sub
            (reply 0 (le 16 (freeNat s))))))
      ∧ (∀ a, s.sess.lockout = some a → s.now + dt < a + sec 60 →
          exec (.sessionChallenge dt sub) s = .next (endStep dt s ((begun s dt 0x0C10 sub).finish sub (reply 0x0418)))))
  ∧ (∀ (s t : State) (dt sub : Nat) (payload : Option Bytes) (e : InFlight) (b : Bytes) (good : Bool) (fails : List Nat), Starts s 0x0C11 sub payload e b →
      t = begun s dt 0x0C11 sub →
      good = (match s.sess.nonce with | some n => decide (s.now + dt ≤ s.sess.nonceAt + sec 60) && s.sigOk 2 b (sessMsg n s.ident.serial) | none => false) →
      fails = ((s.now + dt) :: s.sess.fails).take 3 →
      exec (.sessionOpen dt sub payload) s = .next (endStep dt s (
        if good = true then ({ t with
          sess := { s.sess with nonce := none }, priv := { t.priv with opened := true, lastUse := s.now + dt } } : State).finish sub (reply 0)
        else ({ t with sess := { s.sess with
          nonce := none, fails := fails
          lockout := if fails.length = 3 ∧ s.now + dt ≤ fails.getD 2 0 + sec 60 then some (s.now + dt) else s.sess.lockout } } : State).finish sub (reply 0x0418))))
  ∧ (∀ (s t : State) (dt sub : Nat) (e : InFlight) (b : Bytes), Starts s 0x0C12 sub none e b → t = begun s dt 0x0C12 sub →
      (t.priv.opened = true → exec (.sessionClose dt sub) s = .next (endStep dt s (({ t with
        priv := { t.priv with opened := false } } : State).finish sub (reply 0))))
      ∧ (t.priv.opened = false → exec (.sessionClose dt sub) s = .next (endStep dt s (t.finish sub (reply 0x0001))))))
  ∧ ((∀ (s t : State) (dt sub : Nat) (payload : Option Bytes) (hwOk : Bool) (e : InFlight) (b img : Bytes), Starts s 0x0C01 sub payload e b →
      t = begun s dt 0x0C01 sub → img = (if e.p 0 0 2 = 0 then b else s.flash.fw.getD (e.p 0 0 2 - 1) []) →
      exec (.fwLoad dt sub payload hwOk) s = .next (endStep dt s (
        if t.handover.isSome = true then t.finish sub (reply 0x0221)
        else if e.p 0 0 2 = 3 then t.finish sub (reply 0x0102)
        else if (s.pair s.standby).avail = false then t.finish sub (reply 0x0321)
        else if hwOk = false then t.finish sub (reply 0x0500)
        else if s.fwCheck img ≠ 0 then t.finish sub (reply (s.fwCheck img))
        else ({ t.mapPair s.standby (fun p => { p with image := img, loading := false }) with
          fw := { (t.mapPair s.standby (fun p => { p with image := img, loading := false })).fw with standbyOk := true } } : State).finish sub
          (reply 0 (le 4 (fwVersion img) ++ le 4 (fwSecVer img))))))
  ∧ (∀ (s t v : State) (dt sub : Nat) (e : InFlight) (b : Bytes), Starts s 0x0C02 sub none e b → t = begun s dt 0x0C02 sub →
      v = (t.raise 0 8).post 0x1009 0 0 [0] →
      exec (.fwHandover dt sub) s = .next (endStep dt s (
        if e.p 0 0 8 > 100 then t.finish sub (reply 0x0102)
        else if (s.pair s.standby).image.isEmpty = true then t.finish sub (reply 0x0322)
        else if fwSecVer (s.pair s.standby).image < s.otp.fwCtr then t.finish sub (reply 0x041A)
        else if (s.pair s.standby).avail = false ∨ s.fw.standbyOk = false then t.finish sub (reply 0x0321)
        else if t.handover.isSome = true then t.finish sub (reply 0x0221)
        else (({ v with fw := { v.fw with abandoned := 0 } } : State).mapCmd sub fun x =>
          { x with wait := .flash, since := s.now + dt, arg := ms (if e.p 0 0 8 = 0 then 10 else e.p 0 0 8) }).tryDrain)))
  ∧ (∀ (s : State) (e : InFlight), s.waiting .flash = some e → s.tryDrain =
      if s.flashLeft e.sub = true then s
      else ({ s with cmds := { s.cmds with paused := true } } : State).mapCmd e.sub fun x => { x with wait := .drain, since := s.now, arg := s.now + x.arg })
  ∧ (∀ (s : State) (dt sub : Nat) (ok : Bool) (e : InFlight) (b img : Bytes) (adv : Nat), Starts s 0x0C04 sub none e b →
      img = (if s.fw.rom then (s.pair s.standby).image else (s.pair s.fw.active).image) →
      adv = (if e.p 0 0 1 = 1 then max s.otp.fwCtr (min (fwSecVer img) 64) else s.otp.fwCtr) →
      exec (.fwCommit dt sub ok) s = .next (endStep dt s (
        if img.isEmpty = true then (begun s dt 0x0C04 sub).finish sub (reply 0x0322)
        else if ok = false then ({ begun s dt 0x0C04 sub with
          flash := { s.flash with fw := s.flash.fw.set s.commitSlot [] } } : State).finish sub (reply 0x0500)
        else ({ begun s dt 0x0C04 sub with
          flash := { s.flash with fw := updAt s.flash.fw s.commitSlot fun _ => withGen img (fwGen (s.flash.fw.getD (1 - s.commitSlot) []) + 1) }
          repair := { s.repair with mcNew := num img 0x14 4 }
          otp := { s.otp with fwCtr := adv } } : State).finish sub (reply 0)))))

/-! The host's register accesses. `a` is the state when the access arrives; one that does not reach the device, link down or function in D3hot, changes
nothing (R332). -/

/-- Doorbells: MBX_DB hands over each named slot that the device does not own; CMD_TAIL and CPL_HEAD of an enabled ring move the index when it is in range
and set DB_ERR, and nothing else, when it is not; on a ring with EN = 0 they are ignored, but in the cycle that clears EN they still act (R338, R340, R341,
R360). Ring control: a change of SIZE_LOG2 is taken only while the ring is stopped and within 4 to 12, and is else refused and counted; it rewinds the
indices. A stream ring refuses a size, mask, coalescing time or batch out of range, or changed while EN is set; setting EN starts it. A fetch of the ring
whose turn it is submits its descriptors in ring order, or sets FETCH_ERR and stops the ring (R14, R342 to R344, R346, R366, R367). Reads of 4 and 8 bytes:
TIME_LO latches TIME_HI, PROD_LO latches PROD_HI, a counter's low word latches its high word inside a session and reads 0, counted in DENY_CNT, outside one;
an RC field returns its count and clears it but for what the present cycle added; another size returns 0 (R11, R13, R334, R335, R346, R354). CONS_LO commits
the 64-bit count when it lies from the previous count to PROD, else sets CONS_ERR; an unmask clears the mask and lets what pends follow; a write of 4 or 8
aligned bytes acts on its registers, one of another size on nothing (R334, R346, R352). -/
def Obligations.RegisterAccessesRun : Prop :=
  (∀ (s a : State) (dt r v vec : Nat), a = s.advance dt →
    (s.reached 0 = false → v < 256 → exec (.mbxDb dt v) s = .next (endStep dt s a) ∧ exec (.cmdTail dt r v) s = .next (endStep dt s a)
      ∧ exec (.cplHead dt r v) s = .next (endStep dt s a) ∧ exec (.snap dt) s = .next (endStep dt s a) ∧ exec (.msixUnmask dt 0 vec) s = .next (endStep dt s a)
      ∧ ∀ len, exec (.timeLo dt len) s = .next (endStep dt s a) ∧ (∀ ofs, exec (.counterLowRead dt ofs len) s = .next (endStep dt s a))
        ∧ ∀ deny, exec (.rcFieldRead dt deny len) s = .next (endStep dt s a))
    ∧ (s.reached 1 = false → exec (.cmdRingControlWrite dt r v) s = .next (endStep dt s a))
    ∧ (s.reached 2 = false → exec (.streamRingControlWrite dt r v) s = .next (endStep dt s a) ∧ exec (.consLo dt r v) s = .next (endStep dt s a)
      ∧ (∀ len, exec (.prodLo dt r len) s = .next (endStep dt s a)) ∧ exec (.msixUnmask dt 1 vec) s = .next (endStep dt s a))
    ∧ ∀ bar ofs len, s.reached bar = false → exec (.registerWrite dt bar ofs len v) s = .next (endStep dt s a))
  ∧ (∀ (s a : State) (dt v : Nat) (l : List Nat), s.reached 0 = true → v < 256 → a = s.advance dt →
      l = (bitsOf 8 v).filter (fun k => !(s.cmds.busy.getLsbD k)) →
      exec (.mbxDb dt v) s = .next (endStep dt s (if s.dev.mbxReady = false then a
        else (({ a with cmds := { s.cmds with
          busy := l.foldl (fun b k => setBit8 b k true) s.cmds.busy, queuedSlots := s.cmds.queuedSlots ++ l } } : State).admitSlots 8).rejectUnknown)))
  ∧ (∀ (s a : State) (dt r v n : Nat) (q : CmdRing), s.reached 0 = true → v < 4096 → a = s.advance dt → q = s.cmds.rings.getD r {} → n = 2 ^ q.sizeLog2 →
      exec (.cmdTail dt r v) s = .next (endStep dt s (
        if q.en = false ∧ q.offAt ≠ a.cycle then a
        else if v ≥ n then (a.mapCmdRing r fun q => { q with dbErr := true }).mark (keyDbErr r)
        else a.mapCmdRing r fun q => { q with cqTail := v }))
      ∧ exec (.cplHead dt r v) s = .next (endStep dt s (
        if q.en = false ∧ q.offAt ≠ a.cycle then a
        else if v ≥ n ∨ (v + n - q.cplHead) % n > (q.cplTail + n - q.cplHead) % n then (a.mapCmdRing r fun q => { q with dbErr := true }).mark (keyDbErr r)
        else a.mapCmdRing r fun q => { q with cplHead := v })))
  ∧ (∀ (s a : State) (dt r v : Nat) (q : CmdRing), s.reached 1 = true → v < 64 → a = s.advance dt → q = s.cmds.rings.getD r {} →
      exec (.cmdRingControlWrite dt r v) s = .next (endStep dt s (
        if v % 16 ≠ q.sizeLog2 ∧ (s.ringStopped r = false ∨ v % 16 < 4 ∨ 12 < v % 16) then a.refuse 1 (r * 0x10000 + 0x10)
        else a.mapCmdRing r fun q =>
          { (if v % 16 ≠ q.sizeLog2 then q.rewind else q) with
            sizeLog2 := v % 16, en := bit v 4, vecEn := bit v 5, offAt := if q.en = true ∧ bit v 4 = false then a.cycle else q.offAt })))
  ∧ (∀ (s a t : State) (dt r v : Nat) (q : StreamRing), s.reached 2 = true → v < 0x20000000 → a = s.advance dt → q = s.srings.get r →
      t = a.mapRing r (fun q => { q with
        sizeLog2 := v % 32, vecEn := bit v 6, discardHeld := bit v 7, typeMask := BitVec.ofNat 8 (bits v 8 8), coalesce := bits v 16 8
        batchLog2 := bits v 24 5, en := bit v 5, held := if q.en && !(bit v 5) then q.batch ++ q.held else q.held
        batch := if q.en && !(bit v 5) then [] else q.batch, full := q.full && bit v 5 }) →
      exec (.streamRingControlWrite dt r v) s = .next (endStep dt s (
        if v % 32 < 16 ∨ 30 < v % 32 ∨ 128 < bits v 16 8 ∨ bits v 24 5 < 12 ∨ 20 < bits v 24 5
          ∨ (q.en = true ∧ ¬(v % 32 = q.sizeLog2 ∧ bits v 8 8 = q.typeMask.toNat ∧ bits v 16 8 = q.coalesce ∧ bits v 24 5 = q.batchLog2))
        then a.refuse 2 (r * 0x100 + 8)
        else if bit v 5 = true ∧ q.en = false then t.ringEnable r else t)))
  ∧ (∀ (s a u : State) (dt r : Nat), a = s.advance dt → u = { a with cmds := { s.cmds with turn := (r + 1) % 4 } } →
      exec (.commandFetch dt r none) s = .next (endStep dt s (if s.ringsTurn r = true
        then (u.mapCmdRing r fun q => { q with fetchErr := true, en := false }).mark (keyFetchErr r) else a))
      ∧ ∀ l : List Bytes, exec (.commandFetch dt r (some l)) s = .next (endStep dt s (if s.ringsTurn r = true
        then ((u.mapCmdRing r fun q => { q with cqHead := (q.cqHead + (l.take (s.fetchRoom r)).length) % 2 ^ q.sizeLog2 }).submitFetch r
          (l.take (s.fetchRoom r))).rejectUnknown else a)))
  ∧ (∀ (s a t : State) (dt : Nat), s.reached 0 = true → a = s.advance dt →
      t = { a with pf0 := { s.pf0 with timeHi := BitVec.ofNat 32 (a.deviceTime.toNat / 2 ^ 32) } } →
      exec (.timeLo dt 4) s = .next (endStep dt s (t.emit .read 0 0x68 (le 4 (a.deviceTime.toNat % 2 ^ 32))))
      ∧ exec (.timeLo dt 8) s = .next (endStep dt s (t.emit .read 0 0x68 (le 4 (a.deviceTime.toNat % 2 ^ 32) ++ le 4 t.pf0.timeHi.toNat)))
      ∧ (∀ len, len ≠ 4 → len ≠ 8 → exec (.timeLo dt len) s = .next (endStep dt s (a.emit .read 0 0x68 (le len 0))))
      ∧ exec (.rcFieldRead dt false 4) s = .next (endStep dt s (({ a with pf0 := { s.pf0 with wwaCnt := BitVec.ofNat 16 a.wwaKept } } : State).emit .read 0 0x5C
          (le 4 (pack [(0, b2n s.pf0.wwa), (16, s.pf0.wwaCnt.toNat)] - a.wwaKept * 0x10000))))
      ∧ exec (.rcFieldRead dt true 4) s = .next (endStep dt s (({ a with priv := { a.priv with denyCnt := BitVec.ofNat 16 a.denyKept } } : State).emit
          .read 0 0x100000 (le 4 (pack [(0, b2n a.priv.opened), (16, a.priv.denyCnt.toNat)] - a.denyKept * 0x10000))))
      ∧ (∀ ofs len, exec (.counterLowRead dt ofs len) s = .next (endStep dt s (a.hostR 0 (0x100000 + ofs % 0x100000) len)))
      ∧ (∀ i, i < 512 → a.priv.opened = true → exec (.counterLowRead dt (0x1000 + 8 * i) 4) s = .next (endStep dt s (({ a with priv := { a.priv with
          lastUse := s.now + dt, cntHi := a.priv.cntHi.set i (BitVec.ofNat 32 ((a.priv.cnt.get i).toNat / 2 ^ 32)) } } : State).emit
            .read 0 (0x101000 + 8 * i) (le 4 ((a.priv.cnt.get i).toNat % 2 ^ 32)))))
      ∧ (∀ i, i < 512 → a.priv.opened = false →
          exec (.counterLowRead dt (0x1000 + 8 * i) 4) s = .next (endStep dt s (a.deny.emit .read 0 (0x101000 + 8 * i) (le 4 0))))
      ∧ exec (.snap dt) s = .next (endStep dt s (if a.priv.opened = true
          then { a with priv := { a.priv with lastUse := s.now + dt, shd := a.priv.cnt } } else a.deny)))
  ∧ (∀ (s a t : State) (dt r : Nat), s.reached 2 = true → r < 32 → a = s.advance dt →
      t = a.mapRing r (fun q => { q with prodHi := BitVec.ofNat 32 (q.prod.toNat / 2 ^ 32) }) →
      exec (.prodLo dt r 4) s = .next (endStep dt s (t.emit .read 2 (r * 0x100 + 0x20) (le 4 ((s.srings.get r).prod.toNat % 2 ^ 32))))
      ∧ exec (.prodLo dt r 8) s = .next (endStep dt s (t.emit .read 2 (r * 0x100 + 0x20)
          (le 4 ((s.srings.get r).prod.toNat % 2 ^ 32) ++ le 4 (t.srings.get r).prodHi.toNat))))
  ∧ (∀ (s a t : State) (dt r v : Nat) (n : DWord), s.reached 2 = true → a = s.advance dt → t = a.mapRing r (fun q => { q with consLo := BitVec.ofNat 32 v }) →
      n = BitVec.ofNat 64 ((s.srings.get r).consHi.toNat * 2 ^ 32 + v) →
      exec (.consLo dt r v) s = .next (endStep dt s (if n < (s.srings.get r).cons ∨ (s.srings.get r).prod < n
        then (t.mapRing r fun q => { q with consErr := true }).mark (keyConsErr r)
        else ((t.mapRing r fun q => { q with cons := n }).serveRing r).updFull r)))
  ∧ (∀ (s a : State) (dt fn vec : Nat), s.reached (if fn = 0 then 0 else 2) = true → a = s.advance dt →
      exec (.msixUnmask dt fn vec) s = .next (endStep dt s ((a.mapFn fn fun f =>
        { f with msix := { f.msix with masked := f.msix.masked.set vec false } }).sendPending fn)))
  ∧ (∀ (s a : State) (dt bar ofs len val : Nat), s.reached bar = true → s.writeReserved bar ofs len val = false → a = s.advance dt →
      (len = 4 → ofs % 4 = 0 → exec (.registerWrite dt bar ofs len val) s = .next (endStep dt s (a.write32 bar ofs (val % 2 ^ 32))))
      ∧ (len = 8 → ofs % 8 = 0 → exec (.registerWrite dt bar ofs len val) s = .next (endStep dt s
          ((a.write32 bar ofs (val % 2 ^ 32)).write32 bar (ofs + 4) (val / 2 ^ 32 % 2 ^ 32))))
      ∧ (len ≠ 4 → len ≠ 8 → bar = 1 ∨ bar = 2 → exec (.registerWrite dt bar ofs len val) s = .next (endStep dt s a)))

/-! The Baler's jobs, the Silo and recording (13_silo_baler_recording). -/

/-- BALER_JOB refuses a descriptor that breaks R445, an input that cannot be read, and DST 4 where recording does not run, and else runs on its input;
BALER_RESUME refuses a token that names no saved state, and else frees the state and goes on with what its job has not taken. A run answers when its input
and buffer suffice, is PARTIAL with a token when its buffer is full, and waits when its destination accepts nothing; a job that waits goes on, or after
10 ms is PARTIAL; a token whose halves do not agree is an integrity error as well; a saved state ends 60 s after its job stopped (R445 to R447). -/
def Obligations.BalerJobsRun : Prop :=
  (∀ (s u : State) (dt sub : Nat) (payload src : Option Bytes) (e : InFlight) (b d : Bytes) (j : BalerJob), Starts s 0x0803 sub payload e b →
      u = begun s dt 0x0803 sub → d = fit 64 b → j = { desc := d } →
      exec (.balerJob dt sub payload src) s = .next (endStep dt s (
        if jobOk d s.scratchSize = false then u.finish sub (reply 0x0102)
        else if jDst d = 4 ∧ s.isAQ = true then u.finish sub (reply 0x0302)
        else if jDst d = 4 ∧ s.recd.st ≠ .running then u.finish sub (reply 0x0200)
        else match u.jobInput j src with
          | none => u.finish sub (reply 0x0104)
          | some inp =>
            match u.jobEnd sub true (u.jobRun (if jSrc d = 1 ∨ jDst d ≤ 1 then j else { j with input := inp, base := 0 }) inp) with
            | (t, some c) => t.finish sub c
            | (t, none) => t)))
  ∧ (∀ (s u : State) (dt sub : Nat) (src : Option Bytes) (e : InFlight) (b : Bytes), Starts s 0x0804 sub none e b → u = begun s dt 0x0804 sub →
      exec (.balerResume dt sub src) s = .next (endStep dt s (
        if e.p64 0 / 2 ^ 32 ≠ 2 ^ 32 - 1 - e.p64 0 % 2 ^ 32 then (u.integrityFault 10).finish sub (reply 0x0102)
        else match s.baler.saved.get (e.p64 0 % 256) with
          | none => u.finish sub (reply 0x0102)
          | some j =>
            if e.p64 0 ≠ tokenOf (e.p64 0 % 256) j.gen ∨ j.stopAt + sec 60 ≤ s.now + dt then u.finish sub (reply 0x0102)
            else if jDst j.desc = 4 ∧ s.recd.st ≠ .running then u.finish sub (reply 0x0200)
            else match u.jobInput j src with
              | none => u.finish sub (reply 0x0104)
              | some inp =>
                let v : State := { u with baler := { s.baler with saved := s.baler.saved.set (e.p64 0 % 256) none } }
                match v.jobEnd sub false (v.jobRun (if jSrc j.desc = 1 ∨ jDst j.desc ≤ 1 then j else { j with input := inp, base := j.bytesIn }) inp) with
                | (t, some c) => t.finish sub c
                | (t, none) => t)))
  ∧ (∀ (s t : State) (sub : Nat) (first : Bool) (j : BalerJob),
      s.jobEnd sub first (t, j, 0) = (t, some { status := 0, result := jobResult j 0 })
      ∧ s.jobEnd sub first (t, j, 2) = ((t.jobPartial j).1, some (t.jobPartial j).2)
      ∧ (first = false ∨ j.bytesIn ≠ 0 → s.jobEnd sub first (t, j, 1) = (t, some { status := 0, result := jobResult j 0 }))
      ∧ (first = true → j.bytesIn = 0 → s.jobEnd sub first (t, j, 1) = (s, some (reply (if jDir j.desc = 1 then 0x0420 else 0x0330))))
      ∧ (s.jobEnd sub first (t, j, 3)).2 = none ∧ (sub, j) ∈ (s.jobEnd sub first (t, j, 3)).1.baler.running)
  ∧ (∀ (s : State) (dt slot : Nat) (j : BalerJob), s.baler.saved.get slot = some j →
      (j.stopAt + sec 60 ≤ s.now + dt → exec (.balerTokenExpiry dt slot) s = .next (endStep dt s { s.advance dt with
        baler := { s.baler with saved := s.baler.saved.set slot none } }))
      ∧ (s.now + dt < j.stopAt + sec 60 → exec (.balerTokenExpiry dt slot) s = .next (endStep dt s (s.advance dt))))
  ∧ (∀ (s : State) (dt sub : Nat), s.holdUp = true → s.baler.running.find? (fun p => p.1 == sub) = none →
      exec (.balerDestStall dt sub) s = .next (endStep dt s (s.advance dt)))
  ∧ (∀ (s a u : State) (dt sub : Nat) (j : BalerJob) (e : InFlight) (rest : Bytes), s.holdUp = true →
      s.baler.running.find? (fun p => p.1 == sub) = some (sub, j) →
      s.cmds.inflight.find? (fun e => e.sub == sub && e.done.isNone && e.wait == .baler) = some e → jSrc j.desc ≠ 1 →
      rest = j.input.drop (128 * (j.bytesIn - j.base)) → a = s.advance dt →
      u = { a with baler := { s.baler with running := s.baler.running.filter fun x => x.1 != sub } } →
      exec (.balerDestStall dt sub) s = .next (endStep dt s (
        if (u.jobRun j rest).2.2 = 3 ∧ (u.jobRun j rest).2.1.bytesOut = j.bytesOut ∧ (u.jobRun j rest).2.1.tail.length = j.tail.length
        then (if e.since + ms 10 ≤ s.now + dt then a.stopJob sub else a)
        else match u.jobEnd sub false (u.jobRun j rest) with
          | (t, some c) => t.finish sub c
          | (t, none) => t)))

/-- REC_START is refused on JLN-5120-AQ, while a recording runs, and for a drive that does not fit R448 or holds foreign data; else it enables the
controller, creates the I/O queues, reads both superblocks, on a blank drive writes them and flushes, and recording is RUNNING: on a known drive after its
newest valid commit, on a blank one with an empty journal. REC_STOP is refused on JLN-5120-AQ, and else waits for its commit, or answers at once when nothing
runs (R3, R448 to R450, R458, R459). -/
def Obligations.RecordingCommandsRun : Prop :=
  (∀ (s u v : State) (dt sub entries : Nat) (drive : DriveInfo) (e : InFlight) (b sb block : Bytes) (known : Bool), Starts s 0x0805 sub none e b →
      known = drive.super.any (superOk drive.lbas) → entries = min 1024 (drive.mqes + 1) →
      sb = superblock drive.lbas s.ident.serial.toNat (s.advance dt).deviceTime.toNat → block = fit 4096 (sb ++ compl sb) → u = begun s dt 0x0805 sub →
      v = { u with
        recd := { s.recd.recover (if known then drive.commits else []) with
          st := .running, ns := e.p 0 0 32, nsLbas := drive.lbas, vwc := drive.vwc, commitAt := s.now + dt, smartAt := s.now + dt, phase := .none, writes := 0
          outst := [], ioEntries := entries, retried := false, chunks := 0, extBytes := 0, bytesInExt := 0, tFirst := none, tLast := 0, gaps := 0, gapped := 0
          inGap := false, chunkSeq := (if known then drive.chunkSeqs else []).foldl (fun (t : Tab Nat) p => t.set p.1 p.2) ⟨0, []⟩ }
        pins := { s.pins with refPcie2 := true, recPerstN := true }
        out := (if known then [] else [⟨.nvme, 4, 2, []⟩, ⟨.nvme, 0, 1, block⟩, ⟨.nvme, 0, 0, block⟩])
          ++ ([⟨.nvme, 7, 1, []⟩, ⟨.nvme, 7, 0, []⟩, ⟨.nvme, 6, entries, []⟩, ⟨.nvme, 5, 0, []⟩] ++ s.out) } →
      exec (.recStart dt sub drive) s = .next (endStep dt s (
        if s.isAQ = true then u.finish sub (reply 0x0302)
        else if s.recd.st ∈ [RecSt.running, .stopping, .full] then u.finish sub (reply 0x0200)
        else if drive.up = false ∨ driveMeets drive = false ∨ (known = false ∧ drive.blank = false) then u.finish sub (reply 0x0102)
        else v.finish sub (reply 0))))
  ∧ (∀ drive : DriveInfo, driveMeets drive = true → 2 ^ 18 ≤ drive.lbas ∧ drive.lbas ≤ 2 ^ 32 ∧ drive.lbaData = 4096 ∧ drive.hmmin = 0
      ∧ (drive.mdts = 0 ∨ 131072 ≤ drive.mdts) ∧ 255 ≤ drive.mqes ∧ 1 ≤ drive.ioPairs ∧ drive.timeout ≤ 10000)
  ∧ (∀ q : Rec, q.recover [] = { q with nextLba := 4098, extLba := 4098, oldest := 4098, extents := [], wraps := 0, commitSeq := 0, lastCommit := none })
  ∧ (∀ (s : State) (dt sub : Nat) (e : InFlight) (b : Bytes), Starts s 0x0806 sub none e b →
      exec (.recStop dt sub) s = .next (endStep dt s (
        if s.isAQ = true then (begun s dt 0x0806 sub).finish sub (reply 0x0302)
        else ((begun s dt 0x0806 sub).mapCmd sub fun x =>
          { x with wait := .recStop, since := s.now + dt }).recStop (if e.p 0 0 1 = 1 then 3 else 2))))
  ∧ (∀ (s : State) (reason : Nat), (s.recd.st = .idle ∨ s.recd.st = .fault →
        s.recStop reason = ({ s with recd := { s.recd with reason := reason } } : State).recStopped)
      ∧ (s.recd.st = .stopping → s.recStop reason = s))

/-- A drive's successful completion takes one write off the count and moves the commit or the write stream on; a failed one is issued once more and then
ends the recording; the commit timer and the 64 MB limit start a commit; the drive's faults, the loss of its clock, and its critical warnings act as R449 to
R462 say; a gap of RECORD ends when its fill has fallen 10 points below WM_WAVE (R456). An uncorrectable DDR5 error in a held stream record drops that record
and marks its ring; one in the SCRATCH region counts nothing else; each posts DDR_UE with its region, and corrected errors are counted. A burst queue's share
full for 1 ms is reported (R435, R437, R467). -/
def Obligations.RecordingAndSiloEventsRun : Prop :=
  ((∀ (s : State) (dt status : Nat), s.holdUp = true → s.recd.writes ≠ 0 → s.recd.st ≠ .idle → s.recd.st ≠ .fault →
      (status ≠ 0 → s.recd.retried = false →
        exec (.nvmeCompletion dt status) s = .next (endStep dt s
          (({ s.advance dt with recd := { s.recd with retried := true } } : State).emit .nvme (s.recd.outst.headD (0, 0, [])).1
            (s.recd.outst.headD (0, 0, [])).2.1 (s.recd.outst.headD (0, 0, [])).2.2)))
      ∧ (status ≠ 0 → s.recd.retried = true → exec (.nvmeCompletion dt status) s = .next (endStep dt s ((s.advance dt).recFault status)))
      ∧ (status = 0 → s.recd.phase = .record → exec (.nvmeCompletion dt status) s = .next (endStep dt s
          ({ s.advance dt with recd := { s.recd with writes := s.recd.writes - 1, outst := s.recd.outst.drop 1, retried := false } } : State).commitDone))
      ∧ (status = 0 → s.recd.phase = .none → exec (.nvmeCompletion dt status) s = .next (endStep dt s
          ({ s.advance dt with recd := { s.recd with writes := s.recd.writes - 1, outst := s.recd.outst.drop 1, retried := false } } : State).recPump))
      ∧ (status = 0 → s.recd.phase ≠ .record → s.recd.phase ≠ .none → exec (.nvmeCompletion dt status) s = .next (endStep dt s
          ({ s.advance dt with recd := { s.recd with writes := s.recd.writes - 1, outst := s.recd.outst.drop 1, retried := false } } : State).commitNext)))
  ∧ (∀ (s : State) (dt : Nat), s.holdUp = true →
      (s.recd.phase ≠ .none → exec (.recCommit dt) s = .next (endStep dt s (s.advance dt).commitNext))
      ∧ (s.recd.phase = .none → s.recd.st = .running → 67108864 ≤ s.recd.extBytes →
          exec (.recCommit dt) s = .next (endStep dt s ((s.advance dt).startCommit 0)))
      ∧ (s.recd.phase = .none → s.recd.st = .running → s.recd.chunks ≠ 0 → s.recd.commitAt + ms 100 ≤ s.now + dt →
          exec (.recCommitTimer dt) s = .next (endStep dt s ((s.advance dt).startCommit 1)))
      ∧ (s.recd.st ≠ .running → exec (.recCommitTimer dt) s = .next (endStep dt s (s.advance dt)))
      ∧ (∀ status, exec (.recFault dt status) s = .next (endStep dt s ((s.advance dt).recFault status)))
      ∧ (s.recd.st = .running → exec (.refclkPcie2Loss dt) s = .next (endStep dt s
          (({ s.advance dt with pins := { s.pins with refPcie2 := false } } : State).useFree.recFault (freeNat s))))
      ∧ (s.recd.st = .idle → exec (.refclkPcie2Loss dt) s = .next (endStep dt s { s.advance dt with pins := { s.pins with refPcie2 := false } })))
  ∧ (∀ (s : State) (dt warn temp : Nat), s.holdUp = true → s.recd.st ≠ .idle → s.recd.smartAt + sec 10 ≤ s.now + dt →
      ∀ t : State, t = ({ s.advance dt with recd := { s.recd with warn := BitVec.ofNat 8 warn, temp := temp, smartAt := s.now + dt } } : State).emit
        .nvme 8 0 [] →
      exec (.smartPoll dt warn temp) s = .next (endStep dt s (
        if BitVec.ofNat 8 warn &&& ~~~ s.recd.warn = 0 then t else t.post 0x5008 0 0 [(BitVec.ofNat 8 warn).toNat])))
  ∧ (∀ (s t : State) (dt : Nat), s.holdUp = true → t = (s.advance dt).updWm 5 → exec (.recGap dt) s = .next (endStep dt s (
      if s.recd.inGap = true ∧ t.regionFill 5 * 100 + 10 * t.regionSize 5 < s.pf 9 0x1C 0 8 * t.regionSize 5
      then { t with recd := { t.recd with inGap := false } } else t))))
  ∧ ((∀ (s a t : State) (dt ring n ce : Nat) (rc : Bytes), s.holdUp = true →
      ((s.srings.get ring).heldAlerts ++ (s.srings.get ring).held)[n]? = some rc →
      a = { s.advance dt with silo := { s.silo with ceCount := s.silo.ceCount + ce } } → t = a.discardHeld rc →
      exec (.ddrUe dt 2 ring n ce) s = .next (endStep dt s (({ t with silo := { t.silo with heldDrop := t.silo.heldDrop + 1 } } : State).post 0x4007 0 0 [2])))
  ∧ (∀ (s : State) (dt ring n ce : Nat), s.holdUp = true →
      exec (.ddrUe dt 5 ring n ce) s = .next (endStep dt s (({ s.advance dt with
        silo := { s.silo with ceCount := s.silo.ceCount + ce } } : State).post 0x4007 0 0 [5])))
  ∧ (∀ (s : State) (dt share fullFor : Nat), s.holdUp = true → exec (.bqShareFull dt share fullFor) s = .next (endStep dt s (
      if ms 1 ≤ fullFor then (s.advance dt).post 0x4006 0 0 [share] else s.advance dt))))

/-! Supplies, resets, clocks and boot (16_power_reset_startup). -/

/-- A rise of the supplies in OFF enters RESET; a rise in order owes cause 0, one out of order cause 2 with its rail and KIND. A violation of a rail, under
940 or over 1080 thousandths for 2 us or more, enters RESET with cause 2; the first one records its rail and KIND, one during power-down none; a shorter or
smaller excursion resets nothing, and in RESET one out of tolerance starts the 1 ms again. A removal of power leaves OFF with the state word 0, and fuses and
flash as they are. POR_N held low for 10 us or more enters RESET with cause 1, one below 1 us does nothing (R521 to R524, R527, R528). RESET ends 1 ms after
the supplies are good, not before POR_N rises, and boot enters stage 0x01 with the owed cause in RST_CAUSE; at the lock of the SYS PLLs the clock monitor is
armed and device time starts: from 0 after a cold start, with the RTC's count after another; without a lock boot stays at stage 0x02 and retries every 10 ms;
a loss of the clock, once it is monitored, takes the detector bias to standby, enters RESET with cause 3, gates the pads and drives FAULT_N low (R30, R523,
R525 to R528, R540). -/
def Obligations.SupplyAndClockEventsRun : Prop :=
  ((∀ (s a u : State) (dt : Nat) (ramps : List Nat), a = s.advance dt → u = a.toReset 0 false false →
      exec (.supplyRise dt ramps) s = .next (endStep dt s (
        if s.code ≠ 0 then a
        else match firstRiseFault ramps with
          | none => { u with power := { u.power with okSince := s.now + dt } }
          | some x => { u with power := { u.power with
              okSince := s.now + dt, nextSrc := 2, kind := BitVec.ofNat 3 x.1, rail := BitVec.ofNat 3 x.2 } })))
  ∧ (∀ (s a u : State) (dt rail mil len : Nat) (powerDown : Bool), a = s.advance dt → u = a.toReset 2 false false →
      exec (.supplyViolation dt rail mil len powerDown) s = .next (endStep dt s (
        if s.code = 0 then a
        else match railFault mil len with
          | none =>
            if s.code = 1 ∧ railOut rail mil = true
            then { a with power := { s.power with okSince := max s.power.okSince (s.now + dt + ns len) } } else a
          | some kind =>
            let p := { u.power with okSince := max s.power.okSince (s.now + dt + ns len) }
            { u with power := if powerDown = true ∨ (s.code = 1 ∧ s.power.nextSrc = 2 ∧ s.power.kind ≠ 7) then p
              else { p with rail := BitVec.ofNat 3 rail, kind := BitVec.ofNat 3 kind } })))
  ∧ (∀ mil len : Nat, (railFault mil len = some 4 ↔ 2000 ≤ len ∧ mil < 940) ∧ (railFault mil len = some 5 ↔ 2000 ≤ len ∧ 1080 < mil)
      ∧ (len < 2000 → railFault mil len = none))
  ∧ (∀ (s u v : State) (dt : Nat), u = (s.advance dt).afterReset false false false →
      v = ({ u with power := {}, time := {}, jtag := {}, dev := { u.dev with coldStart := true } } : State).setWord 0 →
      exec (.powerRemoved dt) s = .next (endStep dt s v)
      ∧ v.dev.word = 0 ∧ v.dev.coldStart = true ∧ v.power = {} ∧ v.otp = s.otp ∧ v.flash = s.flash)
  ∧ (∀ (s u : State) (dt len : Nat), u = (s.advance dt).toReset (if s.code = 1 then s.power.nextSrc else 1) false false → 10000 ≤ len →
      exec (.porNLow dt len) s = .next (endStep dt s (if s.code = 0 then s.advance dt else
        { u with power := { u.power with porRise := s.now + dt + ns len }, pins := { u.pins with porN := false } })))
  ∧ (∀ (s : State) (dt len : Nat), len < 1000 → exec (.porNLow dt len) s = .next (endStep dt s (s.advance dt))))
  ∧ ((∀ (s a : State) (dt : Nat), a = s.advance dt → exec (.resetEnd dt) s = .next (endStep dt s (
        if s.code ≠ 1 ∨ s.now + dt < s.power.okSince + ms 1 ∨ s.now + dt < s.power.porRise then a
        else ({ a with pins := { s.pins with porN := true, faultN := true } } : State).enterBoot s.power.nextSrc 1)))
  ∧ (∀ (s : State) (src stage : Nat), (s.enterBoot src stage).power.src = src ∧ (s.enterBoot src stage).pins.fireGate = false
      ∧ (s.enterBoot src stage).dev.stage = BitVec.ofNat 8 stage)
  ∧ (∀ (s a : State) (dt : Nat) (rtc : Option Nat), a = s.advance dt → exec (.pllLock dt rtc) s = .next (endStep dt s (
        if s.code ≠ 2 ∨ s.power.pllLocked = true then a
        else { a with
          power := { s.power with pllLocked := true, clkMon := true, pllTryAt := none }
          dev := { s.dev with coldStart := false }
          time := { a.time with running := true, units := if s.dev.coldStart = true then 0
                                else match rtc with | some n => s.power.resetTime + n * 156250000 * 1000000000 | none => 0 } })))
  ∧ (∀ (s a : State) (dt : Nat), a = s.advance dt → exec (.pllLockRetry dt) s = .next (endStep dt s (
        if s.code = 2 ∧ s.dev.stage = 2 ∧ s.power.pllLocked = false ∧ (∀ t, s.power.pllTryAt = some t → t + ms 10 ≤ s.now + dt)
        then { a with power := { s.power with pllRetry := s.power.pllRetry + 1, pllTryAt := some (s.now + dt) } } else a)))
  ∧ (∀ (s a u : State) (dt : Nat) (pll : Bool), a = s.advance dt → u = a.biasStandby.toReset 3 true false →
      exec (.clockLoss dt pll) s = .next (endStep dt s (
        if s.power.clkMon = false ∨ s.code = 0 ∨ s.code = 1 then a
        else { u with pins := { u.pins with faultN := false, fireGate := true }, power := { u.power with clkArg := some (b2n pll) } }))))

/-- BOOT carries out the stages from the one in progress through `till`, in order, as long as the device is in BOOT and the stage moves on. Stage 0x01 ends boot
in HOLD with 0x0425 where the identity's complement fails; without a lock of the PLLs boot stays at stage 0x02; at stage 0x03 a burst-queue SRAM that cannot
be repaired ends it; at stage 0x04, when both pairs fail their self-test, STAGE shows 0xFF and the mailbox is not ready, and without flash boot ends; the
provisioning follows at 0x05; at 0x06 the firmware slot is selected, or boot ends in HOLD with 0x0424, the ROM serving the mailbox; stage 0x07 needs DDR5
memory; at 0x09 boot ends with 0x0422 where no calibration store is valid, at 0x0A with 0x0423 where no configuration image is; stage 0x0B validates the
stored configuration and ends in HOLD with STAGE 0x0C (R525, R532, R536, R540 to R543). -/
def Obligations.BootRuns : Prop :=
  (∀ (s : State) (dt till : Nat) (r : BootReport), exec (.boot dt till r) s = .next (endStep dt s ((s.advance dt).bootRun r till 11)))
  ∧ (∀ (s u : State) (till n : Nat) (r : BootReport), u = s.bootStage r →
      s.bootRun r till (n + 1) = (if s.code = 2 ∧ s.dev.stage.toNat ≤ till then u.bootRun r till n else s)
      ∧ (u.code ≠ 2 ∨ till < u.dev.stage.toNat → u.bootRun r till n = u))
  ∧ (∀ (s t : State) (r : BootReport), s.dev.stage = 1 → t = { s with otp := { s.otp with badHash := bitsOf 12 r.badHash } } →
      s.bootStage r = (if s.identOk = false then ((t.bootPairs r).integrityFault 0).bootFails 0x01 0x0425 true else t.atStage 2))
  ∧ (∀ (s : State) (r : BootReport), s.dev.stage = 2 → s.bootStage r = (if s.power.pllLocked = true then s.atStage 3 else s))
  ∧ (∀ (s t : State) (r : BootReport), s.dev.stage = 3 → t = s.bist r →
      s.bootStage r = (if r.bqOk = true then t.atStage 4 else (t.bootPairs r).bootFails 0x03 0x0510 true))
  ∧ (∀ (s t : State) (r : BootReport), s.dev.stage = 4 → t = s.bootPairs r →
      s.bootStage r = (
        if ∀ p ∈ t.fw.pairs, p.avail = false then { t with dev := { t.dev with stage := 0xFF, mbxReady := false } }
        else if r.flash = false then t.bootFails 0x04 0x0512 true
        else ({ t with power := { t.power with
          flashSingle := !r.octal, provActed := false, fwFallback := false, cfgFallback := false, fuseBad := false } } : State).atStage 5))
  ∧ (∀ (s : State) (r : BootReport), s.dev.stage = 5 →
      s.bootStage r = ({ (s.provision r.fusesOk).1 with
        power := { (s.provision r.fusesOk).1.power with fuseBad := (s.provision r.fusesOk).2 } } : State).atStage 6)
  ∧ (∀ (s : State) (r : BootReport), s.dev.stage = 6 → s.bootStage r = s.bootSlot
      ∧ (if s.fwPick = none
        then ∀ p, s.storedPolicy = p → s.bootSlot = ({ s with dev := { s.dev with autoResume := p.1, timeSource := p.2 } } : State).bootFails 0x06 0x0424 true
        else s.bootSlot.fw.rom = false ∧ s.bootSlot.dev.stage = 7 ∧ s.bootSlot.dev.mbxReady = true))
  ∧ (∀ (s : State) (r : BootReport), s.dev.stage = 7 → s.bootStage r = (if r.ddr = true then s.atStage 8 else s.bootFails 0x07 0x0511 true))
  ∧ (∀ (s : State) (r : BootReport), s.dev.stage = 8 → s.bootStage r = (s.stage8 r s.power.fuseBad).atStage 9)
  ∧ (∀ (s t : State) (r : BootReport), s.dev.stage = 9 → t = (s.applyRepairLog r.badLog).loadCal →
      s.bootStage r = (if t.cal.sets.isEmpty = true then t.bootFails 0x09 0x0422 false else t.atStage 0x0A))
  ∧ (∀ (s : State) (r : BootReport), (s.dev.stage = 0x0A → s.bootStage r = s.bootImage) ∧ (s.dev.stage = 0x0B → s.bootStage r = s.bootConfig))

/-! The host link and its resets (10_host_interface). -/

/-- PERST_N low resets both functions, high moves the pin alone; an FLR resets its function, and PF0's may move a running device to HOLD; a link that
trains shows its speed and width and lets what waits go out; D3hot, Bus Master Enable and the losses of the link stop requests, and their ends resume them;
the loss of REFCLK_PCIE stops the link and not ranging (R31, R326, R332, R357, R358, R360). A batch of a ring goes out when its oldest record has waited
COALESCE; an open stream repeats its status record 100 ms after the last; the oldest alert record is delivered ahead; the sample of a selected counter's
overflow is written with its counter, source and program counter and raises vector 9; without one nothing happens (R322, R348, R349, R355). A reset of PF1
keeps what its rings held, the batch first, and the alerts still to be written to them (R359, R360). -/
def Obligations.HostLinkAndStreamTimersRun : Prop :=
  (∀ (s a : State) (dt fn : Nat), a = s.advance dt →
    exec (.perstN dt true) s = .next (endStep dt s { a with pins := { s.pins with perstN := true } })
    ∧ exec (.perstN dt false) s = .next (endStep dt s
        ((({ a with pins := { s.pins with perstN := false }, link := { s.link with up := false } } : State).resetPf0.resetPf1 true).holdOnReset))
    ∧ exec (.flrPf0 dt) s = .next (endStep dt s a.resetPf0.holdOnReset)
    ∧ exec (.flrPf1 dt) s = .next (endStep dt s (a.resetPf1 false))
    ∧ exec (.linkDown dt false) s = .next (endStep dt s { a with link := { s.link with up := false } })
    ∧ exec (.linkDown dt true) s = .next (endStep dt s ((({ a with link := { s.link with up := false } } : State).resetPf0.resetPf1 true).holdOnReset))
    ∧ exec (.refclkPcieLoss dt) s = .next (endStep dt s { a with pins := { s.pins with refPcie := false }, link := { s.link with up := false } })
    ∧ exec (.d3hotEntry dt fn) s = .next (endStep dt s (a.mapFn fn fun f => { f with d3 := true }))
    ∧ exec (.d0Return dt fn) s = .next (endStep dt s ((a.mapFn fn fun f => { f with d3 := false }).resumeFn fn))
    ∧ exec (.busMasterDisable dt fn false) s = .next (endStep dt s (a.mapFn fn fun f => { f with bme := false }))
    ∧ exec (.busMasterDisable dt fn true) s = .next (endStep dt s ((a.mapFn fn fun f => { f with bme := true }).resumeFn fn))
    ∧ ∀ gen width, exec (.linkTrained dt gen width) s = .next (endStep dt s (
        if s.pins.perstN = true ∧ gen ∈ [1, 2, 3, 4] ∧ width ∈ [1, 2, 4, 8]
        then ((({ a with link := { s.link with up := true, gen := gen, width := width }, pins := { s.pins with refPcie := true } } : State).judgeLink).resumeFn
          0).resumeFn 1
        else a)))
  ∧ (∀ (s : State) (sticky : Bool) (r : Nat) (q : StreamRing), (r, q) ∈ s.srings.cells →
      (r, q.afterReset (s.thresh.alertQ.filter q.takes)) ∈ (s.resetPf1 sticky).srings.cells
      ∧ ∀ l, (q.afterReset l).held = q.batch ++ q.held ∧ (q.afterReset l).heldAlerts = q.heldAlerts ++ l ∧ (q.afterReset l).en = false
        ∧ (q.afterReset l).opened = q.opened)
  ∧ ((∀ (s a : State) (dt r : Nat), a = s.advance dt → exec (.coalesceTimeout dt r) s = .next (endStep dt s (
        if (s.srings.get r).batch ≠ [] ∧ (s.srings.get r).batchSince + us (s.srings.get r).coalesce ≤ s.now + dt then a.flushRing r else a)))
  ∧ (∀ (s a : State) (dt : Nat), a = s.advance dt → exec (.statusHeartbeat dt) s = .next (endStep dt s (
        if s.stream.opened = true ∧ s.stream.lastStatus + ms 100 ≤ s.now + dt then a.status (32 + a.whyNow) else a)))
  ∧ (∀ (s : State) (dt : Nat), exec (.alertRecordDelivery dt) s = .next (endStep dt s (s.advance dt).deliverAlert))
  ∧ (∀ (s a t : State) (dt src pc : Nat), a = s.advance dt → t = (if a.priv.sampleUnread = 256 then a.mark keySampleOvf else a) →
      exec (.counterOverflowSample dt src pc) s = .next (endStep dt s (match a.priv.samplePend with
        | [] => a
        | c :: rest => ({ t with priv := { t.priv with
            samplePend := rest
            samples := a.priv.samples.set a.priv.sampleWr.toNat (le 2 c ++ le 2 src ++ le 4 (if src = 0xFFFF then 0 else pc) ++ le 8 a.deviceTime.toNat)
            sampleWr := a.priv.sampleWr + 1, sampleUnread := min 256 (a.priv.sampleUnread + 1)
            sampleOvf := a.priv.sampleOvf || decide (a.priv.sampleUnread = 256) } } : State).raise 0 9))))

/-! Cells, shots, the guard and the drive (02_shot_schedule, 03_emitter_drive_steering). -/

/-- ARM_EN falling gates every shot at once, cuts the pulses that are high, and ends the arming; a rise is noted, and counts as stable 1 ms later, but a low
of less than 5 ns may leave the arming as it stood: a free value (R27, R45, R89, R559, R571; log 7). The fast axis locks after 64 good half-periods in a row,
at a frequency and a level within their limits, and reason AXIS ends; a loss of lock under a condition of R120 ends the cells, starts a new acquisition and
posts 0x200C; an acquisition of 1 s starts over, and the third restart in a row posts FATAL 0x200D outside SAFE; SHOT_SYNC_IN is timestamped in units of
15.625 ps and trims the drive in mode 2, and its loss after 16 half-periods posts 0x2010; the slow axis posts 0x200E out of tolerance and recovers below half
of it (R115 to R117, R119 to R123, R125). The amount of a trim is a free value within R123's bound (log 7). -/
def Obligations.ArmAndAxisEventsRun : Prop :=
  ((∀ (s a : State) (dt : Nat), a = s.advance dt → exec (.armEnFall dt) s = .next (endStep dt s { a.cutPulses with
      pins := { s.pins with
        armFell := if s.pins.armEn = true then s.now + dt else s.pins.armFell
        armKept := if s.pins.armEn = true then some (s.pins.armOk, s.pins.armHighAt, s.pins.armStable) else s.pins.armKept
        armEn := false, armOk := false, armHighAt := none, armStable := false } }))
  ∧ (∀ (s a : State) (dt : Nat), a = s.advance dt → s.pins.armKept = none ∨ s.pins.armFell + ns 5 ≤ s.now + dt →
      exec (.armEnRise dt) s = .next (endStep dt s (if s.pins.armEn = true then a
        else { a with pins := { s.pins with armEn := true, armHighAt := some (s.now + dt), armStable := false } })))
  ∧ (∀ (s a : State) (dt : Nat) (k : Bool × Option Nat × Bool), a = s.advance dt → s.pins.armKept = some k → s.now + dt < s.pins.armFell + ns 5 →
      exec (.armEnRise dt) s = .next (endStep dt s (if s.pins.armEn = true then a.useFree
        else if freeNat s % 2 = 1 then
          { a.useFree with pins := { s.pins with armEn := true, armOk := k.1, armHighAt := k.2.1, armStable := k.2.2, armKept := none } }
        else { a.useFree with pins := { s.pins with armEn := true, armHighAt := some (s.now + dt), armStable := false } })))
  ∧ (∀ (s a : State) (dt : Nat), a = s.advance dt → exec (.armEnStable dt) s = .next (endStep dt s (
      match s.pins.armHighAt with
      | some h => if h + ms 1 ≤ s.now + dt then { a with pins := { s.pins with armStable := true } } else a
      | none => a))))
  ∧ (∀ (s a : State) (dt : Nat), s.holdUp = true → a = s.advance dt →
    (∀ (peak dac n : Nat) (halves : List HalfMeas),
      n = (halves.take ((s.now + dt - s.steer.halfAt) / halfTicks (a.fNom + a.fSpan))).foldl a.lockCount s.steer.lockRun →
      exec (.fastAxisLock dt peak dac halves) s = .next (endStep dt s (
        if s.steer.running = false ∨ s.steer.locked = true then a
        else if 64 ≤ n then ({ a with steer := { s.steer with
          locked := true, restarts := 0, lockRun := 0, halfAt := s.now + dt, driveFreq := a.driveIn peak, driveLevel := a.levelIn dac } } : State).dropReason 1
        else { a with steer := { s.steer with lockRun := n, halfAt := s.now + dt } })))
    ∧ (∀ f v, a.driveIn f * 1000 ≤ (a.fNom + a.fSpan : Nat) ∧ ((a.fNom - a.fSpan : Nat) : Rat) ≤ a.driveIn f * 1000 ∧ a.levelIn v ≤ s.pf 2 0x18 0 16)
    ∧ (∀ (m : AxisSense) (u : State), u = a.endCells → exec (.lossOfLock dt m) s = .next (endStep dt s (
        if s.steer.running = true ∧ s.steer.locked = true ∧ a.lossCond m ≠ 0
        then (({ u with steer := { u.steer with
          locked := false, acqStart := u.now, restarts := 0, firstAcq := true, lockRun := 0, halfAt := u.now } } : State).addReason 1).post 0x200C 0 0 [a.lossCond m]
        else a)))
    ∧ (∀ (n : Nat), n = (if s.steer.firstAcq = true then 0 else s.steer.restarts + 1) → exec (.acquisitionTimeout dt) s = .next (endStep dt s (
        if s.steer.running = true ∧ s.steer.locked = false ∧ s.steer.acqStart + sec 1 ≤ s.now + dt
        then (if n = 3 ∧ s.code ≠ 7 then (a.startAxis n false).post 0x200D 0 0 else a.startAxis n false) else a)))
    ∧ (∀ (e : Nat) (o : Int) (u : State), e = tdcStamp (s.now + dt) →
        o = (if 2 * ((e : Int) - s.seq.lastBoundary) ≤ s.halfPeriod then (e : Int) - s.seq.lastBoundary else (e : Int) - s.seq.lastBoundary - s.halfPeriod) →
        u = { a with steer := { s.steer with
          syncTime := a.timeAt e, syncOfs := o, syncCount := s.steer.syncCount + 1, syncLast := s.now + dt, syncLost := false } } →
        exec (.shotSyncEdge dt) s = .next (endStep dt s (
          if s.pf 2 0x30 0 2 = 0 then a else if s.pf 2 0x30 0 2 = 2 ∧ s.steer.running = true then u.trim else u)))
    ∧ exec (.shotSyncLost dt) s = .next (endStep dt s (
        if s.pf 2 0x30 0 2 = 2 ∧ s.steer.running = true ∧ s.steer.syncLost = false ∧ s.steer.syncLast + 16 * s.halfPeriod ≤ s.now + dt
        then ({ a with steer := { s.steer with syncLost := true } } : State).post 0x2010 0 0 [twos 32 (s.steer.syncOfs / 5120)] else a))
    ∧ (∀ err, exec (.slowAxisError dt err) s = .next (endStep dt s (
        if s.pf 2 0x18 16 16 < err ∧ s.steer.slowErr = false then ({ a with steer := { s.steer with slowErr := true } } : State).post 0x200E 0 0 [err]
        else if err * 2 < s.pf 2 0x18 16 16 then { a with steer := { s.steer with slowErr := false } } else a))))

/-- A Furrow boundary, with the fast axis locked, numbers the Furrow, takes what waits for a boundary, and makes cell 0 the next one; SYNC_OUT is high for
100 ns; with the encoder a wrong count at ENC_Z loses lock in its place; without a locked axis no Furrow is declared; with a command waiting and no boundary
for 1 ms it is taken at once (R116, R118 to R120, R374, R383). A cell is declared when one is next, the axis is locked and its phase is reached: it gets the
next running number (log 16), every string gets its run of shots, and the cell after it is next while the Furrow has one; the schedule's reload ends, and
posts 0x2004 where it fails (R45, R118, R512). -/
def Obligations.FurrowAndCellEventsRun : Prop :=
  ((∀ (s a b t u v : State) (dt enc : Nat) (dir : Bool), s.holdUp = true → a = s.advance dt → b = a.arbitrate false →
      t = (if b.seq.furrows = 0 then b else b.slowFurrow) →
      u = ({ t with seq := { t.seq with
        furrow := t.seq.furrows % 2 ^ 32, furrows := t.seq.furrows + 1, dir := dir, badInFurrow := 0, lastBoundary := engineEdge t.now } }
        : State).boundary.newSeeds.biasUpdate →
      v = { u with
        seq := { u.seq with fireFrom := true, nextCell := if u.steer.running && u.steer.locked then some 0 else none }
        pins := { u.pins with
          armOk := u.pins.armEn && u.pins.armStable, syncOutTill := if u.steer.running then u.now + ns 100 else u.pins.syncOutTill } } →
      exec (.furrowBoundary dt dir enc) s = .next (endStep dt s (
        if s.steer.running = false ∨ s.steer.locked = false then a
        else if a.zBad enc = true then a.loseLock 4
        else if u.steer.running = true then v.emit .syncOut 0 0 [] else v)))
  ∧ (∀ (s a : State) (dt : Nat), s.holdUp = true → a = s.advance dt → exec (.boundaryTakenAtOnce dt) s = .next (endStep dt s (
      if (s.waiting .applyFurrow ≠ none ∨ s.waiting .toState ≠ none ∨ s.waiting .swap ≠ none) ∧ a.seq.lastBoundary + ms 1 ≤ s.now + dt
      then a.boundary.biasUpdate else a))))
  ∧ ((∀ (s : State) (dt slow enc un bad seeds : Nat), s.holdUp = true → s.seq.nextCell = none →
      exec (.cellDeclaration dt slow enc un bad seeds) s = .next (endStep dt s (s.advance dt)))
  ∧ (∀ (s a t u v : State) (dt slow enc un bad seeds c : Nat), s.holdUp = true → s.seq.nextCell = some c → a = s.advance dt →
      t = (a.arbitrate false).applyAtCell.endCells.pruneRuns →
      u = { (t.slowSample c slow).1 with seq := { (t.slowSample c slow).1.seq with
        cellNo := t.seq.cellNo + 1, lastDecl := t.now, nextCell := if c + 1 < hCells t.sched then some (c + 1) else none } } →
      v = u.each (List.range 32) (fun i w => w.declareString i c (t.seq.cellNo + 1) (t.slowSample c slow).2 (bit bad i) (bit un i) (bit seeds i)) →
      exec (.cellDeclaration dt slow enc un bad seeds) s = .next (endStep dt s (
        if s.steer.running = true ∧ s.steer.locked = true ∧ c < hCells s.sched ∧ a.phaseDue c enc = true
        then (((v.each (List.range 32) fun i w => w.laterSheaf i).each (List.range 32) fun i w => w.capReq i).each
          (List.range 32) fun i w => w.calCellOf i).refBoundary
        else a)))
  ∧ (∀ (s a : State) (dt : Nat) (ok : Bool), s.holdUp = true → a = s.advance dt → exec (.schedReload dt ok) s = .next (endStep dt s (
      if a.seq.reloading = false then a
      else if ok = true then { a with seq := { a.seq with reloading := false } }
      else ({ a with seq := { a.seq with reloading := false } } : State).post 0x2004 0 0))))

/-- At its decision instant a shot meets the gates of R45 in order: the first that fails withholds it; a shot that passes gate 5 is charged and admitted
(R45, R46, R73, R75). The decision falls from 50 ns to 20 ns before the shot fires; one not decided then is withheld when its cell ends, by gate 3. -/
def Obligations.ShotGatesInOrder : Prop :=
  (∀ (s a : State) (dt i mv : Nat) (tbl : Bool), s.holdUp = true → a = s.advance dt → exec (.shotDecision dt i mv tbl) s = .next (endStep dt s (
      match a.nextShot i with
      | none => a
      | some (r, h) => if s.now + dt + ns 50 < h.tFire then a else a.judgeGates i r h mv tbl)))
  ∧ (∀ (s : State) (i : Nat) (r : CellRun) (h : Shot), s.nextShot i = some (r, h) →
      h ∈ r.shots ∧ h.st = .scheduled ∧ s.now + ns 20 ≤ h.tFire)
  ∧ (∀ (s t : State) (i mv : Nat) (tbl : Bool) (r : CellRun) (h : Shot), t = s.mapStr i (fun q => { q with lastTnom := some h.tNom }) →
      (r.bad = true ∨ (s.str i).seedBad = true → s.judgeGates i r h mv tbl = t.withhold i r.cellNo h.j 1)
      ∧ (r.bad = false → (s.str i).seedBad = false → gate2Fails (s.str i).lastTnom h.tNom = true →
          s.judgeGates i r h mv tbl = t.withhold i r.cellNo h.j 2)
      ∧ (r.bad = false → (s.str i).seedBad = false → gate2Fails (s.str i).lastTnom h.tNom = false → t.shotGate4 i r h = true →
          s.judgeGates i r h mv tbl = t.withhold i r.cellNo h.j 4)
      ∧ (∀ u : State, r.bad = false → (s.str i).seedBad = false → gate2Fails (s.str i).lastTnom h.tNom = false → t.shotGate4 i r h = false →
          tbl = false → pairOk (budgetAt t.sched i) = true →
          u = t.mapStr i (fun q => q.mapRun r.cellNo fun r => r.mapShot h.j fun h' => { h' with vMeas := mv, charge := t.charge i h.pw mv h.vres }) →
          ((u.gate5 i (t.charge i h.pw mv h.vres)).2 = false →
            s.judgeGates i r h mv tbl = (u.gate5 i (t.charge i h.pw mv h.vres)).1.withhold i r.cellNo h.j 5)
          ∧ ((u.gate5 i (t.charge i h.pw mv h.vres)).2 = true →
            s.judgeGates i r h mv tbl = ((u.gate5 i (t.charge i h.pw mv h.vres)).1.chargeShot i (t.charge i h.pw mv h.vres)).mapStr i
              fun q => q.mapRun r.cellNo fun r => r.mapShot h.j fun h' => { h' with st := .admitted })))
  ∧ (∀ l t : Nat, gate2Fails (some l) t = decide (2 * t < 2 * l + ns 625)) ∧ ∀ t : Nat, gate2Fails none t = false

/-- An admitted shot fires at its edge unless a pad gate stops it, and then it keeps its charge and counts as withheld; a fired shot is judged from 40 ns
after its edge, or counted as unjudged where the stage kept switching, which it never does for a proof shot (R27, R46, R90, R99 to R101, R571). -/
def Obligations.ShotEventsRun : Prop :=
  (∀ (s a : State) (dt i : Nat) (err : Int), s.holdUp = true → a = s.advance dt → exec (.shotFire dt i err) s = .next (endStep dt s (
      match s.admittedShot i with
      | none => a
      | some (r, h) =>
        if s.now + dt < ((h.tFire : Int) + err).toNat then a
        else if s.padGated i = true then
          (a.mapStr i fun q => q.mapRun r.cellNo fun r => r.mapShot h.j fun h => { h with st := .padStopped }).count (288 + i) 1
        else a.fireEdge i r h (((h.tFire : Int) + err).toNat / 80) err)))
  ∧ (∀ (s : State) (i : Nat), s.padGated i = false → s.pins.armEn = true ∧ s.pins.armOk = true ∧ s.pins.fireGate = false ∧ (s.str i).blocked = false)
  ∧ (∀ (s a u : State) (dt i drop q : Nat) (clip duty : Bool) (r : CellRun) (h : Shot), s.holdUp = true → a = s.advance dt →
      u = a.mapStr i (fun p => p.mapRun r.cellNo fun r => r.mapShot h.j fun x => { x with judged := true, unjudged := duty && !h.proof }) →
      s.unjudgedShot i = some (r, h) → exec (.shotJudgement dt i drop q clip duty) s = .next (endStep dt s (
        if s.now + dt < h.f * 80 + ns 40 then a
        else if duty = true ∧ h.proof = false then u.mapStr i fun p => { p with judg := updAt p.judg 4 (· + 1) }
        else u.judged i h (a.judge i r.use h drop q clip))))
  ∧ (∀ (s : State) (dt i drop q : Nat) (clip duty : Bool), s.holdUp = true → s.unjudgedShot i = none →
      exec (.shotJudgement dt i drop q clip duty) s = .next (endStep dt s (s.advance dt)))

/-- The drive's faults: 16 edges out of place in a row post 0x2006 and request a recalibration; the comparator notes the reservoir above 62 V, and 1 ms of it
faults the string with cause 4 and holds its gate; a reservoir 2.0 V below its setpoint with the inductor current at its limit for 10 ms posts 0x2007 once; a
stuck gate faults with cause 8; an aged string in service goes back to UNVERIFIED after 200 ms; 1,000 shots with fewer than 1 % reference events fault with
cause 5 (R93, R97, R98, R103 to R106, R157). A fault of a string: GATE_STUCK is posted as 0x2009 by hardware and takes over the cause; another fault of a
faulted string posts nothing; a first fault posts 0x2008 with its cause (R103, R104). -/
def Obligations.StringFaultsRun : Prop :=
  (∀ (s a : State) (dt i : Nat) (q : StrState), s.holdUp = true → a = s.advance dt → q = s.str i →
    (∀ v, exec (.fireSkew dt i v) s = .next (endStep dt s (
        if 16 ≤ q.skewRun then (a.mapStr i fun p => { p with skewRun := 0, recalReq := p.recalReq + 1 }).post 0x2006 1 i [v] else a)))
    ∧ (∀ high, exec (.resOvervoltComparator dt i high) s = .next (endStep dt s (a.mapStr i fun p =>
        { p with overV := high, overVSince := if high && !p.overV then s.now + dt else p.overVSince })))
    ∧ exec (.resOvervolt dt i) s = .next (endStep dt s (
        if q.overV = true ∧ q.overVSince + ms 1 ≤ s.now + dt ∧ ¬(q.mode = .faulted ∧ q.cause = 4)
        then (a.faultString i 4).mapStr i fun p => { p with gateHeld := true } else a))
    ∧ (∀ (mv since : Nat) (ilim : Bool) (u : State), since = q.regSince.getD (s.now + dt) → u = a.mapStr i (fun p => { p with regSince := some since }) →
        exec (.resRegulation dt i mv ilim) s = .next (endStep dt s (
          if ilim = false ∨ a.setpoint i * 20 ≤ mv + 2000 then a.mapStr i fun p => { p with regSince := none, regPosted := false }
          else if q.regPosted = false ∧ since + ms 10 ≤ s.now + dt
          then (u.mapStr i fun p => { p with regPosted := true }).post 0x2007 1 i [mv] else u)))
    ∧ exec (.gateStuck dt i) s = .next (endStep dt s (a.faultString i 8))
    ∧ exec (.stringUnverified dt i) s = .next (endStep dt s (
        if q.aged = true ∧ q.mode = .inService ∧ s.ranges = true ∧ ms 200 ≤ a.verAge i
        then (a.mapStr i fun p => { p with mode := .unverified, fromFault := false }).post 0x200A 1 i else a))
    ∧ (∀ u : State, u = a.mapStr i (fun p => { p with refShots := 0, refHits := 0 }) → exec (.noLight dt i) s = .next (endStep dt s (
        if a.refOn = true ∧ 1000 ≤ q.refShots then (if q.refHits * 100 < q.refShots then u.faultString i 5 else u) else a))))
  ∧ (∀ (s t : State) (i c : Nat), t = s.mapStr i (fun q => { q with
      mode := .faulted, cause := if (s.str i).mode == .faulted && c != 8 then (s.str i).cause else c, dlCount := 0
      gateHeld := (s.str i).gateHeld || c == 4 || c == 8 }) →
    (c = 8 → s.faultString i c = t.postHw 0x2009 1 i)
    ∧ (c ≠ 8 → (s.str i).mode = .faulted → s.faultString i c = t)
    ∧ (c ≠ 8 → (s.str i).mode ≠ .faulted → s.faultString i c = t.post 0x2008 1 i [c]))

/-- The emission budget guard: at a bucket's end every string's window starts a bucket, and at its release time a block ends; before that nothing changes
(R76 to R80). SATBUS is refreshed every 10 ms; a good echo ends the run of breaks, a bad one counts, and the third in a row posts 0x200B and faults the
strings of the satellites beyond the last good one (R113, R114). -/
def Obligations.GuardAndSatbusEventsRun : Prop :=
  ((∀ (s a u : State) (dt w : Nat), a = s.advance dt → u = a.each (List.range 32) (fun i t => t.mapStr i fun q =>
        { q with guard := updAt q.guard w fun g => { g with buckets := 0 :: g.buckets.take 16 } }) →
      exec (.guardBucketBoundary dt w) s = .next (endStep dt s (
        if a.bucketEnd w ≤ s.now + dt then { u with seq := { u.seq with guardIdx := updAt u.seq.guardIdx w (· + 1) } } else a)))
  ∧ (∀ (s a : State) (dt i w : Nat), a = s.advance dt → exec (.guardBlockEnd dt i w) s = .next (endStep dt s (
      match ((s.str i).guard.getD w {}).release with
      | some r => if r ≤ s.now + dt then a.mapStr i fun q => { q with guard := updAt q.guard w fun g => { g with release := none } } else a
      | none => a))))
  ∧ ((∀ (s a : State) (dt : Nat), s.holdUp = true → a = s.advance dt → exec (.satbusRefresh dt) s = .next (endStep dt s (
        if s.satbus.lastSent + ms 10 ≤ s.now + dt then a.satRefresh else a)))
  ∧ (∀ (s a u v : State) (dt lg : Nat) (ok : Bool), s.holdUp = true → a = s.advance dt →
      u = { a with satbus := { s.satbus with endAt := none, breaks := s.satbus.breaks + 1, breakRun := s.satbus.breakRun + 1 } } → v = u.post 0x200B 0 0 [lg] →
      exec (.satbusEchoCheck dt ok lg) s = .next (endStep dt s (
        match s.satbus.endAt with
        | none => a
        | some e =>
          if s.now + dt < e + ns 6250 then a
          else if ok = true then { a with satbus := { s.satbus with endAt := none, breakRun := 0 } }
          else if s.satbus.breakRun = 2 then
            v.each ((List.range 32).filter fun i => v.strMode i == 2 && (decide (v.satIdx i > lg) || decide (lg ≥ 16))) fun i w => w.faultString i 6
          else u))))

/-! Receiver, Thresher, channel-sheaves and Gleaner (04 to 07). -/

/-- A photon event on an enabled, live channel that has re-armed, whose TIA output crosses LT, sets the re-arm instant, counts for the ambient estimate, and,
unless the event queue is full, reaches CH_REF's measurement or the slice of every string that lights the channel; with the queue full it is dropped, counted,
and flags the open sheaf; an overload is noted and flags the sheaves that are not complete; a bias supply that is not good while enabled flags every sheaf and
posts 0x3002; an estimate is formed 100 ns after its counting span (R131, R134 to R148, R155, R156). -/
def Obligations.ReceiverEventsRun : Prop :=
  (∀ (s t u v : State) (c : ChanState) (dt ch q peak code codeB low n re : Nat) (ht full : Bool), s.holdUp = true → t = (s.advance dt).arbitrate false →
      c = t.ch ch → n = photons q (t.calPix ch (tQ1 ch)) → re = t.now + max (ns 2) low → full = decide (c.evqBusy ≥ t.now + 32 * 12800) →
      ht = (crosses (t.tiaOut ch peak) (t.htCode ch) && t.chBlk ch 0 3 1 == 1) →
      u = (if ch = 512 ∧ t.rx.refFrom ≠ none then { t with rx := { t.rx with refCount := t.rx.refCount + 1 } } else t) →
      v = u.mapCh ch (fun k => { k with
        rearmAt := re, sheaves := k.sheaves.map fun h => h.countEvent t.now n re
        evqBusy := if full = true then k.evqBusy else max k.evqBusy t.now + 12800, evtOvf := k.evtOvf + b2n full }) →
      exec (.photonEvent dt ch q peak code codeB low) s = .next (endStep dt s (
        if t.chEn ch = false ∨ t.deadCh ch = true ∨ t.now < c.rearmAt ∨ crosses (t.tiaOut ch peak) (t.ltCode ch) = false then t
        else if full = true then
          (if ch = 512 then v else match (v.ch ch).sheaves.reverse.find? fun h => h.ph == .accumulating with
            | some h => v.mapSheaf ch h.cellNo (·.flag 5)
            | none => v)
        else if ch = 512 then v.refEvent n ht (if c.onLaneB = true then codeB else code)
        else (v.lighting ch).foldl (fun w i => w.toCandidate ch n ht (if c.onLaneB = true then codeB else code) i) v)))
  ∧ (∀ (s a t : State) (dt c : Nat) (on : Bool), s.holdUp = true → a = s.advance dt → t = a.mapCh c (fun q => { q with overload := on }) →
      exec (.inputOverload dt c on) s = .next (endStep dt s (if on = true
        then t.mapCh c fun q => { q with sheaves := q.sheaves.map fun h => if h.ph == .ready then h else h.flag 4 } else t)))
  ∧ (∀ (s a : State) (dt : Nat) (level : Bool), s.holdUp = true → a = s.advance dt → exec (.detHvPg dt level) s = .next (endStep dt s (
      if level = true then { a with rx := { s.rx with hvBad := false } }
      else if s.pins.detHvEn = true ∧ s.rx.hvBad = false
      then (({ a with rx := { s.rx with hvBad := true } } : State).flagOpen (fun _ => true) 9).post 0x3002 0 0
      else a)))
  ∧ (∀ (s a : State) (dt c : Nat) (due : Sheaf → Bool), s.holdUp = true → a = s.advance dt →
      due = (fun h => h.lam.isNone && h.spanLen.any fun l => decide (s.now + dt ≥ h.spanStart + l + ns 100)) →
      exec (.ambientEstimate dt c) s = .next (endStep dt s (
        if c = 512 then a.refEstimate
        else a.mapCh c fun q =>
          ({ q with sheaves := q.sheaves.map fun h => if due h = true then { h with lam := some (estimate h.count (h.spanLen.getD 0)) } else h } : ChanState).estimates
            ((q.sheaves.filter due).map fun h => estimate h.count (h.spanLen.getD 0)))))

/-- The photon estimate is the highest m from 2 to 7 whose level (m - 0.5) x Q1 the charge exceeds, or 1 if it exceeds none; 7 means 7 or more (R135). -/
def Obligations.PhotonEstimateIsHighestLevel : Prop :=
  ∀ (q : Nat) (q1 : Int), 0 < q1 →
    (1 ≤ photons q q1 ∧ photons q q1 ≤ 7)
    ∧ (∀ m : Nat, 2 ≤ m → m ≤ photons q q1 → (2 * (m : Int) - 1) * q1 < 2 * (q : Int))
    ∧ (∀ m : Nat, 2 ≤ m → m ≤ 7 → photons q q1 < m → 2 * (q : Int) ≤ (2 * (m : Int) - 1) * q1)

/-- A hold-off ends at its instant; a slice takes the oldest candidate that may pass, one in an engine cycle, forms its pairs, and sends those with each sheaf
to its engines and alert store; a channel's engines take the oldest pairs, two in an engine cycle: each adds its weight to its coarse bin r div 4096, which
saturates at 65,535 and flags the sheaf, and the candidate enters the log of 768 entries while it has room; late ones are counted and flag their sheaf;
ALERT_N is released when no alert is outstanding and its minimum time has passed (R146, R165 to R171, R183, R188, R201, R203, R205, R206, R213). -/
def Obligations.ThresherEventsRun : Prop :=
  (∀ (s : State) (dt i : Nat), s.holdUp = true → exec (.holdoffEnd dt i) s = .next (endStep dt s { s.advance dt with
      thresh := { s.thresh with units := s.thresh.units.upd i fun u => if (u.endAt.any fun e => decide (s.now + dt ≥ e)) then { u with endAt := none } else u } }))
  ∧ (∀ (s a : State) (dt i : Nat), s.holdUp = true → a = s.advance dt → s.now + dt < (s.thresh.slices.get i).takeFrom ∨ a.oldestCand i = none →
      exec (.candidateArrival dt i) s = .next (endStep dt s a))
  ∧ (∀ (s a t : State) (dt i c : Nat) (d : Cand) (ps : List (Nat × Nat × Nat)), s.holdUp = true → a = s.advance dt →
      (s.thresh.slices.get i).takeFrom ≤ s.now + dt → a.oldestCand i = some (c, d) →
      t = a.mapCh c (fun q => { q with candq := eraseFirst (fun x => x.str == i) q.candq, candFrom := s.now + dt + ns 20 }) → ps = t.pairsOf d →
      exec (.candidateArrival dt i) s = .next (endStep dt s (((ps.map (·.1)).eraseDups).foldl (fun w n => w.joinPairs i c d ps n)
        ((({ t with thresh := { t.thresh with slices := t.thresh.slices.upd i fun k =>
          { k with cands := k.cands + 1, pairs := k.pairs + ps.length, takeFrom := s.now + dt + ns 1 } } } : State).count (128 + 2 * i) 1).count
            (129 + 2 * i) ps.length))))
  ∧ (∀ (s a : State) (dt c : Nat), s.holdUp = true → a = s.advance dt → s.now + dt < (s.ch c).engFrom ∨ (s.ch c).pairq = [] →
      exec (.pairDelivery dt c) s = .next (endStep dt s a))
  ∧ (∀ (s a t u : State) (dt c : Nat) (e : CandPair) (rest : List CandPair), s.holdUp = true → a = s.advance dt → (s.ch c).engFrom ≤ s.now + dt →
      (s.ch c).pairq = e :: rest → t = a.mapCh c (fun k => { k with pairq := rest, engFrom := s.now + dt + ns ((e.qr.length + 1) / 2) }) →
      u = (t.addCounts c e.qr.length).mapSheaf c e.cellNo (Sheaf.takePair e) →
      exec (.pairDelivery dt c) s = .next (endStep dt s (match t.sheafAt c e.cellNo with
        | none => t.mapCh c fun q => { q with latePair := q.latePair + e.qr.length }
        | some h =>
          if h.miss = true ∨ h.tLim < e.tEdge then t
          else if h.ph ≠ .accumulating then
            (t.mapCh c fun q => { q with latePair := q.latePair + e.qr.length }).mapSheaf c e.cellNo fun h => h.flagNow 15
          else if 768 ≤ h.logLen then u.mapCh c fun q => { q with logOvf := q.logOvf + 1 } else u)))
  ∧ (∀ (h : Sheaf) (e : CandPair) (q r : Nat), e.qr = [(q, r)] → h.logLen < 768 → h.takePair e =
      { h with bins := h.bins.set (r / 4096) (min 65535 (h.bins.get (r / 4096) + e.w)), sat := h.sat || decide (h.bins.get (r / 4096) + e.w > 65535)
               wTot := h.wTot + e.w, cands := h.cands + 1, log := e.ent :: h.log, logLen := h.logLen + 1 })
  ∧ (∀ (s a : State) (dt : Nat), s.holdUp = true → a = s.advance dt → exec (.alertPinRelease dt) s = .next (endStep dt s (match s.thresh.pinSince with
      | none => a
      | some p => if s.thresh.outstanding = [] ∧ p + s.thresh.pinMin ≤ s.now + dt
        then { a with thresh := { s.thresh with pinSince := none }, pins := { s.pins with alertN := true } } else a)))

/-- Channel-sheaves: outside ranging none opens; where no string lists the channel, or its cell is dark, a dark sheaf opens, a lit one after T_FIRST; at that
boundary a channel that has failed is dead instead. Processing starts when it is due and runs out after 32,768 ns; a dark sheaf's processing ends in a dark
record, a lit one in its own; records leave in the order in which sheaves closed, and the sheaf leaves its channel (R36, R62, R202, R204, R206, R214 to R217,
R231 to R236, R282, R284, R306, R314). -/
def Obligations.SheafEventsRun : Prop :=
  (∀ (s a : State) (dt c : Nat), s.holdUp = true → a = s.advance dt → exec (.sheafOpen dt c) s = .next (endStep dt s (
      if 512 ≤ c ∨ s.deadCh c = true ∨ s.ranges = false then a
      else match s.nextRun c with
        | none => a
        | some r0 => match s.listedBy c r0.cellNo with
          | none => a.sheafBoundary c (a.darkSheaf c r0 0 true 1)
          | some (i, pos) => match (s.str i).run r0.cellNo with
            | none => a
            | some r =>
              if r.kind ≠ 0 then a.sheafBoundary c (a.darkSheaf c r i false r.kind)
              else if s.now + dt < r.tCell + eTFirst r.entry * 128 then a
              else a.sheafBoundary c (a.litSheaf c r i pos))))
  ∧ (∀ (s : State) (c : Nat) (h : Sheaf), ((s.ch c).dying = 0 → s.sheafBoundary c h = s.openSheaf c h)
      ∧ ((s.ch c).dying ≠ 0 → s.sheafBoundary c h = s.killChannel c (s.ch c).dying))
  ∧ (∀ (s : State) (dt c : Nat), s.holdUp = true → (s.ch c).sheaves = [] →
      exec (.sheafProcessingStart dt c) s = .next (endStep dt s (s.advance dt)) ∧ exec (.sheafProcessingEnd dt c) s = .next (endStep dt s (s.advance dt))
      ∧ ∀ full, exec (.sheafRecordRelease dt c full) s = .next (endStep dt s (s.advance dt)))
  ∧ (∀ (s a t : State) (dt c : Nat) (h : Sheaf) (r : CellRun), s.holdUp = true → a = s.advance dt →
      (s.ch c).sheaves.find? (fun h => h.ph == .accumulating) = some h → r = ((s.str h.str).run h.cellNo).getD {} →
      t = a.mapCh c (fun q => { q with sheaves := q.sheaves.map fun x =>
        if x.ph == .processing && h.kind == 0 then { x with tStop := some (x.tStop.getD (s.now + dt)) } else x }) →
      exec (.sheafProcessingStart dt c) s = .next (endStep dt s (
        if (h.kind = 0 ∧ s.now + dt < h.tProcAt) ∨ (h.kind ≠ 0 ∧ h.lam = none) then a
        else if h.kind ≠ 0 then t.mapSheaf c h.cellNo fun _ => { h with ph := .processing, tProc := s.now + dt, slot := none }
        else t.mapSheaf c h.cellNo fun _ => { h with
          ph := .processing, tProc := s.now + dt, slot := none, fired := r.firedN, gates := r.gates
          shotF := (r.inSt .fired).map (fun x => (x.j, x.f)), flags := h.flags ||| BitVec.ofNat 32 (b2n r.outReg * 4) })))
  ∧ (∀ (s : State) (dt c : Nat), s.holdUp = true → exec (.processingTimeOut dt c) s = .next (endStep dt s ((s.advance dt).mapCh c fun q =>
      { q with sheaves := q.sheaves.map fun h =>
        if h.ph == .processing && h.kind == 0 && h.tStop.isNone && decide (s.now + dt ≥ h.tProc + ns 32768) then { h with tStop := some (s.now + dt) } else h })))
  ∧ (∀ (s a : State) (dt c : Nat) (h : Sheaf), s.holdUp = true → a = s.advance dt → (s.ch c).sheaves.find? (fun h => h.ph == .processing) = some h →
      exec (.sheafProcessingEnd dt c) s = .next (endStep dt s (
        if h.kind = 0 then (a.count (cntGroup (c / 128) 0) (2 * a.coreCycles h.tProc (h.tStop.getD (s.now + dt)))).closeNormal c h
        else a.mapSheaf c h.cellNo fun x =>
          { x with ph := .ready, record := if h.kind = 2 then a.staleRecord c h else a.darkRecord c h, closedAt := s.now + dt })))
  ∧ (∀ (s a t : State) (dt c : Nat) (full : Bool) (h : Sheaf) (rest : List Sheaf), s.holdUp = true → a = s.advance dt → (s.ch c).sheaves = h :: rest →
      t = (a.mapCh c fun q => { q with sheaves := rest }).release h.record →
      exec (.sheafRecordRelease dt c full) s = .next (endStep dt s (
        if h.releasable (s.now + dt) = false ∨ a.releaseTurn c h = false then a
        else (if full = true then { t with silo := { t.silo with dumpDrop := t.silo.dumpDrop + h.dumps.length } }
          else h.dumps.foldl (fun u d => u.release d) t).releasedSheaf c h)))

/-- Gleaner, in the state in which the requests of the engine cycles before have been taken (R254): without an open window none closes, and a capture's window
closes at its last sample; a closed capture's readout, no sooner than the buffer allows, releases its waveform record, counts it and starts the next; gain
steps down on saturation and up within its bounds, at once or when no window is open; rotations, swaps and gaps follow CAL_ROT_US: a swap needs 64 samples
without a window and 256 of shadowing, puts the spare into service where the two slices agree, and a failed slice's position is taken at once; a converter
leaves START after a calibration of each of its five slices, and RECOVERY when it is done (R237 to R243, R246 to R248, R255, R256). -/
def Obligations.GleanerEventsRun : Prop :=
  (∀ (s t : State) (dt a : Nat) (low : Bool) (g : GwState), s.holdUp = true → t = (s.advance dt).arbitrate false → g = t.gw.get a →
      exec (.captureWindowClose dt a low) s = .next (endStep dt s (match (g.running.toList ++ g.waiting).find? fun c => !c.closed with
        | none => t
        | some c => match t.place a c with
          | none => t
          | some (n, _, _) => if t.now < c.last n * 3200 then t else t.mapGw a fun g => (g.closeWindow c).noneOpen t.now (t.sampleNow + 1) low)))
  ∧ (∀ (s t : State) (dt a : Nat) (smp : List SampleIn), s.holdUp = true → t = (s.advance dt).arbitrate false → (t.gw.get a).running = none →
      exec (.captureReadoutDone dt a smp) s = .next (endStep dt s t))
  ∧ (∀ (s t u : State) (dt a n frac method : Nat) (smp : List SampleIn) (c : Capture), s.holdUp = true → t = (s.advance dt).arbitrate false →
      (t.gw.get a).running = some c → t.place a c = some (n, frac, method) →
      u = t.mapGw a (fun g => { g with
        running := none, captures := g.captures + 1, fallback := g.fallback + b2n (method == 1), unmeasured := g.unmeasured + b2n (method == 2) }) →
      exec (.captureReadoutDone dt a smp) s = .next (endStep dt s (
        if c.closed = true ∧ t.readEnd a [c] c.runAt ≤ t.now
        then (((({ u with silo := { u.silo with waveQ := u.silo.waveQ - c.bytes } } : State).count (192 + 2 * a) 1).count (193 + 2 * a) c.window).release
          (t.waveform a c n frac method smp)).nextCapture a
        else t)))
  ∧ (∀ (s t : State) (dt a : Nat), s.holdUp = true → t = (s.advance dt).arbitrate false →
      exec (.gainSaturationSwitch dt a) s = .next (endStep dt s (t.mapGw a fun g =>
        if g.mode = .off ∨ g.mode = .dead ∨ g.gainMode ≠ 0 ∨ g.gain = 0 then g
        else { g.setGain (t.sampleNow + 1) (g.gain - 1) (if g.openCaps = 0 then .gain else .sat) with pendUp := false }))
      ∧ exec (.gainRangeStep dt a 0) s = .next (endStep dt s (t.mapGw a fun g =>
        if g.mode = .off ∨ g.mode = .dead ∨ g.gainMode ≠ 0 then g else { g with pendUp := g.pendUp || decide (g.gain > 0) }))
      ∧ exec (.gainRangeStep dt a 1) s = .next (endStep dt s (t.mapGw a fun g =>
        if g.mode = .off ∨ g.mode = .dead ∨ g.gainMode ≠ 0 ∨ g.openCaps ≠ 0 ∨ g.pendUp = false then g
        else { g.setGain (t.sampleNow + 1) (g.gain - 1) .gain with pendUp := false }))
      ∧ exec (.gainRangeStep dt a 2) s = .next (endStep dt s (t.mapGw a fun g =>
        if g.mode = .off ∨ g.mode = .dead ∨ g.gainMode ≠ 0 ∨ 2 ≤ g.gain then g
        else if g.openCaps = 0 then g.setGain (t.sampleNow + 1) (g.gain + 1) .gain else { g with pendDown := true })))
  ∧ (∀ (s t : State) (dt a : Nat) (meas : List Int) (g : GwState), s.holdUp = true → t = (s.advance dt).arbitrate false → g = t.gw.get a →
      exec (.sliceRotation dt a meas) s = .next (endStep dt s (match g.spare with
        | none => t
        | some sp =>
          if g.on = false ∨ t.now < g.rotAt + us t.calrot then t
          else (if g.calPend = true then t.sliceCal a sp (meas.getD 0 0) (meas.getD 1 65536) else t).mapGw a fun g => { g with
            rotAt := t.now, calPend := false, dueSince := if g.dueSince.isSome || g.spare.isNone then g.dueSince else some t.now }))
      ∧ ∀ u : State, u = t.mapGw a (fun g => { g with dueSince := none, calgap := false, nextPos := (g.nextPos + 1) % 4 }) →
      exec (.sliceSwap dt a meas) s = .next (endStep dt s (
        if g.on = false ∨ g.openCaps ≠ 0 ∨ t.now < g.closedAt + 64 * 3200 then t
        else match g.spare, g.mustRepl, g.dueSince with
          | none, _, _ => t
          | some sp, some p, _ => t.replaceSlice a p sp (t.sampleNow - 63)
          | some _, none, none => t
          | some sp, none, some d =>
            if t.now < d + 1024 * 3200 then t
            else if 32 < meas.getD 0 0 then u.swapAborts a sp (g.pos.getD g.nextPos 0) ((sp, g.pos.getD g.nextPos 0) :: g.agreeFails)
            else u.swapIn a sp (g.pos.getD g.nextPos 0) (t.sampleNow - 63) (meas.getD 1 0))))
  ∧ (∀ (s t : State) (dt a pos : Nat), s.holdUp = true → t = (s.advance dt).arbitrate false →
      exec (.sliceMeanCheck dt a pos false) s = .next (endStep dt s t)
      ∧ exec (.sliceMeanCheck dt a pos true) s = .next (endStep dt s (t.sliceFails a pos))
      ∧ exec (.calgap dt a) s = .next (endStep dt s (match (t.gw.get a).dueSince with
        | some d => if d + ms 100 ≤ t.now then t.mapGw a fun g => { g with calgap := true } else t
        | none => t))
      ∧ exec (.gleanerStartComplete dt a) s = .next (endStep dt s (
        if (t.gw.get a).mode = .start ∧ (t.gw.get a).allCal = true then t.mapGw a fun g => g.setMode (t.sampleNow + 1) .normal else t))
      ∧ exec (.recoveryComplete dt a) s = .next (endStep dt s (
        if (t.gw.get a).mode = .recovery then t.mapGw a fun g => g.setMode (t.sampleNow + 1) .normal else t)))

/-! Range engines and repair (08), calibration and ageing (15), errors, ranging and handover (11, 15, 17). -/

/-- Engine events: an uncorrectable error or a trap counts on its engine; on a shadowed sheaf the gate releases the spare's output, else the sheaf is flagged
and the cause raised; one in a spare fails the spare; sixteen corrected errors within 1 s raise a cause; a spare that fails its self-test leaves, one that
passes shadows or audits; the compare gate acts on a shadowed sheaf alone, and sends a mismatch or a silent engine to the spare's favour, a silent spare out;
an offline test returns the engine to IDLE or retires it; a group starts an audit every 1 ms while ranging, with at least two spares idle (R271 to R284). -/
def Obligations.EngineEventsRun : Prop :=
  (∀ (s a b : State) (dt p : Nat), s.holdUp = true → a = s.advance dt → b = a.count (cntGroup (p / 256) 4) 1 →
      exec (.engineUe dt p false) s = .next (endStep dt s ((b.engCount (b.holder p) 1 1).engineFails p 1))
      ∧ exec (.engineUe dt p true) s = .next (endStep dt s (match b.runAt p with | some r => (b.engCount r.spare 1 1).spareFails p 1 | none => b))
      ∧ exec (.engineTrap dt p) s = .next (endStep dt s ((a.engCount (a.holder p) 2 1).engineFails p 2)))
  ∧ (∀ (s : State) (p c : Nat), (s.runAt p = none → s.engineFails p c = (s.engineError (p / 2)).raiseCause p c)
      ∧ ∀ r, s.runAt p = some r → s.engineFails p c = (if (s.ch (p / 2)).sheaves.any (fun h => h.openLit && r.shadows h) = true
          then s.gateSpare p c else (s.engineError (p / 2)).raiseCause p c))
  ∧ (∀ (s a : State) (dt p : Nat) (inSpare : Bool), s.holdUp = true → a = s.advance dt → exec (.lsCe dt p inSpare) s = .next (endStep dt s (
      match a.engineOf p inSpare with
      | none => a
      | some e =>
        let u := ((a.count (cntGroup (p / 256) 3) 1).engCount e 0 1).mapEngine e fun x => x.corrected (s.now + dt)
        if inSpare = true ∨ (u.eng e).ceAt.length < 16 then u else (u.mapEngine e fun x => { x with ceAt := [] }).raiseCause p 4)))
  ∧ (∀ (s a u : State) (dt p held : Nat), s.holdUp = true → a = s.advance dt → u = a.count (cntGroup (p / 256) 2) held →
      exec (.compareGate dt p false held) s = .next (endStep dt s (if a.gated p = true then u else a))
      ∧ exec (.compareGate dt p true held) s = .next (endStep dt s (if a.gated p = true then u.gateSpare p else a)))
  ∧ (∀ (s a u : State) (dt p : Nat), s.holdUp = true → a = s.advance dt → u = a.count (cntGroup (p / 256) 2) 64 →
      exec (.gateTimeout dt p true) s = .next (endStep dt s (if a.gated p = true then (u.engCount (u.holder p) 6 1).gateSpare p else a))
      ∧ exec (.gateTimeout dt p false) s = .next (endStep dt s (match a.runAt p with
        | some r => if a.gated p = true then (u.engCount r.spare 6 1).spareFails p 2 else a
        | none => a)))
  ∧ (∀ (s a : State) (dt p : Nat) (ok : Bool), s.holdUp = true → a = s.advance dt → exec (.spareSelfTestDone dt p ok) s = .next (endStep dt s (
      match a.runAt p with
      | none => a
      | some r =>
        let u := (a.mapRun p fun r => { r with testOk := some (s.now + dt) }).mapEngine r.spare fun x => { x with st := if r.audit then .audit else .shadow }
        if r.testOk ≠ none then a
        else if ok = false then a.spareFails p 2
        else if r.audit = true then u else (u.engCount r.spare 3 1).count (cntGroup (p / 256) 5) 1)))
  ∧ (∀ (s a : State) (dt e : Nat) (ok : Bool), s.holdUp = true → a = s.advance dt → exec (.offlineTestDone dt e ok) s = .next (endStep dt s (
      if (s.eng e).st = .testing ∧ (∀ r ∈ s.repair.runs, r.spare ≠ e) ∧ (s.eng e).testEnd ≤ s.now + dt
      then (if ok = true then ((a.mapEngine e fun x => { x with st := .idle }).logRepair 1 (s.eng e).cause e (a.substOf e) true).assignSpares
        else a.mapEngine e fun x => { x with st := .retired })
      else a)))
  ∧ (∀ (s a u : State) (dt g : Nat), a = s.advance dt →
      u = { a with repair := { s.repair with lastAudit := updAt s.repair.lastAudit g fun _ => s.now + dt } } →
      exec (.auditStart dt g) s = .next (endStep dt s (
        if s.ranges = false ∨ s.now + dt < s.repair.lastAudit.getD g 0 + ms 1 then a
        else if ∃ r ∈ s.repair.runs, r.audit = true ∧ r.pos / 256 = g then u
        else match u.idleSpares g, u.nextActive g (s.repair.nextAudit.getD g 0) with
          | e :: _ :: _, some p =>
            let v := u.startRun p e true
            { v with repair := { v.repair with nextAudit := updAt v.repair.nextAudit g fun _ => 256 * g + (p + 1 - 256 * g) % 256 } }
          | _, _ => u)))

/-- Banks and the repair log: a bank that meets a condition asks for a spare, its words in error taken as 0; the copier starts where none runs, else the bank
waits, and where no spare bank is left nothing happens; at the copy's end the bank is retired, the spare serves, BANK_REPAIRED is posted and logged, and the
next bank that waits is copied; the queued entries go to the log; a failed input of an enabled channel fails the channel from its next sheaf boundary on
(R284, R287 to R289, R292, R293). -/
def Obligations.RepairEventsRun : Prop :=
  (∀ (s a : State) (dt b cause : Nat) (hit : List Nat), s.holdUp = true → a = s.advance dt →
      exec (.bankSubst dt b cause hit) s = .next (endStep dt s ((if cause = 1 then a.histError b hit else a).askBank b cause)))
  ∧ (∀ (s : State) (b cause : Nat) (r : Repair), r = s.repair →
      (b ∈ r.banks ∨ r.spareBanks ≤ r.bankQ.length + b2n r.bankCopy.isSome → s.askBank b cause = s)
      ∧ (b ∉ r.banks → r.bankCopy = none → r.bankQ = [] → r.spareBanks ≠ 0 →
        s.askBank b cause = { s with repair := { r with bankCopy := some (b, s.now), bankCause := cause } })
      ∧ (∀ x, b ∉ r.banks → r.bankCopy = some x → x.1 ≠ b → (∀ y ∈ r.bankQ, y.1 ≠ b) → r.bankQ.length + 1 < r.spareBanks →
        s.askBank b cause = { s with repair := { r with bankQ := r.bankQ ++ [(b, cause)] } }))
  ∧ (∀ (s a : State) (dt : Nat) (hit : List Nat), s.holdUp = true → a = s.advance dt → exec (.bankCopyDone dt hit) s = .next (endStep dt s (
      match s.repair.bankCopy with
      | none => a
      | some (b, _) =>
        let u := a.histError b hit
        let v := ({ u with repair := { u.repair with bankCopy := none } } : State).retireBank b (if u.repair.bankCause = 1 then 1 else 3)
        match v.repair.bankQ with
        | [] => v
        | x :: rest => { v with repair := { v.repair with bankQ := rest, bankCopy := some (x.1, v.now), bankCause := x.2 } })))
  ∧ (∀ (s t : State) (b cause : Nat), t = ((({ s with repair := { s.repair with banks := s.repair.banks ++ [b], spareBanks := s.repair.spareBanks - 1 } }
        : State).post 0x4003 13 b [4 - s.repair.spareBanks]).logRepair 4 cause b (4 - s.repair.spareBanks)) →
      s.retireBank b cause = (if t.repair.spareBanks = 0 then t.spareZero 4 0 else t))
  ∧ (∀ (s : State) (dt : Nat), s.holdUp = true → exec (.repairLogWrite dt) s = .next (endStep dt s
      (s.repair.logQ.foldl (fun u e => u.writeLog e) { s.advance dt with repair := { s.repair with logQ := [] } })))
  ∧ (∀ (s a : State) (dt c : Nat), s.holdUp = true → a = s.advance dt → exec (.channelInputFail dt c) s = .next (endStep dt s (
      if s.pf 3 (0x100 + 16 * c) 2 1 = 1 then a.channelFails c 1 else a)))

/-- Calibration in the background: outside ARMED to DEGRADED nothing is scheduled; every 600 s every stripe is, and between a stripe whose group moved by 5
degrees; a pass that is not in progress ends nothing, one that is has its coefficients checked and its results judged, notes its stripe, ends its group's
dark-count turn, and posts CAL_DONE; a store write happens when one is due; re-planning and the eye margins have their period of 600 s (R500 to R512). -/
def Obligations.CalibrationEventsRun : Prop :=
  (∀ (s a : State) (dt : Nat), s.holdUp = true → a = s.advance dt →
      exec (.calibrationSchedule dt) s = .next (endStep dt s (
        if s.armedUp = false then a
        else if s.cal.schedAt + sec 600 ≤ s.now + dt then
          { a.addStripes (List.range 32) with cal := { (a.addStripes (List.range 32)).cal with schedAt := s.now + dt } }
        else a.addStripes ((List.range 32).filter fun i =>
          (Tab.find i s.cal.lastPass.cells).isSome && decide (160 ≤ (s.stripeTemp i - s.cal.lastTemp.get i).natAbs)))))
  ∧ (∀ (s a u v w : State) (dt stripe pass : Nat) (meas : List CalMeas), s.holdUp = true → a = s.advance dt →
      u = (if pass = 3 then a else meas.foldl (fun x m => x.checkCal (calObject pass m.obj).1 (calObject pass m.obj).2) a) →
      v = u.calResults pass (meas.filter fun m => u.calReaches pass m) →
      w = { v with cal := { v.cal with
          passes := v.cal.passes.filter fun (p : CalPass) => p.pass != pass || p.stripe != stripe
          lastPass := v.cal.lastPass.set stripe v.now, lastTemp := v.cal.lastTemp.set stripe (v.stripeTemp stripe) } } →
      exec (.calibrationPassEnd dt stripe pass meas) s = .next (endStep dt s (
        if pass = 7 ∨ (pass = 4 ∨ pass = 6) ∧ s.ranges = true
            ∨ pass ∉ [4, 6, 7] ∧ s.armedUp = true ∧ ∃ p ∈ s.cal.passes, p.pass = pass ∧ p.stripe = stripe ∧ p.inProg = true
        then (if pass = 3 then w.darkEnds (groupOf (16 * stripe)) else w).post 0x3007 0 0 [pass, stripe]
        else a)))
  ∧ (∀ (s a : State) (dt : Nat) (ok : Bool), s.holdUp = true → a = s.advance dt → exec (.calStoreWrite dt ok) s = .next (endStep dt s (
      if s.cal.loadDue ≠ none ∨ s.cal.dirty = true ∧ s.cal.storeAt + sec 3600 ≤ s.now + dt then a.storeCal ok else a)))
  ∧ (∀ (s a u : State) (dt : Nat) (m : List (List Int)), s.holdUp = true → a = s.advance dt →
      u = { a with cal := { a.cal with replanT := a.cal.replanT - sec 600 } } →
      exec (.replan dt m) s = .next (endStep dt s (
        if a.cal.replanT < sec 600 ∨ s.handover ≠ none ∨ s.armedUp = false then a
        else ((((((u.replan0 (given m 0)).replan1 (given m 1)).replan2).replan3
          ((given m 0).any fun x => decide (x.1 ≥ 1088) && decide (x.2 < 1000))).replan4).replan6).replan7)))
  ∧ (∀ (s a : State) (dt : Nat), s.holdUp = true → a = s.advance dt →
      (∀ h : List Nat, s.now + dt < s.cal.eyeAt + sec 600 → exec (.eyeMarginRead dt h) s = .next (endStep dt s a))
      ∧ (s.cal.eyeAt + sec 600 ≤ s.now + dt → exec (.eyeMarginRead dt []) s = .next (endStep dt s
          (({ a with cal := { a.cal with eyeAt := s.now + dt } } : State).monitorDone 5 [])))
      ∧ (∀ (x : Nat) (u v : State), s.cal.eyeAt + sec 600 ≤ s.now + dt →
          u = { a with cal := { a.cal with eyeAt := s.now + dt, serdesBase := if (Tab.find 0 s.cal.serdesBase.cells).isSome then s.cal.serdesBase
                  else s.cal.serdesBase.set 0 x } } →
          v = u.useFree.mapLane 0 (fun q => { q with adapt := freeNat u }) →
          exec (.eyeMarginRead dt [x]) s = .next (endStep dt s (v.monitorDone 5 [{
            obj := 0, v := x, margin := (x : Int) - 6, action := if freeNat u = (u.lane 0).adapt then 1 else 2
            old := (u.lane 0).adapt, new := freeNat u, figure := if x < 6 then 5 else 0 }]))))

/-- Errors: a posted error is written as its severity says; the firmware takes up the record in hand, and with none in hand the next; a FATAL in SAFE with
the stream open takes the firmware path (R389, R513 to R516). A change of device state keeps the state word and its complement together (R319). Ranging and
recovery: RANGING is entered when it is wanted and its conditions hold, and waits otherwise; 1 s later the wait fails with the status of the condition that
is missing; automatic recovery is for SAFE with AUTO_RESUME, 100 ms after its entry and with the stream closed: HOLD, the active set judged again and applied,
ARMED, and a request for RANGING (R375 to R377). -/
def Obligations.ErrorAndRangingEventsRun : Prop :=
  (∀ (s : State) (dt code kind obj : Nat) (args : List Nat),
      exec (.errorPost dt code kind obj args) s = .next (endStep dt s ((s.advance dt).post code kind obj args)))
  ∧ (∀ (s a : State) (dt : Nat), s.holdUp = true → a = s.advance dt → exec (.errorHandling dt) s = .next (endStep dt s (
      if s.fw.reloadSubs = true then a
      else match s.err.handling with
        | [] => { a with err := a.err.takeUp }
        | h :: rest =>
          if h.sev = 3 ∧ s.code = 7 ∧ s.stream.opened = true then (if s.stream.closing = some 1 then a else a.firmwarePath)
          else { a with err := ({ a.err with handling := rest } : Err).takeUp })))
  ∧ (∀ (s : State) (dt p : Nat), s.holdUp = true → exec (.lockstep dt p) s = .next (endStep dt s ((s.advance dt).postHw 0x1005 9 p)))
  ∧ (∀ (s : State) (c cause : Nat), c < 16 → StateWordOk (s.goto c cause) ∧ (s.goto c cause).code = c)
  ∧ (∀ (s a : State) (dt : Nat), s.holdUp = true → a = s.advance dt →
      exec (.rangingEntry dt) s = .next (endStep dt s (if a.wantsRanging = true ∧ a.mayRange = true then a.enterRanging else a)))
  ∧ (∀ (s a u : State) (dt st : Nat), s.holdUp = true → a = s.advance dt →
      st = (if s.steer.locked = false then 0x0210 else if a.biasReady = false then 0x0211 else 0x0216) →
      u = (match s.waiting .ranging with
        | some e => if e.since + sec 1 ≤ s.now + dt then a.finish e.sub (reply st) else a
        | none => a) →
      exec (.rangingWaitTimeout dt) s = .next (endStep dt s (
        if a.mayRange = true then a
        else match u.dev.autoRanging with
          | some b => if b + sec 1 ≤ u.now then ({ u with dev := { u.dev with autoRanging := none } } : State).post 0x1007 0 0 [st] else u
          | none => u)))
  ∧ (∀ (s a t v w : State) (dt : Nat) (j : Judgement), s.holdUp = true → a = s.advance dt →
      t = ({ a with dev := { s.dev with autoPend := false } } : State).enterHold 0 →
      j = ({ t with cfg := { t.cfg with staged := t.cfg.active } } : State).judgeSet (t.link.gen != 0) →
      v = { t with dev := { t.dev with safeLatch := false }, link := { t.link with validatedRate := j.rate } } →
      w = v.applyBudget.boundaryTail.enterArmed →
      exec (.autoRecovery dt) s = .next (endStep dt s (
        if s.code ≠ 7 ∨ s.dev.autoResume = false ∨ s.dev.autoPend = false ∨ s.dev.safeNoAuto = true ∨ s.now + dt < s.dev.safeAt + ms 100 ∨ s.stream.opened = true
        then a
        else if t.dev.applied = false then t
        else if j.status ≠ 0 then { t with dev := { t.dev with code := BitVec.ofNat 16 j.status } }
        else { w with dev := { w.dev with autoRanging := some w.now } })))

/-- A posted error while the ring has room takes the slot at ERR_WR, the next sequence number, and moves ERR_WR on by one; what the ring held elsewhere
stays (R389, R518). -/
def Obligations.PostTakesNextSlot : Prop :=
  ∀ (s : State) (code kind obj : Nat) (args : List Nat), s.err.wr + 1 ≠ s.err.rd →
    (s.post code kind obj args).err.wr = s.err.wr + 1
    ∧ (s.post code kind obj args).err.rd = s.err.rd
    ∧ (s.post code kind obj args).err.nextSeq = s.err.nextSeq + 1
    ∧ (s.post code kind obj args).err.lastSev = sevOf code
    ∧ (∀ i, i ≠ s.err.wr.toNat → (s.post code kind obj args).err.slots.get i = s.err.slots.get i)
    ∧ num ((s.post code kind obj args).err.slots.get s.err.wr.toNat) 0 2 = code % 65536

/-- Firmware pairs: a handover's drain ends at its deadline or when only armed APPLYs are left: commands that have not committed, and Baler jobs that have
written nothing, are abandoned, the other jobs end with what they wrote, and the swap is next; a standby that fails its test fails the handover; a standby
becomes ready, and a reload ends, the active pair then owing RESUBMIT completions; without a handover or a reload these events do nothing. The session closes
after 900 s without use, a nonce ends after 60 s, and so does the lockout (R385 to R387, R392 to R397, R467). -/
def Obligations.HandoverAndSessionTimersRun : Prop :=
  (∀ (s a v w : State) (dt : Nat) (e : InFlight) (lost : InFlight → Bool), s.holdUp = true → a = s.advance dt →
      lost = (fun x => x.sub != e.sub && x.done.isNone && !x.hasCommitted && !(s.jobWrote x)) →
      v = ({ a with
        fw := { s.fw with abandoned := s.fw.abandoned + (s.cmds.inflight.filter lost).length }
        cmds := { s.cmds with inflight := s.cmds.inflight.map fun x => if lost x = true then { x with abandoned := true, wait := .none } else x }
        } : State).mapCmd e.sub (fun x => { x with wait := .swap, since := s.now + dt }) →
      w = (v.cmds.inflight.filter fun x => x.wait == .baler && x.done.isNone).foldl (fun t x => t.stopJob x.sub) v →
      (s.waiting .drain = none → exec (.handoverDrainEnd dt) s = .next (endStep dt s a))
      ∧ (s.waiting .drain = some e → exec (.handoverDrainEnd dt) s = .next (endStep dt s (
          if s.now + dt < e.arg ∧ s.drainLeft e.sub = true then a else { w with baler := { w.baler with running := [] } }))))
  ∧ (∀ (s u v : State) (dt : Nat) (e : InFlight), s.holdUp = true → u = (s.advance dt).resubmit →
      v = (({ u with fw := { u.fw with outcome := 2, abandoned := 0 } } : State).finish e.sub (reply 0x0520)).raise 0 8 →
      (s.handover = none → exec (.standbySelfTestFail dt) s = .next (endStep dt s (s.advance dt)))
      ∧ (s.handover = some e → exec (.standbySelfTestFail dt) s = .next (endStep dt s ((v.post 0x1009 0 0 [2]).pairFails v.standby).resumeIntake)))
  ∧ (∀ (s t : State) (p : Nat), t = { s.mapPair p (fun q => { q with avail := false, loading := false }) with
        fw := { (s.mapPair p fun q => { q with avail := false, loading := false }).fw with standbyOk := if p = s.fw.active then s.fw.standbyOk else false } } →
      s.pairFails p = ((t.post 0x1006 9 p).logRepair 6 3 p 0xFFFF).spareZero 6 0)
  ∧ (∀ (s a u v w : State) (dt p : Nat) (ok : Bool), s.holdUp = true → a = s.advance dt → u = a.mapPair p (fun q => { q with loading := false }) →
      v = { u with fw := { u.fw with reloadSubs := false } } →
      w = (s.cmds.inflight.filter fun e => e.done.isNone).foldl (fun t e => t.finish e.sub (reply (if e.op = 0x0C01 then 0x0500 else 0x0220))) v →
      exec (.pairReloadDone dt p ok) s = .next (endStep dt s (
        if 2 ≤ p ∨ (s.pair p).loading = false then a
        else if ok = false then a.pairFails p
        else if p ≠ s.fw.active then ({ u with fw := { u.fw with standbyOk := true } } : State).dropReason 10
        else if s.fw.reloadSubs = false then u
        else w.resumeIntake))
      ∧ (p = s.standby → exec (.standbyReady dt) s = .next (endStep dt s (
          if (s.pair p).avail = true ∧ (s.pair p).loading = true then ({ u with fw := { u.fw with standbyOk := true } } : State).dropReason 10 else a))))
  ∧ (∀ (s a : State) (dt : Nat), a = s.advance dt →
      exec (.sessionIdleTimeout dt) s = .next (endStep dt s (
        if s.priv.opened = true ∧ s.priv.lastUse + sec 900 ≤ s.now + dt then { a with priv := { s.priv with opened := false } } else a))
      ∧ exec (.nonceExpiry dt) s = .next (endStep dt s (
        if s.sess.nonce ≠ none ∧ s.sess.nonceAt + sec 60 ≤ s.now + dt then { a with sess := { s.sess with nonce := none } } else a))
      ∧ exec (.sessionLockoutEnd dt) s = .next (endStep dt s (match s.sess.lockout with
        | some b => if b + sec 60 ≤ s.now + dt then { a with sess := { s.sess with lockout := none, fails := [] } } else a
        | none => a)))

/-! Drover links and domains, and device time (12, and R399 of 11). -/

/-- Lanes and ports: a lane is lost when its CDR has lost lock, its signal is silent for 1 us, or over 1,000 of its symbols were corrected in 1 ms; lost
while the port runs on both, it leaves the port on one, with its error posted and the partner told; one that is not in service takes its relock back; a port
that is up is lost with both lanes, and with its clock; a relock attempt every 10 ms, good within 8 ms; the rejoin SEQ is proposed after 1,000 clean
codewords, and is a free value (R32, R404, R423, R425; log 7). A ring: 200 us after a reroute the other port's kept frames and traffic go to the new upward
port; 10 s of both lanes on RING_PRI begin the return; BREAK on a member's upward ring port reroutes it (R426). -/
def Obligations.LaneAndRingEventsRun : Prop :=
  (∀ (s a : State) (dt l : Nat) (cdr : Bool) (silent : Nat), s.holdUp = true → a = s.advance dt →
      exec (.laneLoss dt l cdr silent) s = .next (endStep dt s (
        if cdr = true ∨ us 1 ≤ silent ∨ 1000 < a.recentErrs l then a.laneLost l else a))
      ∧ ((s.lane l).state = 0 → (s.lane (if l % 2 = 0 then l + 1 else l - 1)).state = 0 → (s.port (l / 2)).st = .two →
          a.laneLost l = ((((a.count (352 + 8 * (l / 2) + 7) 1).mapLane l fun x =>
            { x with state := if x.outBy then 1 else 2, relocked := false, relockAt := s.now + dt }).toOne (l / 2)).post 0x5005 5 l).laneMsg l 1 0 0)
      ∧ ((s.lane l).state ≠ 0 → a.laneLost l = (a.mapLane l fun x => { x with relocked := false }).mapPort (l / 2) fun q => { q with rejoin := none }))
  ∧ (∀ (s a : State) (dt p : Nat) (sense : List (Bool × Nat)) (gone : Nat → Prop), s.holdUp = true → a = s.advance dt →
      gone = (fun i => (s.lane (2 * p + i)).state ≠ 0 ∨ a.laneGone (2 * p + i) (sense.getD i (false, 0)).1 (sense.getD i (false, 0)).2 = true) →
      ((s.port p).up = true ∧ gone 0 ∧ gone 1 → exec (.portLoss dt p sense) s = .next (endStep dt s (a.portLost p)))
      ∧ (¬ ((s.port p).up = true ∧ gone 0 ∧ gone 1) → exec (.portLoss dt p sense) s = .next (endStep dt s a)))
  ∧ (∀ (s u v : State) (dt i : Nat), u = { s.advance dt with pins := { s.pins with refSds := updAt s.pins.refSds i fun _ => false } } →
      v = (if (u.port (2 * i)).up = true then u.portLost (2 * i) else u) →
      exec (.refclkSdsLoss dt i) s = .next (endStep dt s (
        if s.holdUp = false then u else if (v.port (2 * i + 1)).up = true then v.portLost (2 * i + 1) else v)))
  ∧ (∀ (s a : State) (dt l : Nat) (took : List Nat), s.holdUp = true → a = s.advance dt → exec (.relockAttempt dt l took) s = .next (endStep dt s (
      if (s.port (l / 2)).st = .one ∧ (s.lane l).state = 2 ∧ (s.lane l).relocked = false ∧ (s.lane l).relockAt + ms 10 ≤ s.now + dt
      then (if took.length = 4 ∧ took.sum ≤ ms 8
        then a.mapLane l fun x => { x with relockAt := s.now + dt, relocked := true, clean := 0, txP := 0, rxP := 0 }
        else a.mapLane l fun x => { x with relockAt := s.now + dt })
      else a)))
  ∧ (∀ (s a : State) (dt p : Nat), s.holdUp = true → a = s.advance dt → exec (.laneRejoin dt p) s = .next (endStep dt s (
      match [2 * p, 2 * p + 1].find? fun l => (s.lane l).state == 2 && (s.lane l).relocked with
      | none => a
      | some l =>
        if (s.port p).st = .one ∧ (s.port p).rejoin = none ∧ 1000 ≤ (s.lane l).clean
        then (a.useFree.mapPort p fun x => { x with rejoin := some (l, freeNat s % 4096) }).laneMsg l 0 0 (freeNat s % 4096)
        else a)))
  ∧ (∀ (s a u : State) (dt : Nat), s.holdUp = true → a = s.advance dt → u = { a with drover := { s.drover with reroute := none } } →
      exec (.rerouteWaitEnd dt) s = .next (endStep dt s (match s.drover.reroute, s.upPort with
        | some b, some new => if s.now + dt < b + us 200 then a else match u.otherRing new with
            | some old => u.moveTraffic old new
            | none => u
        | _, _ => a)))
  ∧ (∀ (s a : State) (dt : Nat), s.holdUp = true → a = s.advance dt → exec (.ringReturn dt) s = .next (endStep dt s (
      match (List.range 4).find? fun p => s.prole p == 3 with
      | none => a
      | some p =>
        if s.role = 2 ∧ s.drover.upSec = true ∧ s.drover.reroute = none ∧ ∃ b ∈ (s.port p).bothSince, b + sec 10 ≤ s.now + dt
        then { a with drover := { s.drover with upSec := false, reroute := some (s.now + dt) } } else a)))
  ∧ (∀ (s a : State) (dt p : Nat), s.holdUp = true → a = s.advance dt → exec (.breakMsg dt p) s = .next (endStep dt s (
      match a.takeMsg p 10 with
      | some (b, u) => if u.fromAbove p = true ∧ u.isRing p = true then u.rerouteFrom p (num b 4 2) else u
      | none => a)))

/-- Training: a step past its limit begins the next attempt; it completes only with every step in time, at most 8.0 ns between the lanes and eight codewords
with the tag, and then brings the port's lanes into service with the settings trained, clears its counters, resends what is kept and sends HELLO; a link delay,
half the sum of the stamps' differences, over 5.0 us holds the port down (R401 to R405, R418). Frames: at a frame boundary of a port that is up a frame goes
out; nothing acknowledged for 20 us resends all that is kept; the shed level rises after 10 us above its mark and falls after 10 ms below; a codeword is taken
by the lane that is to rejoin, or by the port: an uncorrectable one asks for a resend, and the sixteenth in a row loses the port; a port that is not up takes
and sends nothing (R410, R412, R413, R423, R424). The precoder of a receiver undoes the transmitter's, for a pair inverted or not (R401, R402). -/
def Obligations.LinkEventsRun : Prop :=
  (∀ (s a : State) (dt p : Nat) (took : List Nat), s.holdUp = true → a = s.advance dt →
      exec (.trainingStepTimeout dt p took) s = .next (endStep dt s (
        if (s.port p).st = .training ∧ stepsInTime took = true ∧ (s.port p).stepAt + took.sum + stepLimits.getD took.length 0 ≤ s.now + dt
        then a.mapPort p fun q => { q with stepAt := s.now + dt, helloRx := false } else a)))
  ∧ (∀ (s a u : State) (dt p t1 t2 t3 t4 : Nat) (d : Rat) (m : TrainMeas) (x y : LaneMeas), s.holdUp = true → a = s.advance dt →
      m.stamps = [t1, t2, t3, t4] → d = linkDelay t1 t2 t3 t4 → m.lanes = [x, y] →
      ((s.port p).st ≠ .training ∨ trainGood m = false ∨ s.now + dt < (s.port p).stepAt + m.took.sum →
          exec (.trainingComplete dt p m) s = .next (endStep dt s a))
      ∧ ((s.port p).st = .training → trainGood m = true → (s.port p).stepAt + m.took.sum ≤ s.now + dt → 5000 < d →
          exec (.trainingComplete dt p m) s = .next (endStep dt s (a.mapPort p fun q => { q with st := .down, tooLong := true, delay := d })))
      ∧ ((s.port p).st = .training → trainGood m = true → (s.port p).stepAt + m.took.sum ≤ s.now + dt → d ≤ 5000 →
          (s.lane (2 * p)).outBy = false → (s.lane (2 * p + 1)).outBy = false →
          u = { (a.mapLane (2 * p) fun q => q.trained x).mapLane (2 * p + 1) (fun q => q.trained y) with
                pins := { s.pins with refSds := updAt s.pins.refSds (p / 2) fun _ => true } } →
          exec (.trainingComplete dt p m) s = .next (endStep dt s (((u.mapPort p fun q => { q with
            delay := d, swapped := m.swapped, ueRun := 0, helloRx := true, peerDev := num m.hello 2 2, peerDomain := num m.hello 4 2
            ackAt := s.now + dt, st := .two, shed := 0, bothSince := some (s.now + dt) }).mapPort p fun q => q.resendAll).hello p))))
  ∧ (∀ t1 t2 t3 t4 : Nat, t1 ≤ t2 → t3 ≤ t4 → t4 < 2 ^ 63 → t2 < 2 ^ 63 →
      linkDelay t1 t2 t3 t4 = (((t2 - t1 : Nat) : Rat) + ((t4 - t3 : Nat) : Rat)) / 512)
  ∧ (∀ (s a : State) (dt p : Nat), s.holdUp = true → a = s.advance dt →
      exec (.frameBoundaryTransmit dt p) s = .next (endStep dt s (
        if (s.port p).up = false then a
        else if s.mayRecords p = true ∧ (s.port p).queued = 0 then (State.refill p (s.port p).spill.length a).transmit p
        else a.transmit p))
      ∧ exec (.retransmitTimeout dt p) s = .next (endStep dt s (
        if (s.port p).up = true ∧ (s.port p).kept ≠ [] ∧ (s.port p).ackAt + us 20 ≤ s.now + dt
        then a.mapPort p fun q => { q.resendAll with ackAt := s.now + dt } else a))
      ∧ exec (.shedLevelChange dt p) s = .next (endStep dt s (
        if (s.port p).st ≠ .one then a
        else if (∃ b ∈ (s.port p).hiSince, b + us 10 ≤ s.now + dt) ∧ (s.port p).shed < 3
          then a.mapPort p fun q => { q with shed := q.shed + 1, hiSince := some (s.now + dt) }
        else if (∃ b ∈ (s.port p).loSince, b + ms 10 ≤ s.now + dt) ∧ 1 < (s.port p).shed
          then a.mapPort p fun q => { q with shed := q.shed - 1, loSince := some (s.now + dt) }
        else a)))
  ∧ (∀ (s a : State) (dt p : Nat) (rx : List (Nat × List Nat)), s.holdUp = true → a = s.advance dt →
      exec (.frameReceived dt p rx) s = .next (endStep dt s (
        if (s.port p).up = false then a
        else match (s.idleLanes p).find? fun l => rx.map (·.1) == [l] with
          | some l => a.idleWordIn p rx l
          | none => a.dataWordIn p rx)))
  ∧ (∀ (s t u : State) (p : Nat) (rx : List (Nat × List Nat)), t = s.rxOn rx (s.liveLanes p) →
      u = (t.count (352 + 8 * p + 3) 1).mapPort p (fun q => { q with ueRun := q.ueRun + 1, nak := true }) →
      s.dataWordIn p rx = match s.wordIn p rx (s.liveLanes p) with
        | none => if 16 ≤ (u.port p).ueRun then u.portLost p else u
        | some (c, es) => match wordFrame c with
          | none => t.mapPort p fun q => { q with ueRun := 0, nak := true }
          | some f => (t.attribute p (s.liveLanes p) es).frameIn p es.length f)

/-- Messages: each acts on the oldest of its kind received, and does nothing where none waits. HELLO gives the partner's identity; PLAN on the upward port
is passed on, and held unless it is known, one whose activation has passed counting as late; TOPO from above of this domain gives the root, the hops and the
path, ends a HOLDOVER and goes on downward, and the first of a search sends JOIN; ADMIT for this member joins it or has it refused, an error posted; LANE
reports a lane's state, asks for a loopback or agrees a rejoin; SYNC keeps T1 and T2 and sends DREQ; DREQ is answered by DRESP; DRESP gives the link's delay
and the offset, which a JOINED member with source 2 follows (R408, R411, R415, R418, R421 to R423). JOIN: a member passes it up; the root answers ADMIT; a
device that is admitted enters its table, and one refused with another result than 1 leaves it (R415, R416, R420, R426). -/
def Obligations.DomainMessagesRun : Prop :=
  (∀ (s a : State) (dt p : Nat), s.holdUp = true → a = s.advance dt →
      (a.takeMsg p 1 = none → exec (.hello dt p) s = .next (endStep dt s a)) ∧ (a.takeMsg p 2 = none → exec (.topo dt p) s = .next (endStep dt s a))
      ∧ (a.takeMsg p 3 = none → exec (.join dt p) s = .next (endStep dt s a)) ∧ (a.takeMsg p 4 = none → exec (.admitMsg dt p) s = .next (endStep dt s a))
      ∧ (a.takeMsg p 5 = none → exec (.plan dt p) s = .next (endStep dt s a)) ∧ (a.takeMsg p 6 = none → exec (.sync dt p) s = .next (endStep dt s a))
      ∧ (a.takeMsg p 7 = none → exec (.dreq dt p) s = .next (endStep dt s a)) ∧ (a.takeMsg p 8 = none → exec (.dresp dt p) s = .next (endStep dt s a))
      ∧ (a.takeMsg p 9 = none → exec (.lane dt p) s = .next (endStep dt s a)) ∧ (a.takeMsg p 10 = none → exec (.breakMsg dt p) s = .next (endStep dt s a)))
  ∧ (∀ (s u : State) (dt p : Nat) (b : Bytes), s.holdUp = true → (s.advance dt).takeMsg p 1 = some (b, u) →
      exec (.hello dt p) s = .next (endStep dt s (u.mapPort p fun q => { q with peerDev := num b 2 2, peerDomain := num b 4 2, helloRx := true })))
  ∧ (∀ (s u v w : State) (dt p : Nat) (b : Bytes) (pl : PlanSt), s.holdUp = true → (s.advance dt).takeMsg p 5 = some (b, u) →
      v = u.passDown b → w = v.setPendPlan pl →
      pl = { base := BitVec.ofNat 31 (num b 4 4), stride := num b 8 2, epoch := num b 10 2, act := BitVec.ofNat 64 (num b 12 8) } →
      exec (.plan dt p) s = .next (endStep dt s (
        if u.fromAbove p = false then u
        else if (∃ d ∈ v.drover.domPlan, d.epoch = pl.epoch) ∨ v.drover.pendPlan = some pl then v
        else if v.drover.domPlan = none ∧ pl.act.toNat ≤ u.deviceTime.toNat then v.setDomPlan pl
        else if pl.act.toNat ≤ u.deviceTime.toNat then { w with drover := { w.drover with late := w.drover.late + 1 } } else w)))
  ∧ (∀ (s u v w : State) (dt p path : Nat) (b : Bytes) (was : JoinSt), s.holdUp = true → (s.advance dt).takeMsg p 2 = some (b, u) → was = u.drover.join →
      path = (num b 8 4 + 180 + (roundQ (u.port p).delay).toNat) % 2 ^ 32 →
      v = { u with drover := { u.drover with
        root := num b 4 2, hops := num b 6 2 + 1, pathNs := path, topoAt := u.now, topoEpoch := num b 12 2, prevTopo := BitVec.ofNat 64 (num b 16 8)
        join := if was = .search then .joining else if was = .holdover then .joined else was } } →
      w = v.sendOver v.upstream (v.topoMsg (num b 4 2) (num b 6 2 + 1) path (num b 12 2) (num b 16 8)) →
      exec (.topo dt p) s = .next (endStep dt s (
        if u.fromAbove p = false ∨ num b 14 2 ≠ u.domain then u else if was = .search then w.sendJoin else w)))
  ∧ (∀ (s u v : State) (dt p r : Nat) (b : Bytes), s.holdUp = true → (s.advance dt).takeMsg p 4 = some (b, u) →
      r = byteAt b 6 →
      v = ({ u with drover := { u.drover with join := .refused, refusedBy := r } } : State).post 0x5002 0 0 [r] →
      exec (.admitMsg dt p) s = .next (endStep dt s (
        if u.fromAbove p = false then u
        else if num b 4 2 ≠ u.devId then u.passDown b
        else if r = 0 then (if u.drover.join = .joined ∨ u.drover.join = .holdover then u
          else { u with drover := { u.drover with join := .joined, refusedBy := 0, firstSync := true, reseedDue := true } })
        else if r = 1 ∧ (u.drover.join = .joined ∨ u.drover.join = .holdover) then u.passDown b
        else if r = 4 then v.post 0x100C 0 0 [u.dev.timeSource] else v)))
  ∧ (∀ (s u : State) (dt p l : Nat) (b : Bytes), s.holdUp = true → (s.advance dt).takeMsg p 9 = some (b, u) → l = u.partnerLane p (byteAt b 4) →
      (byteAt b 5 = 0 → (u.lane l).state = 2 → (u.lane l).relocked = true → (u.port p).st = .one → (u.port p).rejoin = none →
        exec (.lane dt p) s = .next (endStep dt s ((u.mapPort p fun q => { q with rejoin := some (l, num b 8 2 % 4096) }).laneMsg l 0 0 (num b 8 2 % 4096))))
      ∧ (byteAt b 5 = 1 → exec (.lane dt p) s = .next (endStep dt s (if (u.lane l).state = 0 then u.laneLost l else u)))
      ∧ (byteAt b 5 = 2 → exec (.lane dt p) s = .next (endStep dt s (
          if (u.lane l).outBy = true ∧ (u.lane l).loop < 2 then u
          else if (u.lane l).state = 0 then u.laneLost l
          else u.mapLane l fun x => { x with state := 2, loop := 0, outBy := false })))
      ∧ (3 ≤ byteAt b 5 → exec (.lane dt p) s = .next (endStep dt s ((if (u.lane l).state = 0 then u.laneLost l else u).mapLane l
          fun x => { x with state := 3, loop := byteAt b 6, outBy := true, relocked := false, bits := 0, errs := 0 }))))
  ∧ (∀ (s u : State) (dt p : Nat) (b : Bytes), s.holdUp = true →
      ((s.advance dt).takeMsg p 6 = some (b, u) → exec (.sync dt p) s = .next (endStep dt s (
        if u.upstream p = true then u
        else (u.sendMsg p (u.mkMsg 7 (le 2 (num b 4 2)))).mapPort p fun q => { q with syncSeq := num b 4 2, t1 := num b 8 8, t2 := num b 32 8 })))
      ∧ ((s.advance dt).takeMsg p 7 = some (b, u) → exec (.dreq dt p) s = .next (endStep dt s (
        if u.upstream p = true then u.sendMsg p (u.mkMsg 8 (le 2 (num b 4 2) ++ le 2 0 ++ le 8 (num b 32 8))) else u))))
  ∧ (∀ (s u v : State) (dt p : Nat) (b : Bytes) (q : Port) (d o : Rat), s.holdUp = true → (s.advance dt).takeMsg p 8 = some (b, u) → q = u.port p →
      d = linkDelay q.t1 q.t2 q.t3 (num b 8 8) → o = stampDiff q.t2 q.t1 - d - (signed 16 (u.pf 10 (0x44 + 16 * p) 0 16) : Rat) / 1000 / 2 →
      v = u.mapPort p (fun x => { x with delay := d }) →
      exec (.dresp dt p) s = .next (endStep dt s (
        if u.upstream p = true ∨ num b 4 2 ≠ q.syncSeq then u
        else if v.fromAbove p = false then v
        else if v.dev.timeSource = 2 ∧ v.drover.join = .joined then v.follow o
        else { v with drover := { v.drover with lastOfs := o } })))
  ∧ (∀ (s u v : State) (dt p id r : Nat) (b : Bytes), s.holdUp = true → (s.advance dt).takeMsg p 3 = some (b, u) → id = num b 2 2 →
      r = u.admitResult p id (num b 6 2) (num b 8 4) (byteAt b 16 % 4) (num b 4 2) →
      v = { u.dropMember id with drover := { (u.dropMember id).drover with members :=
          { id := id, hops := num b 6 2, pathNs := num b 8 4, ackEpoch := num b 14 2, lastReport := u.now, port := p } :: (u.dropMember id).drover.members } } →
      (u.role = 2 → exec (.join dt p) s = .next (endStep dt s (match u.upPort with
        | some q => if q ≠ p then u.sendMsg q (b.take 32) else u
        | none => u)))
      ∧ (u.role ≠ 1 → u.role ≠ 2 → exec (.join dt p) s = .next (endStep dt s u))
      ∧ (u.role = 1 → exec (.join dt p) s = .next (endStep dt s ((
          if r = 0 then (if u.pf 10 0x10 0 32 < num b 8 4 ∧ ∃ m ∈ u.member id, m.pathNs ≤ u.pf 10 0x10 0 32 then v.post 0x5004 10 id [num b 8 4] else v)
          else if r = 1 then u else u.dropMember id).sendMsg p (u.mkMsg 4 (le 2 id ++ le 1 r))))))

/-- The domain's timers: HELLO every 100 ms, TOPO every 1 ms at the root and never in SAFE, with the pending PLAN and, every 100 ms, the plan in force; JOIN
every 10 ms while joining, every 1 s after; SYNC every 1 ms on the end nearer the root; no TOPO for 10 ms ends a member's search or puts it into HOLDOVER; a
member without a report for 5 s is forgotten (R411, R415, R416, R418, R421, R434). Device time: a PPS edge serves a waiting TIME_SET and, with source 1,
disciplines the time: an edge 1 s within 100 us of the last accepted one, stamped in 15.625 ps units, steps the time beyond 10 us and else sets a rate of at
most 100 ppm, a free value (log 7); 1.5 s without an accepted edge loses it; a host time 60 s old is stale; a slew ends with its duration; a TIME_SET with
AT_PPS fails after 2 s without an edge (R29, R399, R417). -/
def Obligations.DomainAndTimeTimersRun : Prop :=
  (∀ (s a : State) (dt p : Nat), s.holdUp = true → a = s.advance dt →
      exec (.helloTimer dt p) s = .next (endStep dt s (if (s.port p).up = true ∧ (s.port p).helloAt + ms 100 ≤ s.now + dt then a.hello p else a))
      ∧ exec (.syncTimer dt p) s = .next (endStep dt s (
        if (s.port p).up = true ∧ s.upstream p = true ∧ (s.port p).syncAt + ms 1 ≤ s.now + dt
        then (a.sendMsg p (a.mkMsg 6 (le 2 (((s.port p).syncSeq + 1) % 65536)))).mapPort p fun q =>
          { q with syncSeq := ((s.port p).syncSeq + 1) % 65536, syncAt := s.now + dt }
        else a)))
  ∧ (∀ (s a u v w : State) (dt : Nat), s.holdUp = true → a = s.advance dt →
      u = a.sendOver a.upstream (a.topoMsg s.devId 0 0 s.seq.planEpoch s.drover.prevTopo.toNat) →
      v = (match u.drover.pendPlan with
        | some p => if a.deviceTime.toNat < p.act.toNat then u.sendOver u.upstream (u.planMsg p) else u
        | none => u) →
      w = (match v.drover.domPlan with
        | some p => if s.drover.planAt + ms 100 ≤ s.now + dt
            then { v.sendOver v.upstream (v.planMsg p) with drover := { (v.sendOver v.upstream (v.planMsg p)).drover with planAt := s.now + dt } } else v
        | none => v) →
      exec (.topoTimer dt) s = .next (endStep dt s (
        if s.role ≠ 1 ∨ s.code = 7 ∨ s.now + dt < s.drover.topoAt + ms 1 then a
        else { w with drover := { w.drover with topoAt := s.now + dt, prevTopo := a.deviceTime } })))
  ∧ (∀ (s a : State) (dt : Nat), s.holdUp = true → a = s.advance dt →
      exec (.topoTimeout dt) s = .next (endStep dt s (
        if s.role ≠ 2 ∨ s.now + dt < s.drover.topoAt + ms 10 then a
        else { a with drover := { s.drover with join := if s.drover.join = .joined then .holdover else if s.drover.join = .joining then .search else s.drover.join } }))
      ∧ exec (.joinTimer dt) s = .next (endStep dt s (
        if s.role = 2 ∧ s.drover.join ≠ .search ∧ s.drover.joinAt + (if s.drover.join = .joining then ms 10 else sec 1) ≤ s.now + dt then a.sendJoin else a))
      ∧ ∀ id, exec (.memberForget dt id) s = .next (endStep dt s (
        if s.role = 1 ∧ ∃ m ∈ s.member id, m.lastReport + sec 5 ≤ s.now + dt then a.dropMember id else a)))
  ∧ (∀ (s a u : State) (dt : Nat), s.holdUp = true → a = s.advance dt →
      u = (match s.waiting .pps with
        | some e => (a.stepTime e.arg).finish e.sub (timeSetReply a.deviceTime.toNat e.arg)
        | none => a) →
      exec (.ppsEdge dt) s = .next (endStep dt s (if u.dev.timeSource = 1 then u.pps else u))
      ∧ exec (.timeSetPpsTimeout dt) s = .next (endStep dt s (match s.waiting .pps with
        | some e => if e.since + sec 2 ≤ s.now + dt then a.finish e.sub (reply 0x0200) else a
        | none => a)))
  ∧ (∀ (s t : State) (edge : Nat) (e : Int), edge = tdcStamp s.now → e = ppsError (s.unitsAt edge) →
      t = { s with time := { s.time with lastPps := some edge, ppsLost := false } } →
      s.pps = if ∃ b ∈ s.time.lastPps, edge + us 100 < b + sec 1 ∨ b + sec 1 + us 100 < edge then s
        else if 10000 * (nsUnits : Int) < e ∨ e < -(10000 * (nsUnits : Int)) then { t with time := { t.time with units := ((s.time.units : Int) - e).toNat } }
        else { t.useFree with time := { t.time with ppb := ((freeNat t % 200001 : Nat) : Int) - 100000 } })
  ∧ (∀ (s a : State) (dt : Nat), s.holdUp = true → a = s.advance dt →
      exec (.timePpsLost dt) s = .next (endStep dt s (
        if s.dev.timeSource = 1 ∧ s.time.ppsLost = false ∧ s.time.lastPps.getD s.time.srcAt + ms 1500 ≤ s.now + dt
        then ({ a with time := { a.time with lastPps := none, ppsLost := true } } : State).post 0x100A 0 0 else a))
      ∧ exec (.timeStale dt) s = .next (endStep dt s (
        if s.dev.timeSource = 3 ∧ s.time.lastHostSet + sec 60 ≤ s.now + dt
        then ({ a with time := { a.time with lastHostSet := s.now + dt } } : State).post 0x100B 0 0 else a))
      ∧ exec (.timeSlewEnd dt) s = .next (endStep dt s (
        if ∃ b ∈ s.time.slewEnd, b ≤ s.now + dt then { a with time := { a.time with ppb := 0, slewEnd := none } } else a)))

/-! Housekeeping and thermal protection (14). -/

/-- Housekeeping: every sensor's sample is kept with its extremes, a failed one counting as 150 degrees, and levels and outputs are judged from it; a level
falls by one when every source has been below it for 100 ms; 2 ms after a shutdown the clocks and cores are frozen; the restart after 1 s clears level, guard
and THERM_N and enters BOOT at stage 0x02; a conversion of the visited channel that can have ended is taken and the visit goes on, the converter's code and
its overload following from its input and the gain in force; the calibration slot comes 60 s after the last (R472 to R491). -/
def Obligations.HousekeepingEventsRun : Prop :=
  (∀ (s a : State) (dt failed : Nat) (temps : List Int) (v : Nat → Int), a = s.advance dt →
      v = (fun i => if bit failed i = true then 2400 else temps.getD i 0) →
      exec (.ondieSensorSample dt temps failed) s = .next (endStep dt s (
        if s.isIn [0, 1] = true then a
        else ((a.each (List.range 24) fun i u => { u with hk := { u.hk with sensors := u.hk.sensors.upd i fun q =>
          { value := v i, failed := bit failed i, seen := true, min := if q.seen then min q.min (v i) else v i
            max := if q.seen then max q.max (v i) else v i } } }).judgeHeat).hkOutputs)))
  ∧ (∀ (s a : State) (dt : Nat), a = s.advance dt → exec (.thermalFall dt) s = .next (endStep dt s (
      if s.isIn [2, 3, 4, 5, 6, 7] = false ∨ s.hk.level = 0 then a
      else match s.hk.belowSince.getD (s.hk.level - 1) none with
        | some b => if b + ms 100 ≤ s.now + dt then (a.setLevel (s.hk.level - 1) 0x6003).hkOutputs else a
        | none => a)))
  ∧ (∀ (s a : State) (dt : Nat), a = s.advance dt → exec (.thermalShutdownReset dt) s = .next (endStep dt s (
      if s.code = 8 ∧ s.hk.tripAt + ms 2 ≤ s.now + dt then { a with hk := { s.hk with frozen := true } } else a)))
  ∧ (∀ (s a u : State) (dt : Nat) (unarm : HkChan → HkChan), a = s.advance dt →
      unarm = (fun h => { h with armed := false, valid := false, isOpen := false, tag := 0 }) →
      u = { a with
        hk := { s.hk with
          level := 0, levelLog := a.keepLevel, stwMHz := 800, belowSince := [none, none, none], coolSince := none, frozen := false
          chans := { s.hk.chans with cells := s.hk.chans.cells.map fun (x : Nat × HkChan) => (x.1, unarm x.2) } }
        pins := { s.pins with thermN := true } } →
      (s.code ≠ 8 ∨ s.hk.coolSince = none → exec (.thermalRestart dt) s = .next (endStep dt s a))
      ∧ (∀ c, s.code = 8 → s.hk.coolSince = some c → exec (.thermalRestart dt) s = .next (endStep dt s (
          if s.now + dt < c + sec 1 then a else ((if s.hk.level = 0 then u else u.raise 0 10).guardClear).enterBoot 5 2))))
  ∧ (∀ (s a u : State) (dt ch : Nat) (m : HadcIn), a = s.advance dt → u = (a.hkResult ch m).hkAdvance ch →
      exec (.hadcResult dt ch m) s = .next (endStep dt s (
        if s.hk.applied = true ∧ ch = s.hk.visit ∧ s.hkEn ch = true ∧ a.hkDue ch = true
        then (({ u with hk := { u.hk with convAt := u.now } } : State).hkDrive.judgeHeat).hkOutputs else a)))
  ∧ (∀ (nv : Int) (g : Nat), -8388608 ≤ (hadcCode nv g).1 ∧ (hadcCode nv g).1 ≤ 8388607
      ∧ ((hadcCode nv g).2 = true ↔ hadcFull g < (nv.natAbs : Rat)))
  ∧ (∀ (s a u : State) (dt : Nat) (meas : List Rat), a = s.advance dt →
      u = { a with hk := { s.hk with
        calAt := s.now + dt, convAt := s.now + dt, calSlot := a.deviceTime, ofs := meas.getD 0 0, gainErr := meas.getD 1 1, iA := meas.getD 2 1, iB := meas.getD 3 1 } } →
      exec (.hadcCalSlot dt meas) s = .next (endStep dt s (
        if s.hk.applied = true ∧ s.hk.inVisit = 0 ∧ s.hk.calAt + sec 60 ≤ s.now + dt
        then (u.mapHk s.hk.visit fun c => { c with since := 0, tripRun := 0 }) else a)))

/-! Functional statements: registers at reset, checks of a command, writes, records, generators, returns. -/

/-- What the registers read right after reset, as the spec's Reset columns give it (R335, R337, R342, R347, R528): offset by offset of PF0 BAR0, of command
the command rings of PF0 BAR2, and STREAM_OPEN of PF1 BAR0. In every state the configuration space of the two functions reads Device ID 0x5120 and 0x5121,
the Vendor ID of the ordering sheet and the stepping as Revision ID (R6, R7, R333); IDCODE reads 1 in bit 0, 0x5120 as part number and the stepping (R567); and
what is shifted through the scan port never moves the pads of FIRE_Snn, RES_GATE_Snn and DET_HV_EN, nor releases an open-drain pad that its block asserts, which
only HIGHZ turns off (R568; log 68). -/
def Obligations.RegistersAtReset : Prop :=
  (∀ x ∈ [(0x40, 0), (0x44, 1), (0x48, 0xFFFFFFFE), (0x4C, 0), (0x54, 0), (0x58, 0), (0x5C, 0), (0x60, 0), (0x68, 0), (0x6C, 0), (0x70, 0), (0x74, 0),
      (0x7C, 0), (0x80, 0)], State.reset.readReg 0 x.1 = x.2)
  ∧ (∀ r ∈ [0, 1, 2, 3], ∀ x ∈ [(0x00, 0), (0x04, 0), (0x08, 0), (0x0C, 0), (0x10, 4), (0x14, 0), (0x18, 0), (0x1C, 8), (0x20, 0)],
      State.reset.readReg 1 (0x10000 * r + x.1) = x.2)
  ∧ State.reset.readReg 2 0x2000 = 0
  ∧ State.reset.otp.fwCtr = 0 ∧ State.reset.priv.opened = false ∧ State.reset.sess.nonce = none ∧ State.reset.code = 1
  ∧ (∀ s : State, s.readReg 3 0 = Config.vendorId.toNat + 65536 * 0x5120 ∧ s.readReg 4 0 = Config.vendorId.toNat + 65536 * 0x5121
      ∧ s.readReg 3 8 = s.ident.stepping.toNat + 256 * 0x118000 ∧ s.readReg 4 8 = s.ident.stepping.toNat + 256 * 0x118000)
  ∧ State.reset.jtag.ir = .idcode
  ∧ (∀ s : State, s.idcode % 2 = 1 ∧ s.idcode / 2 ^ 12 % 2 ^ 16 = 0x5120 ∧ s.idcode / 2 ^ 28 = if s.isA0 = true then 0 else 1)
  ∧ (∀ (s : State) (j : Jtag) (p : Pad), (p.observeOnly = true → ({ s with jtag := j } : State).padDrive p = s.padFunction p)
      ∧ (p.isOpenDrain = true → s.padFunction p = .low → j.ir ≠ .highz → ({ s with jtag := j } : State).padDrive p = .low))

/-- The register at 0x2000 of PF1 BAR0 holds STREAM_OPEN in bit 0: it reads 1 while the stream is open, is 0 at reset, its bits 31:1 read 0, and a write
does not change it (R347). -/
def Obligations.StreamOpenRegister : Prop :=
  State.reset.readReg 2 0x2000 = 0
  ∧ ∀ s : State, (s.stream.opened = true → s.readReg 2 0x2000 = 1) ∧ (s.stream.opened = false → s.readReg 2 0x2000 = 0)
    ∧ ∀ v, (s.write32 2 0x2000 v).stream.opened = s.stream.opened

/-- A command passes the checks before its own exactly when its reserved fields are 0, its opcode exists, a mailbox command names no pointer, its lengths
agree, its addresses are aligned, a privileged one has an open session, the boot ROM serves it where only that runs, and the device state allows it (R362,
R378). A command that fails one of these checks completes with its status, and has no other effect: whatever its body and payload are (R362). -/
def Obligations.CommandChecks : Prop :=
  (∀ (s : State) (e : InFlight), s.precheck e = 0 ↔ ∃ o, opInfo e.op = some o ∧ num e.desc 4 4 < 8 ∧ num e.desc 0x20 32 &&& o.mask = num e.desc 0x20 32
    ∧ (e.mbx = true → num e.desc 4 4 % 4 = 0) ∧ lengthOk o e = true ∧ num e.desc 0x10 8 % 64 = 0 ∧ num e.desc 0x18 8 % 64 = 0
    ∧ (o.priv = true → s.priv.opened = true) ∧ (s.cmds.romOnly = true → o.code ∈ romOps) ∧ s.code ∈ o.states)
  ∧ (∀ (s : State) (dt op sub : Nat) (e : InFlight) (payload : Option Bytes) (body : Body),
    s.cmds.inflight.find? (fun x => x.sub == sub && x.op == op) = some e → startable s.cmds.inflight e = true → s.precheck e ≠ 0 →
    (s.advance dt).gcs op sub payload body = (s.advance dt).finish sub (reply (s.precheck e)))

/-- REBOOT always behaves as though BARRIER were set: it starts only when no earlier command is in flight, and no later command starts while it is (R371).
-/
def Obligations.RebootIsBarrier : Prop :=
  ∀ (l : List InFlight) (e x : InFlight), e ∈ l → e.op = 0x0105 →
    e.barrier = true ∧ (x ∈ l → x.sub < e.sub → startable l e = false) ∧ (e.sub < x.sub → startable l x = false)

/-- The privileged opcodes are CAL_LOAD, ENGINE_RETIRE, REPAIR_LOG_CLEAR, SNAPSHOT and COUNTER_CLEAR: without an open session one of these fails its
checks, and a session changes nothing for any other; on the privileged page an access without a session is only counted as denied, and a read gives 0 (R354,
R388). -/
def Obligations.PrivilegedNeedsSession : Prop :=
  (∀ code o, opInfo code = some o → (o.priv = true ↔ code ∈ [0x0A04, 0x0A22, 0x0A24, 0x0B01, 0x0B02]))
  ∧ (∀ (s : State) (e : InFlight), e.op ∈ [0x0A04, 0x0A22, 0x0A24, 0x0B01, 0x0B02] → s.priv.opened = false → s.precheck e ≠ 0)
  ∧ (∀ (s : State) (e : InFlight) (b : Bool), e.op ∉ [0x0A04, 0x0A22, 0x0A24, 0x0B01, 0x0B02] →
      ({ s with priv := { s.priv with opened := b } } : State).precheck e = s.precheck e)
  ∧ (∀ (s : State) (ofs v : Nat), s.priv.opened = false → 0x100004 ≤ ofs → ofs < 0x200000 →
      s.write32 0 ofs v = s.deny ∧ s.readReg 0 ofs = 0 ∧ s.readEffect 0 ofs = s.deny ∧ s.readValue 0 ofs = 0)

/-- GLEAN_TEST and GLEAN_FORCE are accepted only in ARMED, RANGING and DEGRADED: a command that would pass its checks in another state completes with
0x0212 GLEAN_STATE in any other, and has no effect (R263). The requests of the engine cycles before are taken first, as ever (R254). -/
def Obligations.GleanCommandsNeedConverters : Prop :=
  ∀ (s t : State) (dt sub : Nat) (e : InFlight) (w : Word), t = (s.advance dt).arbitrate false → startable t.cmds.inflight e = true →
    ({ t with dev := { t.dev with word := w } } : State).precheck e = 0 → t.code ∉ [4, 5, 6] →
    (t.cmds.inflight.find? (fun x => x.sub == sub && x.op == 0x0503) = some e →
      exec (.gleanTest dt sub) s = .next (endStep dt s (t.finish sub (reply 0x0212))))
    ∧ (t.cmds.inflight.find? (fun x => x.sub == sub && x.op == 0x0504) = some e →
      exec (.gleanForce dt sub) s = .next (endStep dt s (t.finish sub (reply 0x0212))))

/-- Posted writes to host memory carry the bytes whole and in order, from the address on; none crosses a 4 KB boundary or exceeds the function's Max
Payload Size; a function that can issue requests, with nothing held back, issues them in that order (R331). -/
def Obligations.PostedWritesStayInPage : Prop :=
  (∀ (mps a : Nat) (b : Bytes), 0 < mps →
      ((splitWrites mps b.length a b).flatMap fun x => x.2) = b
      ∧ (∀ x ∈ splitWrites mps b.length a b, x.2 ≠ [] ∧ x.2.length ≤ mps ∧ x.1 % 4096 + x.2.length ≤ 4096)
      ∧ (∀ i x, (splitWrites mps b.length a b)[i]? = some x → x.1 = a + (((splitWrites mps b.length a b).take i).flatMap fun y => y.2).length))
  ∧ (∀ (s : State) (fn a : Nat) (b : Bytes), s.canWrite fn = true → s.deferred fn = [] →
      (s.hostWrite fn a b).out = ((splitWrites (s.func fn).mps b.length a b).map fun x => (⟨.write, fn, x.1, x.2⟩ : Emit)).reverse ++ s.out)

/-- SCRATCH holds what is written: a read of the bytes written gives them, every other byte reads as before, and the canonical form is kept (R438, R445;
that an unlisted byte reads 0 is the model's choice, log 12). -/
def Obligations.ScratchReadsBack : Prop :=
  ∀ (m : List Host.Cell) (a : Nat) (l : Bytes), Memory.wf m = true →
    Memory.wf (Memory.writeN m a l) = true ∧ Memory.readN (Memory.writeN m a l) a l.length = l
    ∧ ∀ x, x < a ∨ a + l.length ≤ x → Memory.read (Memory.writeN m a l) x = Memory.read m x

/-- A record's header reads back: TYPE, LEN16, DEV and TIME are what it was made with, its length is LEN16 units of 16 bytes, and its CRC is the CRC-32C of
bytes 0 to 3 and 8 to the end; the CRC-32C of "123456789" is 0xE3069283 (R298, R300). -/
def Obligations.RecordHeaderReadsBack : Prop :=
  crc32c [0x31, 0x32, 0x33, 0x34, 0x35, 0x36, 0x37, 0x38, 0x39] = 0xE3069283
  ∧ ∀ (type dev time : Nat) (body : Bytes), type < 16 → dev < 65536 → time < 2 ^ 64 → body.length % 16 = 0 → body.length ≤ 65504 →
    recType (mkRecord type dev time body) = type ∧ recDev (mkRecord type dev time body) = dev ∧ recTime (mkRecord type dev time body) = time
    ∧ (mkRecord type dev time body).length = 16 * fieldOf (mkRecord type dev time body) 0 4 12
    ∧ (mkRecord type dev time body).drop 16 = body
    ∧ num (mkRecord type dev time body) 4 4 = (crc32c ((mkRecord type dev time body).take 4 ++ (mkRecord type dev time body).drop 8)).toNat

/-- The code generator is never zero once it is not, and jump-ahead gives the state that stepping reaches: the seed of string i of device d is the state
that PLAN_BASE reaches after (d * 32 + i) * PLAN_STRIDE steps (R49, R50). -/
def Obligations.JumpAheadIsStepping : Prop :=
  (∀ x : BitVec 31, x ≠ 0 → genStep x ≠ 0)
  ∧ (∀ (p : Nat) (x : BitVec 31), p < 2 ^ 31 → genJump p x = genSteps p x)
  ∧ (∀ (base : BitVec 31) (stride d i : Nat), stride < 1024 → d < 65535 → i < 32 → planSeed base stride d i = genSteps ((d * 32 + i) * stride) base)

/-- Returns are reported in descending order of weight, whatever the selection rule, and never more than MAX_RET or the program's return limit (R224,
R226). -/
def Obligations.ReturnsDescendInWeight : Prop :=
  ∀ (prog maxRet m : Nat) (span : Rat) (l : List Peak),
    (reported prog maxRet (acceptPeaks m span (judgeOrder l) [] [] 0).1).Pairwise (fun a b => b.wm ≤ a.wm)
    ∧ (reported prog maxRet (acceptPeaks m span (judgeOrder l) [] [] 0).1).length ≤ min maxRet (returnLimit prog)
    ∧ ∀ p ∈ reported prog maxRet (acceptPeaks m span (judgeOrder l) [] [] 0).1, p ∈ l ∧ m ≤ p.s ∧ p.tc ≤ span

/-- Frames: each is 640 bytes, its header the value and its complement; a body takes at most 624 bytes of the class's records, in order and without a gap;
a port never keeps more than 256 frames (R409, R410, R412). -/
def Obligations.FramesKeepTheStream : Prop :=
  (∀ (s : State) (p : Nat) (f : Frame), (s.frameBytes p f).length = 640 ∧ slice (s.frameBytes p f) 8 8 = compl (slice (s.frameBytes p f) 0 8))
  ∧ (∀ (part : Bytes) (recs : List Bytes), part.length ≤ 624 →
      (fillBody part none recs).1.length ≤ 624
      ∧ (fillBody part none recs).1 ++ (fillBody part none recs).2.2.1 ++ (fillBody part none recs).2.2.2.flatten = part ++ recs.flatten)
  ∧ (∀ (s : State) (p : Nat), (s.port p).kept.length ≤ 256 → ((s.transmit p).port p).kept.length ≤ 256)

/-- The line code reads back what it carries: a lane's values, after any value and over an inverted pair or not, give its symbols again; the two halves of a
striped codeword make it up again; the codeword of a frame has 544 symbols of 10 bits, is a codeword, and carries the frame (R401 to R403; where the rules
leave the code's conventions open, they are those of log 98). -/
def Obligations.LaneCodeReadsBack : Prop :=
  (∀ (inv : Bool) (p : Nat) (l : List Nat), p < 4 → (∀ v ∈ l, v < 1024) →
      laneIn inv p ((laneOut p l).map fun q => if inv = true then 3 - q else q) = l)
  ∧ (∀ l : List Nat, l.length % 2 = 0 → unstripe (stripe 2 0 l) (stripe 2 1 l) = l)
  ∧ (∀ l : List Nat, (laneOut 0 l).length = 5 * l.length ∧ ∀ q ∈ laneOut 0 l, q < 4)
  ∧ (∀ f : Bytes, f.length = 640 →
      (frameWord f).length = 544 ∧ (∀ v ∈ frameWord f, v < 1024) ∧ rsDecode (frameWord f) = some (frameWord f, []) ∧ wordFrame (frameWord f) = some f)

/-- The gain of a housekeeping channel (R474): fixed unless it ranges automatically; one step down at once on overload or 90 % of full scale, none at G =
1; one step up on the second settled result below 40 % of full scale; and always a code of 0 to 7. -/
def Obligations.GainMovesOneStep : Prop :=
  ∀ (c : HkChan) (code : Int) (sat settled : Bool), c.gain ≤ 7 →
    gainAfter false c code sat settled = c
    ∧ (gainAfter true c code sat settled).gain ≤ 7
    ∧ (sat = true ∨ 9 * 8388608 ≤ code.natAbs * 10 → (gainAfter true c code sat settled).gain = c.gain - 1)
    ∧ (sat = false → code.natAbs * 10 < 4 * 8388608 → settled = true → c.lowRun = 1 → c.gain < 7 → (gainAfter true c code sat settled).gain = c.gain + 1)
    ∧ (sat = false → code.natAbs * 10 < 9 * 8388608 → ¬(code.natAbs * 10 < 4 * 8388608 ∧ settled = true ∧ c.lowRun = 1) →
        (gainAfter true c code sat settled).gain = c.gain)

/-- In OFF, RESET, BOOT and THERMAL_OFF no block runs: an event of a block changes nothing but the time (R547). -/
def Obligations.NothingRunsWhileDown : Prop :=
  ∀ (s : State) (dt : Nat), s.holdUp = false →
    (∀ dir enc, exec (.furrowBoundary dt dir enc) s = .next (endStep dt s (s.advance dt)))
    ∧ (∀ slow enc underruns bad seeds, exec (.cellDeclaration dt slow enc underruns bad seeds) s = .next (endStep dt s (s.advance dt)))
    ∧ (∀ str mv tbl, exec (.shotDecision dt str mv tbl) s = .next (endStep dt s (s.advance dt)))
    ∧ (∀ str err, exec (.shotFire dt str err) s = .next (endStep dt s (s.advance dt)))
    ∧ (∀ str ps, exec (.fireSkew dt str ps) s = .next (endStep dt s (s.advance dt)))
    ∧ (∀ str drop q clip duty, exec (.shotJudgement dt str drop q clip duty) s = .next (endStep dt s (s.advance dt)))
    ∧ (∀ str, exec (.resOvervolt dt str) s = .next (endStep dt s (s.advance dt)))
    ∧ (∀ str mv ilim, exec (.resRegulation dt str mv ilim) s = .next (endStep dt s (s.advance dt)))
    ∧ (∀ str, exec (.gateStuck dt str) s = .next (endStep dt s (s.advance dt)))
    ∧ (∀ str, exec (.stringUnverified dt str) s = .next (endStep dt s (s.advance dt)))
    ∧ (∀ str, exec (.noLight dt str) s = .next (endStep dt s (s.advance dt)))
    ∧ exec (.satbusRefresh dt) s = .next (endStep dt s (s.advance dt))
    ∧ (∀ ok lastGood, exec (.satbusEchoCheck dt ok lastGood) s = .next (endStep dt s (s.advance dt)))
    ∧ (∀ peak dac halves, exec (.fastAxisLock dt peak dac halves) s = .next (endStep dt s (s.advance dt)))
    ∧ (∀ m, exec (.lossOfLock dt m) s = .next (endStep dt s (s.advance dt)))
    ∧ exec (.acquisitionTimeout dt) s = .next (endStep dt s (s.advance dt))
    ∧ exec (.shotSyncEdge dt) s = .next (endStep dt s (s.advance dt))
    ∧ exec (.shotSyncLost dt) s = .next (endStep dt s (s.advance dt))
    ∧ (∀ err, exec (.slowAxisError dt err) s = .next (endStep dt s (s.advance dt)))
    ∧ (∀ ch q peak code codeB lowAt, exec (.photonEvent dt ch q peak code codeB lowAt) s = .next (endStep dt s (s.advance dt)))
    ∧ (∀ slice, exec (.holdoffEnd dt slice) s = .next (endStep dt s (s.advance dt)))
    ∧ (∀ ch on, exec (.inputOverload dt ch on) s = .next (endStep dt s (s.advance dt)))
    ∧ (∀ slice, exec (.candidateArrival dt slice) s = .next (endStep dt s (s.advance dt)))
    ∧ (∀ ch, exec (.pairDelivery dt ch) s = .next (endStep dt s (s.advance dt)))
    ∧ (∀ ch, exec (.sheafOpen dt ch) s = .next (endStep dt s (s.advance dt)))
    ∧ (∀ ch, exec (.ambientEstimate dt ch) s = .next (endStep dt s (s.advance dt)))
    ∧ (∀ ch, exec (.sheafProcessingStart dt ch) s = .next (endStep dt s (s.advance dt)))
    ∧ (∀ ch, exec (.processingTimeOut dt ch) s = .next (endStep dt s (s.advance dt)))
    ∧ (∀ ch, exec (.sheafProcessingEnd dt ch) s = .next (endStep dt s (s.advance dt)))
    ∧ (∀ ch full, exec (.sheafRecordRelease dt ch full) s = .next (endStep dt s (s.advance dt)))
    ∧ exec (.alertPinRelease dt) s = .next (endStep dt s (s.advance dt))
    ∧ (∀ gw low, exec (.captureWindowClose dt gw low) s = .next (endStep dt s (s.advance dt)))
    ∧ (∀ gw smp, exec (.captureReadoutDone dt gw smp) s = .next (endStep dt s (s.advance dt)))
    ∧ (∀ gw, exec (.gainSaturationSwitch dt gw) s = .next (endStep dt s (s.advance dt)))
    ∧ (∀ gw cond, exec (.gainRangeStep dt gw cond) s = .next (endStep dt s (s.advance dt)))
    ∧ (∀ gw meas, exec (.sliceRotation dt gw meas) s = .next (endStep dt s (s.advance dt)))
    ∧ (∀ gw meas, exec (.sliceSwap dt gw meas) s = .next (endStep dt s (s.advance dt)))
    ∧ (∀ gw, exec (.calgap dt gw) s = .next (endStep dt s (s.advance dt)))
    ∧ (∀ gw, exec (.gleanerStartComplete dt gw) s = .next (endStep dt s (s.advance dt)))
    ∧ (∀ gw, exec (.recoveryComplete dt gw) s = .next (endStep dt s (s.advance dt)))
    ∧ (∀ pos inSpare, exec (.engineUe dt pos inSpare) s = .next (endStep dt s (s.advance dt)))
    ∧ (∀ pos, exec (.engineTrap dt pos) s = .next (endStep dt s (s.advance dt)))
    ∧ (∀ pos inSpare, exec (.lsCe dt pos inSpare) s = .next (endStep dt s (s.advance dt)))
    ∧ (∀ pos ok, exec (.spareSelfTestDone dt pos ok) s = .next (endStep dt s (s.advance dt)))
    ∧ (∀ pos mismatch held, exec (.compareGate dt pos mismatch held) s = .next (endStep dt s (s.advance dt)))
    ∧ (∀ pos spareOnly, exec (.gateTimeout dt pos spareOnly) s = .next (endStep dt s (s.advance dt)))
    ∧ (∀ eng ok, exec (.offlineTestDone dt eng ok) s = .next (endStep dt s (s.advance dt)))
    ∧ (∀ bank cause hit, exec (.bankSubst dt bank cause hit) s = .next (endStep dt s (s.advance dt)))
    ∧ (∀ hit, exec (.bankCopyDone dt hit) s = .next (endStep dt s (s.advance dt)))
    ∧ exec (.repairLogWrite dt) s = .next (endStep dt s (s.advance dt))
    ∧ (∀ ch, exec (.channelInputFail dt ch) s = .next (endStep dt s (s.advance dt)))
    ∧ (∀ level, exec (.detHvPg dt level) s = .next (endStep dt s (s.advance dt)))
    ∧ exec (.calibrationSchedule dt) s = .next (endStep dt s (s.advance dt))
    ∧ (∀ stripe pass meas, exec (.calibrationPassEnd dt stripe pass meas) s = .next (endStep dt s (s.advance dt)))
    ∧ (∀ flashOk, exec (.calStoreWrite dt flashOk) s = .next (endStep dt s (s.advance dt)))
    ∧ (∀ margins, exec (.replan dt margins) s = .next (endStep dt s (s.advance dt)))
    ∧ (∀ heights, exec (.eyeMarginRead dt heights) s = .next (endStep dt s (s.advance dt)))
    ∧ exec (.errorHandling dt) s = .next (endStep dt s (s.advance dt))
    ∧ exec (.autoRecovery dt) s = .next (endStep dt s (s.advance dt))
    ∧ exec (.rangingEntry dt) s = .next (endStep dt s (s.advance dt))
    ∧ exec (.rangingWaitTimeout dt) s = .next (endStep dt s (s.advance dt))
    ∧ exec (.handoverDrainEnd dt) s = .next (endStep dt s (s.advance dt))
    ∧ exec (.standbySelfTestFail dt) s = .next (endStep dt s (s.advance dt))
    ∧ (∀ pair, exec (.lockstep dt pair) s = .next (endStep dt s (s.advance dt)))
    ∧ exec (.standbyReady dt) s = .next (endStep dt s (s.advance dt))
    ∧ (∀ pair ok, exec (.pairReloadDone dt pair ok) s = .next (endStep dt s (s.advance dt)))
    ∧ (∀ port rx, exec (.frameReceived dt port rx) s = .next (endStep dt s (s.advance dt)))
    ∧ (∀ port, exec (.frameBoundaryTransmit dt port) s = .next (endStep dt s (s.advance dt)))
    ∧ (∀ port, exec (.retransmitTimeout dt port) s = .next (endStep dt s (s.advance dt)))
    ∧ (∀ port, exec (.hello dt port) s = .next (endStep dt s (s.advance dt)))
    ∧ (∀ port, exec (.helloTimer dt port) s = .next (endStep dt s (s.advance dt)))
    ∧ (∀ port, exec (.topo dt port) s = .next (endStep dt s (s.advance dt)))
    ∧ exec (.topoTimer dt) s = .next (endStep dt s (s.advance dt))
    ∧ exec (.topoTimeout dt) s = .next (endStep dt s (s.advance dt))
    ∧ (∀ port, exec (.join dt port) s = .next (endStep dt s (s.advance dt)))
    ∧ exec (.joinTimer dt) s = .next (endStep dt s (s.advance dt))
    ∧ (∀ port, exec (.admitMsg dt port) s = .next (endStep dt s (s.advance dt)))
    ∧ (∀ id, exec (.memberForget dt id) s = .next (endStep dt s (s.advance dt)))
    ∧ (∀ port, exec (.plan dt port) s = .next (endStep dt s (s.advance dt)))
    ∧ (∀ port, exec (.sync dt port) s = .next (endStep dt s (s.advance dt)))
    ∧ (∀ port, exec (.syncTimer dt port) s = .next (endStep dt s (s.advance dt)))
    ∧ (∀ port, exec (.dreq dt port) s = .next (endStep dt s (s.advance dt)))
    ∧ (∀ port, exec (.dresp dt port) s = .next (endStep dt s (s.advance dt)))
    ∧ (∀ port, exec (.lane dt port) s = .next (endStep dt s (s.advance dt)))
    ∧ (∀ port, exec (.breakMsg dt port) s = .next (endStep dt s (s.advance dt)))
    ∧ exec (.rerouteWaitEnd dt) s = .next (endStep dt s (s.advance dt))
    ∧ exec (.ringReturn dt) s = .next (endStep dt s (s.advance dt))
    ∧ (∀ l cdr silent, exec (.laneLoss dt l cdr silent) s = .next (endStep dt s (s.advance dt)))
    ∧ (∀ port sense, exec (.portLoss dt port sense) s = .next (endStep dt s (s.advance dt)))
    ∧ (∀ l took, exec (.relockAttempt dt l took) s = .next (endStep dt s (s.advance dt)))
    ∧ (∀ port, exec (.laneRejoin dt port) s = .next (endStep dt s (s.advance dt)))
    ∧ (∀ port, exec (.shedLevelChange dt port) s = .next (endStep dt s (s.advance dt)))
    ∧ (∀ port took, exec (.trainingStepTimeout dt port took) s = .next (endStep dt s (s.advance dt)))
    ∧ (∀ port m, exec (.trainingComplete dt port m) s = .next (endStep dt s (s.advance dt)))
    ∧ exec (.ppsEdge dt) s = .next (endStep dt s (s.advance dt))
    ∧ exec (.timePpsLost dt) s = .next (endStep dt s (s.advance dt))
    ∧ exec (.timeStale dt) s = .next (endStep dt s (s.advance dt))
    ∧ exec (.timeSlewEnd dt) s = .next (endStep dt s (s.advance dt))
    ∧ (∀ share fullFor, exec (.bqShareFull dt share fullFor) s = .next (endStep dt s (s.advance dt)))
    ∧ (∀ region ring n ce, exec (.ddrUe dt region ring n ce) s = .next (endStep dt s (s.advance dt)))
    ∧ exec (.recCommitTimer dt) s = .next (endStep dt s (s.advance dt))
    ∧ exec (.recCommit dt) s = .next (endStep dt s (s.advance dt))
    ∧ (∀ status, exec (.nvmeCompletion dt status) s = .next (endStep dt s (s.advance dt)))
    ∧ (∀ status, exec (.recFault dt status) s = .next (endStep dt s (s.advance dt)))
    ∧ (∀ warn temp, exec (.smartPoll dt warn temp) s = .next (endStep dt s (s.advance dt)))
    ∧ exec (.recGap dt) s = .next (endStep dt s (s.advance dt))
    ∧ (∀ sub, exec (.balerDestStall dt sub) s = .next (endStep dt s (s.advance dt)))
    ∧ exec (.boundaryTakenAtOnce dt) s = .next (endStep dt s (s.advance dt))
    ∧ exec (.timeSetPpsTimeout dt) s = .next (endStep dt s (s.advance dt))
    ∧ (∀ gw pos far, exec (.sliceMeanCheck dt gw pos far) s = .next (endStep dt s (s.advance dt)))
    ∧ (∀ ok, exec (.schedReload dt ok) s = .next (endStep dt s (s.advance dt)))
end

