-- ==== Sys2Proof/Laws/Memory.lean ====
section
/-! SUPPORT. Every operation on SCRATCH keeps its canonical form, so that equal memories are equal lists; and the local laws of a write. -/

namespace Sys2Proof.Machine

theorem Memory.wfFrom_weaken {lo hi : Option Nat} {m : List Host.Cell} (h : Memory.wfFrom hi m = true) (hl : ∀ a, (∀ x, hi = some x → x < a) → ∀ y, lo = some y → y < a) :
    Memory.wfFrom lo m = true := by
  cases m with
  | nil => rfl
  | cons p rest =>
    obtain ⟨a, b⟩ := p
    simp only [Memory.wfFrom, Bool.and_eq_true] at h ⊢
    refine ⟨⟨?_, h.1.2⟩, h.2⟩
    have h1 := h.1.1
    cases lo with
    | none => rfl
    | some y =>
      simp only [Option.all_some, decide_eq_true_eq]
      exact hl a (fun x hx => by subst hx; simpa using h1) y rfl

theorem Memory.wfFrom_write {lo : Option Nat} {m : List Host.Cell} (a : Nat) (b : Byte) (h : Memory.wfFrom lo m = true) (ha : ∀ y, lo = some y → y < a) :
    Memory.wfFrom lo (Memory.write a b m) = true := by
  induction m generalizing lo with
  | nil =>
    unfold Memory.write
    split
    · rfl
    · next hb =>
      simp only [Memory.wfFrom, Bool.and_true, Bool.and_eq_true, bne_iff_ne, ne_eq]
      refine ⟨?_, hb⟩
      cases lo with
      | none => rfl
      | some y => simpa using ha y rfl
  | cons p rest ih =>
    obtain ⟨i, c⟩ := p
    simp only [Memory.wfFrom, Bool.and_eq_true] at h
    have below : (lo.all fun l => decide (l < a)) = true := by
      cases lo with
      | none => rfl
      | some y => simpa using ha y rfl
    unfold Memory.write
    split
    · next hi =>
      subst hi
      split
      · refine Memory.wfFrom_weaken h.2 fun d hd y hy => ?_
        have := hd i rfl
        have h2 := ha y hy
        omega
      · next hb => simp only [Memory.wfFrom, Bool.and_eq_true, bne_iff_ne, ne_eq]; exact ⟨⟨h.1.1, hb⟩, h.2⟩
    · split
      · next hi hlt =>
        split
        · simp only [Memory.wfFrom, Bool.and_eq_true]; exact h
        · next hb =>
          simp only [Memory.wfFrom, Bool.and_eq_true, Option.all_some, decide_eq_true_eq, bne_iff_ne, ne_eq]
          exact ⟨⟨below, hb⟩, ⟨hlt, by simpa using h.1.2⟩, h.2⟩
      · next hi hge =>
        simp only [Memory.wfFrom, Bool.and_eq_true]
        exact ⟨h.1, ih h.2 fun y hy => by injection hy with hy; omega⟩

/-- A write of one byte keeps the canonical form. -/
theorem Memory.wf_write (m : List Host.Cell) (a : Nat) (b : Byte) (h : Memory.wf m = true) : Memory.wf (Memory.write a b m) = true :=
  Memory.wfFrom_write a b h fun _ hy => by cases hy

/-- A write of several bytes keeps the canonical form. -/
theorem Memory.wf_writeN (m : List Host.Cell) (a : Nat) (l : Bytes) (h : Memory.wf m = true) : Memory.wf (Memory.writeN m a l) = true := by
  induction l generalizing m a with
  | nil => exact h
  | cons b rest ih => exact ih _ _ (Memory.wf_write m a b h)

theorem Memory.wfFrom_cut {lo : Option Nat} {m : List Host.Cell} (n : Nat) (h : Memory.wfFrom lo m = true) : Memory.wfFrom lo (Memory.cut m n) = true := by
  induction m generalizing lo with
  | nil => rfl
  | cons p rest ih =>
    obtain ⟨a, b⟩ := p
    simp only [Memory.wfFrom, Bool.and_eq_true] at h
    unfold Memory.cut
    rw [List.filter_cons]
    split
    · simp only [Memory.wfFrom, Bool.and_eq_true]
      exact ⟨h.1, ih h.2⟩
    · refine Memory.wfFrom_weaken (ih h.2) fun d hd y hy => ?_
      have h1 := hd a rfl
      have h2 := h.1.1
      subst hy
      simp only [Option.all_some, decide_eq_true_eq] at h2
      omega

/-- Cutting a memory keeps the canonical form. -/
theorem Memory.wf_cut (m : List Host.Cell) (n : Nat) (h : Memory.wf m = true) : Memory.wf (Memory.cut m n) = true := Memory.wfFrom_cut n h

/-- SCRATCH after reset is in canonical form. -/
theorem Memory.wf_reset : Memory.wf State.reset.silo.scratch = true := rfl

end Sys2Proof.Machine
end

