-- ==== Sys2Proof/Laws/State.lean ====
section
/-! SUPPORT. What the plain updates of State change and what they leave: one lemma for each field and update. -/

namespace Sys2Proof.Machine

/-- A count changes the performance counters and the samples that are due, and nothing else. -/
theorem State.count_only (s : State) (i n : Nat) : ∃ c l, s.count i n = { s with priv := { s.priv with cnt := c, samplePend := l } } := by
  unfold State.count
  split
  · exact ⟨s.priv.cnt, s.priv.samplePend, rfl⟩
  · dsimp only
    split
    · exact ⟨_, _, rfl⟩
    · exact ⟨_, s.priv.samplePend, rfl⟩

/-- A count that may not take place, the same. -/
theorem State.countIf_only (s : State) (b : Bool) (i n : Nat) : ∃ c l, s.countIf b i n = { s with priv := { s.priv with cnt := c, samplePend := l } } := by
  cases b
  · exact ⟨s.priv.cnt, s.priv.samplePend, rfl⟩
  · exact s.count_only i n

/-! `State.count` -/
@[simp] theorem State.count_ident (s : State) (i n : Nat) : (s.count i n).ident = s.ident := by obtain ⟨_, _, h⟩ := s.count_only i n; rw [h]
@[simp] theorem State.count_link (s : State) (i n : Nat) : (s.count i n).link = s.link := by obtain ⟨_, _, h⟩ := s.count_only i n; rw [h]
@[simp] theorem State.count_seq (s : State) (i n : Nat) : (s.count i n).seq = s.seq := by obtain ⟨_, _, h⟩ := s.count_only i n; rw [h]
@[simp] theorem State.count_strs (s : State) (i n : Nat) : (s.count i n).strs = s.strs := by obtain ⟨_, _, h⟩ := s.count_only i n; rw [h]
@[simp] theorem State.count_satbus (s : State) (i n : Nat) : (s.count i n).satbus = s.satbus := by obtain ⟨_, _, h⟩ := s.count_only i n; rw [h]
@[simp] theorem State.count_steer (s : State) (i n : Nat) : (s.count i n).steer = s.steer := by obtain ⟨_, _, h⟩ := s.count_only i n; rw [h]
@[simp] theorem State.count_rx (s : State) (i n : Nat) : (s.count i n).rx = s.rx := by obtain ⟨_, _, h⟩ := s.count_only i n; rw [h]
@[simp] theorem State.count_thresh (s : State) (i n : Nat) : (s.count i n).thresh = s.thresh := by obtain ⟨_, _, h⟩ := s.count_only i n; rw [h]
@[simp] theorem State.count_gw (s : State) (i n : Nat) : (s.count i n).gw = s.gw := by obtain ⟨_, _, h⟩ := s.count_only i n; rw [h]
@[simp] theorem State.count_glq (s : State) (i n : Nat) : (s.count i n).glq = s.glq := by obtain ⟨_, _, h⟩ := s.count_only i n; rw [h]
@[simp] theorem State.count_repair (s : State) (i n : Nat) : (s.count i n).repair = s.repair := by obtain ⟨_, _, h⟩ := s.count_only i n; rw [h]
@[simp] theorem State.count_stream (s : State) (i n : Nat) : (s.count i n).stream = s.stream := by obtain ⟨_, _, h⟩ := s.count_only i n; rw [h]
@[simp] theorem State.count_cmds (s : State) (i n : Nat) : (s.count i n).cmds = s.cmds := by obtain ⟨_, _, h⟩ := s.count_only i n; rw [h]
@[simp] theorem State.count_srings (s : State) (i n : Nat) : (s.count i n).srings = s.srings := by obtain ⟨_, _, h⟩ := s.count_only i n; rw [h]
@[simp] theorem State.count_fn0 (s : State) (i n : Nat) : (s.count i n).fn0 = s.fn0 := by obtain ⟨_, _, h⟩ := s.count_only i n; rw [h]
@[simp] theorem State.count_fn1 (s : State) (i n : Nat) : (s.count i n).fn1 = s.fn1 := by obtain ⟨_, _, h⟩ := s.count_only i n; rw [h]
@[simp] theorem State.count_defer0 (s : State) (i n : Nat) : (s.count i n).defer0 = s.defer0 := by obtain ⟨_, _, h⟩ := s.count_only i n; rw [h]
@[simp] theorem State.count_defer1 (s : State) (i n : Nat) : (s.count i n).defer1 = s.defer1 := by obtain ⟨_, _, h⟩ := s.count_only i n; rw [h]
@[simp] theorem State.count_cyc (s : State) (i n : Nat) : (s.count i n).cyc = s.cyc := by obtain ⟨_, _, h⟩ := s.count_only i n; rw [h]
@[simp] theorem State.count_pf0 (s : State) (i n : Nat) : (s.count i n).pf0 = s.pf0 := by obtain ⟨_, _, h⟩ := s.count_only i n; rw [h]
@[simp] theorem State.count_sess (s : State) (i n : Nat) : (s.count i n).sess = s.sess := by obtain ⟨_, _, h⟩ := s.count_only i n; rw [h]
@[simp] theorem State.count_dev (s : State) (i n : Nat) : (s.count i n).dev = s.dev := by obtain ⟨_, _, h⟩ := s.count_only i n; rw [h]
@[simp] theorem State.count_pins (s : State) (i n : Nat) : (s.count i n).pins = s.pins := by obtain ⟨_, _, h⟩ := s.count_only i n; rw [h]
@[simp] theorem State.count_err (s : State) (i n : Nat) : (s.count i n).err = s.err := by obtain ⟨_, _, h⟩ := s.count_only i n; rw [h]
@[simp] theorem State.count_cfg (s : State) (i n : Nat) : (s.count i n).cfg = s.cfg := by obtain ⟨_, _, h⟩ := s.count_only i n; rw [h]
@[simp] theorem State.count_drover (s : State) (i n : Nat) : (s.count i n).drover = s.drover := by obtain ⟨_, _, h⟩ := s.count_only i n; rw [h]
@[simp] theorem State.count_time (s : State) (i n : Nat) : (s.count i n).time = s.time := by obtain ⟨_, _, h⟩ := s.count_only i n; rw [h]
@[simp] theorem State.count_silo (s : State) (i n : Nat) : (s.count i n).silo = s.silo := by obtain ⟨_, _, h⟩ := s.count_only i n; rw [h]
@[simp] theorem State.count_baler (s : State) (i n : Nat) : (s.count i n).baler = s.baler := by obtain ⟨_, _, h⟩ := s.count_only i n; rw [h]
@[simp] theorem State.count_recd (s : State) (i n : Nat) : (s.count i n).recd = s.recd := by obtain ⟨_, _, h⟩ := s.count_only i n; rw [h]
@[simp] theorem State.count_hk (s : State) (i n : Nat) : (s.count i n).hk = s.hk := by obtain ⟨_, _, h⟩ := s.count_only i n; rw [h]
@[simp] theorem State.count_cal (s : State) (i n : Nat) : (s.count i n).cal = s.cal := by obtain ⟨_, _, h⟩ := s.count_only i n; rw [h]
@[simp] theorem State.count_fw (s : State) (i n : Nat) : (s.count i n).fw = s.fw := by obtain ⟨_, _, h⟩ := s.count_only i n; rw [h]
@[simp] theorem State.count_flash (s : State) (i n : Nat) : (s.count i n).flash = s.flash := by obtain ⟨_, _, h⟩ := s.count_only i n; rw [h]
@[simp] theorem State.count_jtag (s : State) (i n : Nat) : (s.count i n).jtag = s.jtag := by obtain ⟨_, _, h⟩ := s.count_only i n; rw [h]
@[simp] theorem State.count_otp (s : State) (i n : Nat) : (s.count i n).otp = s.otp := by obtain ⟨_, _, h⟩ := s.count_only i n; rw [h]
@[simp] theorem State.count_power (s : State) (i n : Nat) : (s.count i n).power = s.power := by obtain ⟨_, _, h⟩ := s.count_only i n; rw [h]
@[simp] theorem State.count_now (s : State) (i n : Nat) : (s.count i n).now = s.now := by obtain ⟨_, _, h⟩ := s.count_only i n; rw [h]
@[simp] theorem State.count_free (s : State) (i n : Nat) : (s.count i n).free = s.free := by obtain ⟨_, _, h⟩ := s.count_only i n; rw [h]
@[simp] theorem State.count_out (s : State) (i n : Nat) : (s.count i n).out = s.out := by obtain ⟨_, _, h⟩ := s.count_only i n; rw [h]
@[simp] theorem State.count_pending (s : State) (i n : Nat) : (s.count i n).pending = s.pending := by obtain ⟨_, _, h⟩ := s.count_only i n; rw [h]

/-! `State.countIf` -/
@[simp] theorem State.countIf_ident (s : State) (b : Bool) (i n : Nat) : (s.countIf b i n).ident = s.ident := by cases b <;> simp [State.countIf]
@[simp] theorem State.countIf_link (s : State) (b : Bool) (i n : Nat) : (s.countIf b i n).link = s.link := by cases b <;> simp [State.countIf]
@[simp] theorem State.countIf_seq (s : State) (b : Bool) (i n : Nat) : (s.countIf b i n).seq = s.seq := by cases b <;> simp [State.countIf]
@[simp] theorem State.countIf_strs (s : State) (b : Bool) (i n : Nat) : (s.countIf b i n).strs = s.strs := by cases b <;> simp [State.countIf]
@[simp] theorem State.countIf_satbus (s : State) (b : Bool) (i n : Nat) : (s.countIf b i n).satbus = s.satbus := by cases b <;> simp [State.countIf]
@[simp] theorem State.countIf_steer (s : State) (b : Bool) (i n : Nat) : (s.countIf b i n).steer = s.steer := by cases b <;> simp [State.countIf]
@[simp] theorem State.countIf_rx (s : State) (b : Bool) (i n : Nat) : (s.countIf b i n).rx = s.rx := by cases b <;> simp [State.countIf]
@[simp] theorem State.countIf_thresh (s : State) (b : Bool) (i n : Nat) : (s.countIf b i n).thresh = s.thresh := by cases b <;> simp [State.countIf]
@[simp] theorem State.countIf_gw (s : State) (b : Bool) (i n : Nat) : (s.countIf b i n).gw = s.gw := by cases b <;> simp [State.countIf]
@[simp] theorem State.countIf_glq (s : State) (b : Bool) (i n : Nat) : (s.countIf b i n).glq = s.glq := by cases b <;> simp [State.countIf]
@[simp] theorem State.countIf_repair (s : State) (b : Bool) (i n : Nat) : (s.countIf b i n).repair = s.repair := by cases b <;> simp [State.countIf]
@[simp] theorem State.countIf_stream (s : State) (b : Bool) (i n : Nat) : (s.countIf b i n).stream = s.stream := by cases b <;> simp [State.countIf]
@[simp] theorem State.countIf_cmds (s : State) (b : Bool) (i n : Nat) : (s.countIf b i n).cmds = s.cmds := by cases b <;> simp [State.countIf]
@[simp] theorem State.countIf_srings (s : State) (b : Bool) (i n : Nat) : (s.countIf b i n).srings = s.srings := by cases b <;> simp [State.countIf]
@[simp] theorem State.countIf_fn0 (s : State) (b : Bool) (i n : Nat) : (s.countIf b i n).fn0 = s.fn0 := by cases b <;> simp [State.countIf]
@[simp] theorem State.countIf_fn1 (s : State) (b : Bool) (i n : Nat) : (s.countIf b i n).fn1 = s.fn1 := by cases b <;> simp [State.countIf]
@[simp] theorem State.countIf_defer0 (s : State) (b : Bool) (i n : Nat) : (s.countIf b i n).defer0 = s.defer0 := by cases b <;> simp [State.countIf]
@[simp] theorem State.countIf_defer1 (s : State) (b : Bool) (i n : Nat) : (s.countIf b i n).defer1 = s.defer1 := by cases b <;> simp [State.countIf]
@[simp] theorem State.countIf_cyc (s : State) (b : Bool) (i n : Nat) : (s.countIf b i n).cyc = s.cyc := by cases b <;> simp [State.countIf]
@[simp] theorem State.countIf_pf0 (s : State) (b : Bool) (i n : Nat) : (s.countIf b i n).pf0 = s.pf0 := by cases b <;> simp [State.countIf]
@[simp] theorem State.countIf_sess (s : State) (b : Bool) (i n : Nat) : (s.countIf b i n).sess = s.sess := by cases b <;> simp [State.countIf]
@[simp] theorem State.countIf_dev (s : State) (b : Bool) (i n : Nat) : (s.countIf b i n).dev = s.dev := by cases b <;> simp [State.countIf]
@[simp] theorem State.countIf_pins (s : State) (b : Bool) (i n : Nat) : (s.countIf b i n).pins = s.pins := by cases b <;> simp [State.countIf]
@[simp] theorem State.countIf_err (s : State) (b : Bool) (i n : Nat) : (s.countIf b i n).err = s.err := by cases b <;> simp [State.countIf]
@[simp] theorem State.countIf_cfg (s : State) (b : Bool) (i n : Nat) : (s.countIf b i n).cfg = s.cfg := by cases b <;> simp [State.countIf]
@[simp] theorem State.countIf_drover (s : State) (b : Bool) (i n : Nat) : (s.countIf b i n).drover = s.drover := by cases b <;> simp [State.countIf]
@[simp] theorem State.countIf_time (s : State) (b : Bool) (i n : Nat) : (s.countIf b i n).time = s.time := by cases b <;> simp [State.countIf]
@[simp] theorem State.countIf_silo (s : State) (b : Bool) (i n : Nat) : (s.countIf b i n).silo = s.silo := by cases b <;> simp [State.countIf]
@[simp] theorem State.countIf_baler (s : State) (b : Bool) (i n : Nat) : (s.countIf b i n).baler = s.baler := by cases b <;> simp [State.countIf]
@[simp] theorem State.countIf_recd (s : State) (b : Bool) (i n : Nat) : (s.countIf b i n).recd = s.recd := by cases b <;> simp [State.countIf]
@[simp] theorem State.countIf_hk (s : State) (b : Bool) (i n : Nat) : (s.countIf b i n).hk = s.hk := by cases b <;> simp [State.countIf]
@[simp] theorem State.countIf_cal (s : State) (b : Bool) (i n : Nat) : (s.countIf b i n).cal = s.cal := by cases b <;> simp [State.countIf]
@[simp] theorem State.countIf_fw (s : State) (b : Bool) (i n : Nat) : (s.countIf b i n).fw = s.fw := by cases b <;> simp [State.countIf]
@[simp] theorem State.countIf_flash (s : State) (b : Bool) (i n : Nat) : (s.countIf b i n).flash = s.flash := by cases b <;> simp [State.countIf]
@[simp] theorem State.countIf_jtag (s : State) (b : Bool) (i n : Nat) : (s.countIf b i n).jtag = s.jtag := by cases b <;> simp [State.countIf]
@[simp] theorem State.countIf_otp (s : State) (b : Bool) (i n : Nat) : (s.countIf b i n).otp = s.otp := by cases b <;> simp [State.countIf]
@[simp] theorem State.countIf_power (s : State) (b : Bool) (i n : Nat) : (s.countIf b i n).power = s.power := by cases b <;> simp [State.countIf]
@[simp] theorem State.countIf_now (s : State) (b : Bool) (i n : Nat) : (s.countIf b i n).now = s.now := by cases b <;> simp [State.countIf]
@[simp] theorem State.countIf_free (s : State) (b : Bool) (i n : Nat) : (s.countIf b i n).free = s.free := by cases b <;> simp [State.countIf]
@[simp] theorem State.countIf_out (s : State) (b : Bool) (i n : Nat) : (s.countIf b i n).out = s.out := by cases b <;> simp [State.countIf]
@[simp] theorem State.countIf_pending (s : State) (b : Bool) (i n : Nat) : (s.countIf b i n).pending = s.pending := by cases b <;> simp [State.countIf]

/-! `State.advance` -/
@[simp] theorem State.advance_ident (s : State) (dt : Nat) : (s.advance dt).ident = s.ident := by simp [State.advance]
@[simp] theorem State.advance_link (s : State) (dt : Nat) : (s.advance dt).link = s.link := by simp [State.advance]
@[simp] theorem State.advance_strs (s : State) (dt : Nat) : (s.advance dt).strs = s.strs := by simp [State.advance]
@[simp] theorem State.advance_satbus (s : State) (dt : Nat) : (s.advance dt).satbus = s.satbus := by simp [State.advance]
@[simp] theorem State.advance_steer (s : State) (dt : Nat) : (s.advance dt).steer = s.steer := by simp [State.advance]
@[simp] theorem State.advance_rx (s : State) (dt : Nat) : (s.advance dt).rx = s.rx := by simp [State.advance]
@[simp] theorem State.advance_thresh (s : State) (dt : Nat) : (s.advance dt).thresh = s.thresh := by simp [State.advance]
@[simp] theorem State.advance_gw (s : State) (dt : Nat) : (s.advance dt).gw = s.gw := by simp [State.advance]
@[simp] theorem State.advance_glq (s : State) (dt : Nat) : (s.advance dt).glq = s.glq := by simp [State.advance]
@[simp] theorem State.advance_repair (s : State) (dt : Nat) : (s.advance dt).repair = s.repair := by simp [State.advance]
@[simp] theorem State.advance_stream (s : State) (dt : Nat) : (s.advance dt).stream = s.stream := by simp [State.advance]
@[simp] theorem State.advance_cmds (s : State) (dt : Nat) : (s.advance dt).cmds = s.cmds := by simp [State.advance]
@[simp] theorem State.advance_srings (s : State) (dt : Nat) : (s.advance dt).srings = s.srings := by simp [State.advance]
@[simp] theorem State.advance_fn0 (s : State) (dt : Nat) : (s.advance dt).fn0 = s.fn0 := by simp [State.advance]
@[simp] theorem State.advance_fn1 (s : State) (dt : Nat) : (s.advance dt).fn1 = s.fn1 := by simp [State.advance]
@[simp] theorem State.advance_defer0 (s : State) (dt : Nat) : (s.advance dt).defer0 = s.defer0 := by simp [State.advance]
@[simp] theorem State.advance_defer1 (s : State) (dt : Nat) : (s.advance dt).defer1 = s.defer1 := by simp [State.advance]
@[simp] theorem State.advance_cyc (s : State) (dt : Nat) : (s.advance dt).cyc = s.cyc := by simp [State.advance]
@[simp] theorem State.advance_pf0 (s : State) (dt : Nat) : (s.advance dt).pf0 = s.pf0 := by simp [State.advance]
@[simp] theorem State.advance_sess (s : State) (dt : Nat) : (s.advance dt).sess = s.sess := by simp [State.advance]
@[simp] theorem State.advance_dev (s : State) (dt : Nat) : (s.advance dt).dev = s.dev := by simp [State.advance]
@[simp] theorem State.advance_pins (s : State) (dt : Nat) : (s.advance dt).pins = s.pins := by simp [State.advance]
@[simp] theorem State.advance_err (s : State) (dt : Nat) : (s.advance dt).err = s.err := by simp [State.advance]
@[simp] theorem State.advance_cfg (s : State) (dt : Nat) : (s.advance dt).cfg = s.cfg := by simp [State.advance]
@[simp] theorem State.advance_drover (s : State) (dt : Nat) : (s.advance dt).drover = s.drover := by simp [State.advance]
@[simp] theorem State.advance_silo (s : State) (dt : Nat) : (s.advance dt).silo = s.silo := by simp [State.advance]
@[simp] theorem State.advance_baler (s : State) (dt : Nat) : (s.advance dt).baler = s.baler := by simp [State.advance]
@[simp] theorem State.advance_recd (s : State) (dt : Nat) : (s.advance dt).recd = s.recd := by simp [State.advance]
@[simp] theorem State.advance_hk (s : State) (dt : Nat) : (s.advance dt).hk = s.hk := by simp [State.advance]
@[simp] theorem State.advance_fw (s : State) (dt : Nat) : (s.advance dt).fw = s.fw := by simp [State.advance]
@[simp] theorem State.advance_flash (s : State) (dt : Nat) : (s.advance dt).flash = s.flash := by simp [State.advance]
@[simp] theorem State.advance_jtag (s : State) (dt : Nat) : (s.advance dt).jtag = s.jtag := by simp [State.advance]
@[simp] theorem State.advance_otp (s : State) (dt : Nat) : (s.advance dt).otp = s.otp := by simp [State.advance]
@[simp] theorem State.advance_power (s : State) (dt : Nat) : (s.advance dt).power = s.power := by simp [State.advance]
@[simp] theorem State.advance_now (s : State) (dt : Nat) : (s.advance dt).now = s.now + dt := by simp [State.advance]
@[simp] theorem State.advance_free (s : State) (dt : Nat) : (s.advance dt).free = s.free := by simp [State.advance]
@[simp] theorem State.advance_out (s : State) (dt : Nat) : (s.advance dt).out = s.out := by simp [State.advance]
@[simp] theorem State.advance_pending (s : State) (dt : Nat) : (s.advance dt).pending = s.pending := by simp [State.advance]

/-! `State.mapStr` -/
@[simp] theorem State.mapStr_ident (s : State) (i : Nat) (f : StrState → StrState) : (s.mapStr i f).ident = s.ident := rfl
@[simp] theorem State.mapStr_link (s : State) (i : Nat) (f : StrState → StrState) : (s.mapStr i f).link = s.link := rfl
@[simp] theorem State.mapStr_seq (s : State) (i : Nat) (f : StrState → StrState) : (s.mapStr i f).seq = s.seq := rfl
@[simp] theorem State.mapStr_strs (s : State) (i : Nat) (f : StrState → StrState) : (s.mapStr i f).strs = s.strs.upd i f := rfl
@[simp] theorem State.mapStr_satbus (s : State) (i : Nat) (f : StrState → StrState) : (s.mapStr i f).satbus = s.satbus := rfl
@[simp] theorem State.mapStr_steer (s : State) (i : Nat) (f : StrState → StrState) : (s.mapStr i f).steer = s.steer := rfl
@[simp] theorem State.mapStr_rx (s : State) (i : Nat) (f : StrState → StrState) : (s.mapStr i f).rx = s.rx := rfl
@[simp] theorem State.mapStr_thresh (s : State) (i : Nat) (f : StrState → StrState) : (s.mapStr i f).thresh = s.thresh := rfl
@[simp] theorem State.mapStr_gw (s : State) (i : Nat) (f : StrState → StrState) : (s.mapStr i f).gw = s.gw := rfl
@[simp] theorem State.mapStr_glq (s : State) (i : Nat) (f : StrState → StrState) : (s.mapStr i f).glq = s.glq := rfl
@[simp] theorem State.mapStr_repair (s : State) (i : Nat) (f : StrState → StrState) : (s.mapStr i f).repair = s.repair := rfl
@[simp] theorem State.mapStr_stream (s : State) (i : Nat) (f : StrState → StrState) : (s.mapStr i f).stream = s.stream := rfl
@[simp] theorem State.mapStr_cmds (s : State) (i : Nat) (f : StrState → StrState) : (s.mapStr i f).cmds = s.cmds := rfl
@[simp] theorem State.mapStr_srings (s : State) (i : Nat) (f : StrState → StrState) : (s.mapStr i f).srings = s.srings := rfl
@[simp] theorem State.mapStr_fn0 (s : State) (i : Nat) (f : StrState → StrState) : (s.mapStr i f).fn0 = s.fn0 := rfl
@[simp] theorem State.mapStr_fn1 (s : State) (i : Nat) (f : StrState → StrState) : (s.mapStr i f).fn1 = s.fn1 := rfl
@[simp] theorem State.mapStr_defer0 (s : State) (i : Nat) (f : StrState → StrState) : (s.mapStr i f).defer0 = s.defer0 := rfl
@[simp] theorem State.mapStr_defer1 (s : State) (i : Nat) (f : StrState → StrState) : (s.mapStr i f).defer1 = s.defer1 := rfl
@[simp] theorem State.mapStr_cyc (s : State) (i : Nat) (f : StrState → StrState) : (s.mapStr i f).cyc = s.cyc := rfl
@[simp] theorem State.mapStr_pf0 (s : State) (i : Nat) (f : StrState → StrState) : (s.mapStr i f).pf0 = s.pf0 := rfl
@[simp] theorem State.mapStr_priv (s : State) (i : Nat) (f : StrState → StrState) : (s.mapStr i f).priv = s.priv := rfl
@[simp] theorem State.mapStr_sess (s : State) (i : Nat) (f : StrState → StrState) : (s.mapStr i f).sess = s.sess := rfl
@[simp] theorem State.mapStr_dev (s : State) (i : Nat) (f : StrState → StrState) : (s.mapStr i f).dev = s.dev := rfl
@[simp] theorem State.mapStr_pins (s : State) (i : Nat) (f : StrState → StrState) : (s.mapStr i f).pins = s.pins := rfl
@[simp] theorem State.mapStr_err (s : State) (i : Nat) (f : StrState → StrState) : (s.mapStr i f).err = s.err := rfl
@[simp] theorem State.mapStr_cfg (s : State) (i : Nat) (f : StrState → StrState) : (s.mapStr i f).cfg = s.cfg := rfl
@[simp] theorem State.mapStr_drover (s : State) (i : Nat) (f : StrState → StrState) : (s.mapStr i f).drover = s.drover := rfl
@[simp] theorem State.mapStr_time (s : State) (i : Nat) (f : StrState → StrState) : (s.mapStr i f).time = s.time := rfl
@[simp] theorem State.mapStr_silo (s : State) (i : Nat) (f : StrState → StrState) : (s.mapStr i f).silo = s.silo := rfl
@[simp] theorem State.mapStr_baler (s : State) (i : Nat) (f : StrState → StrState) : (s.mapStr i f).baler = s.baler := rfl
@[simp] theorem State.mapStr_recd (s : State) (i : Nat) (f : StrState → StrState) : (s.mapStr i f).recd = s.recd := rfl
@[simp] theorem State.mapStr_hk (s : State) (i : Nat) (f : StrState → StrState) : (s.mapStr i f).hk = s.hk := rfl
@[simp] theorem State.mapStr_cal (s : State) (i : Nat) (f : StrState → StrState) : (s.mapStr i f).cal = s.cal := rfl
@[simp] theorem State.mapStr_fw (s : State) (i : Nat) (f : StrState → StrState) : (s.mapStr i f).fw = s.fw := rfl
@[simp] theorem State.mapStr_flash (s : State) (i : Nat) (f : StrState → StrState) : (s.mapStr i f).flash = s.flash := rfl
@[simp] theorem State.mapStr_jtag (s : State) (i : Nat) (f : StrState → StrState) : (s.mapStr i f).jtag = s.jtag := rfl
@[simp] theorem State.mapStr_otp (s : State) (i : Nat) (f : StrState → StrState) : (s.mapStr i f).otp = s.otp := rfl
@[simp] theorem State.mapStr_power (s : State) (i : Nat) (f : StrState → StrState) : (s.mapStr i f).power = s.power := rfl
@[simp] theorem State.mapStr_now (s : State) (i : Nat) (f : StrState → StrState) : (s.mapStr i f).now = s.now := rfl
@[simp] theorem State.mapStr_free (s : State) (i : Nat) (f : StrState → StrState) : (s.mapStr i f).free = s.free := rfl
@[simp] theorem State.mapStr_out (s : State) (i : Nat) (f : StrState → StrState) : (s.mapStr i f).out = s.out := rfl
@[simp] theorem State.mapStr_pending (s : State) (i : Nat) (f : StrState → StrState) : (s.mapStr i f).pending = s.pending := rfl

/-! `State.mapCh` -/
@[simp] theorem State.mapCh_ident (s : State) (c : Nat) (f : ChanState → ChanState) : (s.mapCh c f).ident = s.ident := rfl
@[simp] theorem State.mapCh_link (s : State) (c : Nat) (f : ChanState → ChanState) : (s.mapCh c f).link = s.link := rfl
@[simp] theorem State.mapCh_seq (s : State) (c : Nat) (f : ChanState → ChanState) : (s.mapCh c f).seq = s.seq := rfl
@[simp] theorem State.mapCh_strs (s : State) (c : Nat) (f : ChanState → ChanState) : (s.mapCh c f).strs = s.strs := rfl
@[simp] theorem State.mapCh_satbus (s : State) (c : Nat) (f : ChanState → ChanState) : (s.mapCh c f).satbus = s.satbus := rfl
@[simp] theorem State.mapCh_steer (s : State) (c : Nat) (f : ChanState → ChanState) : (s.mapCh c f).steer = s.steer := rfl
@[simp] theorem State.mapCh_thresh (s : State) (c : Nat) (f : ChanState → ChanState) : (s.mapCh c f).thresh = s.thresh := rfl
@[simp] theorem State.mapCh_gw (s : State) (c : Nat) (f : ChanState → ChanState) : (s.mapCh c f).gw = s.gw := rfl
@[simp] theorem State.mapCh_glq (s : State) (c : Nat) (f : ChanState → ChanState) : (s.mapCh c f).glq = s.glq := rfl
@[simp] theorem State.mapCh_repair (s : State) (c : Nat) (f : ChanState → ChanState) : (s.mapCh c f).repair = s.repair := rfl
@[simp] theorem State.mapCh_stream (s : State) (c : Nat) (f : ChanState → ChanState) : (s.mapCh c f).stream = s.stream := rfl
@[simp] theorem State.mapCh_cmds (s : State) (c : Nat) (f : ChanState → ChanState) : (s.mapCh c f).cmds = s.cmds := rfl
@[simp] theorem State.mapCh_srings (s : State) (c : Nat) (f : ChanState → ChanState) : (s.mapCh c f).srings = s.srings := rfl
@[simp] theorem State.mapCh_fn0 (s : State) (c : Nat) (f : ChanState → ChanState) : (s.mapCh c f).fn0 = s.fn0 := rfl
@[simp] theorem State.mapCh_fn1 (s : State) (c : Nat) (f : ChanState → ChanState) : (s.mapCh c f).fn1 = s.fn1 := rfl
@[simp] theorem State.mapCh_defer0 (s : State) (c : Nat) (f : ChanState → ChanState) : (s.mapCh c f).defer0 = s.defer0 := rfl
@[simp] theorem State.mapCh_defer1 (s : State) (c : Nat) (f : ChanState → ChanState) : (s.mapCh c f).defer1 = s.defer1 := rfl
@[simp] theorem State.mapCh_cyc (s : State) (c : Nat) (f : ChanState → ChanState) : (s.mapCh c f).cyc = s.cyc := rfl
@[simp] theorem State.mapCh_pf0 (s : State) (c : Nat) (f : ChanState → ChanState) : (s.mapCh c f).pf0 = s.pf0 := rfl
@[simp] theorem State.mapCh_priv (s : State) (c : Nat) (f : ChanState → ChanState) : (s.mapCh c f).priv = s.priv := rfl
@[simp] theorem State.mapCh_sess (s : State) (c : Nat) (f : ChanState → ChanState) : (s.mapCh c f).sess = s.sess := rfl
@[simp] theorem State.mapCh_dev (s : State) (c : Nat) (f : ChanState → ChanState) : (s.mapCh c f).dev = s.dev := rfl
@[simp] theorem State.mapCh_pins (s : State) (c : Nat) (f : ChanState → ChanState) : (s.mapCh c f).pins = s.pins := rfl
@[simp] theorem State.mapCh_err (s : State) (c : Nat) (f : ChanState → ChanState) : (s.mapCh c f).err = s.err := rfl
@[simp] theorem State.mapCh_cfg (s : State) (c : Nat) (f : ChanState → ChanState) : (s.mapCh c f).cfg = s.cfg := rfl
@[simp] theorem State.mapCh_drover (s : State) (c : Nat) (f : ChanState → ChanState) : (s.mapCh c f).drover = s.drover := rfl
@[simp] theorem State.mapCh_time (s : State) (c : Nat) (f : ChanState → ChanState) : (s.mapCh c f).time = s.time := rfl
@[simp] theorem State.mapCh_silo (s : State) (c : Nat) (f : ChanState → ChanState) : (s.mapCh c f).silo = s.silo := rfl
@[simp] theorem State.mapCh_baler (s : State) (c : Nat) (f : ChanState → ChanState) : (s.mapCh c f).baler = s.baler := rfl
@[simp] theorem State.mapCh_recd (s : State) (c : Nat) (f : ChanState → ChanState) : (s.mapCh c f).recd = s.recd := rfl
@[simp] theorem State.mapCh_hk (s : State) (c : Nat) (f : ChanState → ChanState) : (s.mapCh c f).hk = s.hk := rfl
@[simp] theorem State.mapCh_cal (s : State) (c : Nat) (f : ChanState → ChanState) : (s.mapCh c f).cal = s.cal := rfl
@[simp] theorem State.mapCh_fw (s : State) (c : Nat) (f : ChanState → ChanState) : (s.mapCh c f).fw = s.fw := rfl
@[simp] theorem State.mapCh_flash (s : State) (c : Nat) (f : ChanState → ChanState) : (s.mapCh c f).flash = s.flash := rfl
@[simp] theorem State.mapCh_jtag (s : State) (c : Nat) (f : ChanState → ChanState) : (s.mapCh c f).jtag = s.jtag := rfl
@[simp] theorem State.mapCh_otp (s : State) (c : Nat) (f : ChanState → ChanState) : (s.mapCh c f).otp = s.otp := rfl
@[simp] theorem State.mapCh_power (s : State) (c : Nat) (f : ChanState → ChanState) : (s.mapCh c f).power = s.power := rfl
@[simp] theorem State.mapCh_now (s : State) (c : Nat) (f : ChanState → ChanState) : (s.mapCh c f).now = s.now := rfl
@[simp] theorem State.mapCh_free (s : State) (c : Nat) (f : ChanState → ChanState) : (s.mapCh c f).free = s.free := rfl
@[simp] theorem State.mapCh_out (s : State) (c : Nat) (f : ChanState → ChanState) : (s.mapCh c f).out = s.out := rfl
@[simp] theorem State.mapCh_pending (s : State) (c : Nat) (f : ChanState → ChanState) : (s.mapCh c f).pending = s.pending := rfl

/-! `State.mapGw` -/
@[simp] theorem State.mapGw_ident (s : State) (a : Nat) (f : GwState → GwState) : (s.mapGw a f).ident = s.ident := rfl
@[simp] theorem State.mapGw_link (s : State) (a : Nat) (f : GwState → GwState) : (s.mapGw a f).link = s.link := rfl
@[simp] theorem State.mapGw_seq (s : State) (a : Nat) (f : GwState → GwState) : (s.mapGw a f).seq = s.seq := rfl
@[simp] theorem State.mapGw_strs (s : State) (a : Nat) (f : GwState → GwState) : (s.mapGw a f).strs = s.strs := rfl
@[simp] theorem State.mapGw_satbus (s : State) (a : Nat) (f : GwState → GwState) : (s.mapGw a f).satbus = s.satbus := rfl
@[simp] theorem State.mapGw_steer (s : State) (a : Nat) (f : GwState → GwState) : (s.mapGw a f).steer = s.steer := rfl
@[simp] theorem State.mapGw_rx (s : State) (a : Nat) (f : GwState → GwState) : (s.mapGw a f).rx = s.rx := rfl
@[simp] theorem State.mapGw_thresh (s : State) (a : Nat) (f : GwState → GwState) : (s.mapGw a f).thresh = s.thresh := rfl
@[simp] theorem State.mapGw_gw (s : State) (a : Nat) (f : GwState → GwState) : (s.mapGw a f).gw = s.gw.upd a f := rfl
@[simp] theorem State.mapGw_glq (s : State) (a : Nat) (f : GwState → GwState) : (s.mapGw a f).glq = s.glq := rfl
@[simp] theorem State.mapGw_repair (s : State) (a : Nat) (f : GwState → GwState) : (s.mapGw a f).repair = s.repair := rfl
@[simp] theorem State.mapGw_stream (s : State) (a : Nat) (f : GwState → GwState) : (s.mapGw a f).stream = s.stream := rfl
@[simp] theorem State.mapGw_cmds (s : State) (a : Nat) (f : GwState → GwState) : (s.mapGw a f).cmds = s.cmds := rfl
@[simp] theorem State.mapGw_srings (s : State) (a : Nat) (f : GwState → GwState) : (s.mapGw a f).srings = s.srings := rfl
@[simp] theorem State.mapGw_fn0 (s : State) (a : Nat) (f : GwState → GwState) : (s.mapGw a f).fn0 = s.fn0 := rfl
@[simp] theorem State.mapGw_fn1 (s : State) (a : Nat) (f : GwState → GwState) : (s.mapGw a f).fn1 = s.fn1 := rfl
@[simp] theorem State.mapGw_defer0 (s : State) (a : Nat) (f : GwState → GwState) : (s.mapGw a f).defer0 = s.defer0 := rfl
@[simp] theorem State.mapGw_defer1 (s : State) (a : Nat) (f : GwState → GwState) : (s.mapGw a f).defer1 = s.defer1 := rfl
@[simp] theorem State.mapGw_cyc (s : State) (a : Nat) (f : GwState → GwState) : (s.mapGw a f).cyc = s.cyc := rfl
@[simp] theorem State.mapGw_pf0 (s : State) (a : Nat) (f : GwState → GwState) : (s.mapGw a f).pf0 = s.pf0 := rfl
@[simp] theorem State.mapGw_priv (s : State) (a : Nat) (f : GwState → GwState) : (s.mapGw a f).priv = s.priv := rfl
@[simp] theorem State.mapGw_sess (s : State) (a : Nat) (f : GwState → GwState) : (s.mapGw a f).sess = s.sess := rfl
@[simp] theorem State.mapGw_dev (s : State) (a : Nat) (f : GwState → GwState) : (s.mapGw a f).dev = s.dev := rfl
@[simp] theorem State.mapGw_pins (s : State) (a : Nat) (f : GwState → GwState) : (s.mapGw a f).pins = s.pins := rfl
@[simp] theorem State.mapGw_err (s : State) (a : Nat) (f : GwState → GwState) : (s.mapGw a f).err = s.err := rfl
@[simp] theorem State.mapGw_cfg (s : State) (a : Nat) (f : GwState → GwState) : (s.mapGw a f).cfg = s.cfg := rfl
@[simp] theorem State.mapGw_drover (s : State) (a : Nat) (f : GwState → GwState) : (s.mapGw a f).drover = s.drover := rfl
@[simp] theorem State.mapGw_time (s : State) (a : Nat) (f : GwState → GwState) : (s.mapGw a f).time = s.time := rfl
@[simp] theorem State.mapGw_silo (s : State) (a : Nat) (f : GwState → GwState) : (s.mapGw a f).silo = s.silo := rfl
@[simp] theorem State.mapGw_baler (s : State) (a : Nat) (f : GwState → GwState) : (s.mapGw a f).baler = s.baler := rfl
@[simp] theorem State.mapGw_recd (s : State) (a : Nat) (f : GwState → GwState) : (s.mapGw a f).recd = s.recd := rfl
@[simp] theorem State.mapGw_hk (s : State) (a : Nat) (f : GwState → GwState) : (s.mapGw a f).hk = s.hk := rfl
@[simp] theorem State.mapGw_cal (s : State) (a : Nat) (f : GwState → GwState) : (s.mapGw a f).cal = s.cal := rfl
@[simp] theorem State.mapGw_fw (s : State) (a : Nat) (f : GwState → GwState) : (s.mapGw a f).fw = s.fw := rfl
@[simp] theorem State.mapGw_flash (s : State) (a : Nat) (f : GwState → GwState) : (s.mapGw a f).flash = s.flash := rfl
@[simp] theorem State.mapGw_jtag (s : State) (a : Nat) (f : GwState → GwState) : (s.mapGw a f).jtag = s.jtag := rfl
@[simp] theorem State.mapGw_otp (s : State) (a : Nat) (f : GwState → GwState) : (s.mapGw a f).otp = s.otp := rfl
@[simp] theorem State.mapGw_power (s : State) (a : Nat) (f : GwState → GwState) : (s.mapGw a f).power = s.power := rfl
@[simp] theorem State.mapGw_now (s : State) (a : Nat) (f : GwState → GwState) : (s.mapGw a f).now = s.now := rfl
@[simp] theorem State.mapGw_free (s : State) (a : Nat) (f : GwState → GwState) : (s.mapGw a f).free = s.free := rfl
@[simp] theorem State.mapGw_out (s : State) (a : Nat) (f : GwState → GwState) : (s.mapGw a f).out = s.out := rfl
@[simp] theorem State.mapGw_pending (s : State) (a : Nat) (f : GwState → GwState) : (s.mapGw a f).pending = s.pending := rfl

/-! `State.mapGroup` -/
@[simp] theorem State.mapGroup_ident (s : State) (g : Nat) (f : BiasGroup → BiasGroup) : (s.mapGroup g f).ident = s.ident := rfl
@[simp] theorem State.mapGroup_link (s : State) (g : Nat) (f : BiasGroup → BiasGroup) : (s.mapGroup g f).link = s.link := rfl
@[simp] theorem State.mapGroup_seq (s : State) (g : Nat) (f : BiasGroup → BiasGroup) : (s.mapGroup g f).seq = s.seq := rfl
@[simp] theorem State.mapGroup_strs (s : State) (g : Nat) (f : BiasGroup → BiasGroup) : (s.mapGroup g f).strs = s.strs := rfl
@[simp] theorem State.mapGroup_satbus (s : State) (g : Nat) (f : BiasGroup → BiasGroup) : (s.mapGroup g f).satbus = s.satbus := rfl
@[simp] theorem State.mapGroup_steer (s : State) (g : Nat) (f : BiasGroup → BiasGroup) : (s.mapGroup g f).steer = s.steer := rfl
@[simp] theorem State.mapGroup_thresh (s : State) (g : Nat) (f : BiasGroup → BiasGroup) : (s.mapGroup g f).thresh = s.thresh := rfl
@[simp] theorem State.mapGroup_gw (s : State) (g : Nat) (f : BiasGroup → BiasGroup) : (s.mapGroup g f).gw = s.gw := rfl
@[simp] theorem State.mapGroup_glq (s : State) (g : Nat) (f : BiasGroup → BiasGroup) : (s.mapGroup g f).glq = s.glq := rfl
@[simp] theorem State.mapGroup_repair (s : State) (g : Nat) (f : BiasGroup → BiasGroup) : (s.mapGroup g f).repair = s.repair := rfl
@[simp] theorem State.mapGroup_stream (s : State) (g : Nat) (f : BiasGroup → BiasGroup) : (s.mapGroup g f).stream = s.stream := rfl
@[simp] theorem State.mapGroup_cmds (s : State) (g : Nat) (f : BiasGroup → BiasGroup) : (s.mapGroup g f).cmds = s.cmds := rfl
@[simp] theorem State.mapGroup_srings (s : State) (g : Nat) (f : BiasGroup → BiasGroup) : (s.mapGroup g f).srings = s.srings := rfl
@[simp] theorem State.mapGroup_fn0 (s : State) (g : Nat) (f : BiasGroup → BiasGroup) : (s.mapGroup g f).fn0 = s.fn0 := rfl
@[simp] theorem State.mapGroup_fn1 (s : State) (g : Nat) (f : BiasGroup → BiasGroup) : (s.mapGroup g f).fn1 = s.fn1 := rfl
@[simp] theorem State.mapGroup_defer0 (s : State) (g : Nat) (f : BiasGroup → BiasGroup) : (s.mapGroup g f).defer0 = s.defer0 := rfl
@[simp] theorem State.mapGroup_defer1 (s : State) (g : Nat) (f : BiasGroup → BiasGroup) : (s.mapGroup g f).defer1 = s.defer1 := rfl
@[simp] theorem State.mapGroup_cyc (s : State) (g : Nat) (f : BiasGroup → BiasGroup) : (s.mapGroup g f).cyc = s.cyc := rfl
@[simp] theorem State.mapGroup_pf0 (s : State) (g : Nat) (f : BiasGroup → BiasGroup) : (s.mapGroup g f).pf0 = s.pf0 := rfl
@[simp] theorem State.mapGroup_priv (s : State) (g : Nat) (f : BiasGroup → BiasGroup) : (s.mapGroup g f).priv = s.priv := rfl
@[simp] theorem State.mapGroup_sess (s : State) (g : Nat) (f : BiasGroup → BiasGroup) : (s.mapGroup g f).sess = s.sess := rfl
@[simp] theorem State.mapGroup_dev (s : State) (g : Nat) (f : BiasGroup → BiasGroup) : (s.mapGroup g f).dev = s.dev := rfl
@[simp] theorem State.mapGroup_pins (s : State) (g : Nat) (f : BiasGroup → BiasGroup) : (s.mapGroup g f).pins = s.pins := rfl
@[simp] theorem State.mapGroup_err (s : State) (g : Nat) (f : BiasGroup → BiasGroup) : (s.mapGroup g f).err = s.err := rfl
@[simp] theorem State.mapGroup_cfg (s : State) (g : Nat) (f : BiasGroup → BiasGroup) : (s.mapGroup g f).cfg = s.cfg := rfl
@[simp] theorem State.mapGroup_drover (s : State) (g : Nat) (f : BiasGroup → BiasGroup) : (s.mapGroup g f).drover = s.drover := rfl
@[simp] theorem State.mapGroup_time (s : State) (g : Nat) (f : BiasGroup → BiasGroup) : (s.mapGroup g f).time = s.time := rfl
@[simp] theorem State.mapGroup_silo (s : State) (g : Nat) (f : BiasGroup → BiasGroup) : (s.mapGroup g f).silo = s.silo := rfl
@[simp] theorem State.mapGroup_baler (s : State) (g : Nat) (f : BiasGroup → BiasGroup) : (s.mapGroup g f).baler = s.baler := rfl
@[simp] theorem State.mapGroup_recd (s : State) (g : Nat) (f : BiasGroup → BiasGroup) : (s.mapGroup g f).recd = s.recd := rfl
@[simp] theorem State.mapGroup_hk (s : State) (g : Nat) (f : BiasGroup → BiasGroup) : (s.mapGroup g f).hk = s.hk := rfl
@[simp] theorem State.mapGroup_cal (s : State) (g : Nat) (f : BiasGroup → BiasGroup) : (s.mapGroup g f).cal = s.cal := rfl
@[simp] theorem State.mapGroup_fw (s : State) (g : Nat) (f : BiasGroup → BiasGroup) : (s.mapGroup g f).fw = s.fw := rfl
@[simp] theorem State.mapGroup_flash (s : State) (g : Nat) (f : BiasGroup → BiasGroup) : (s.mapGroup g f).flash = s.flash := rfl
@[simp] theorem State.mapGroup_jtag (s : State) (g : Nat) (f : BiasGroup → BiasGroup) : (s.mapGroup g f).jtag = s.jtag := rfl
@[simp] theorem State.mapGroup_otp (s : State) (g : Nat) (f : BiasGroup → BiasGroup) : (s.mapGroup g f).otp = s.otp := rfl
@[simp] theorem State.mapGroup_power (s : State) (g : Nat) (f : BiasGroup → BiasGroup) : (s.mapGroup g f).power = s.power := rfl
@[simp] theorem State.mapGroup_now (s : State) (g : Nat) (f : BiasGroup → BiasGroup) : (s.mapGroup g f).now = s.now := rfl
@[simp] theorem State.mapGroup_free (s : State) (g : Nat) (f : BiasGroup → BiasGroup) : (s.mapGroup g f).free = s.free := rfl
@[simp] theorem State.mapGroup_out (s : State) (g : Nat) (f : BiasGroup → BiasGroup) : (s.mapGroup g f).out = s.out := rfl
@[simp] theorem State.mapGroup_pending (s : State) (g : Nat) (f : BiasGroup → BiasGroup) : (s.mapGroup g f).pending = s.pending := rfl

/-! `State.mapRing` -/
@[simp] theorem State.mapRing_ident (s : State) (r : Nat) (f : StreamRing → StreamRing) : (s.mapRing r f).ident = s.ident := rfl
@[simp] theorem State.mapRing_link (s : State) (r : Nat) (f : StreamRing → StreamRing) : (s.mapRing r f).link = s.link := rfl
@[simp] theorem State.mapRing_seq (s : State) (r : Nat) (f : StreamRing → StreamRing) : (s.mapRing r f).seq = s.seq := rfl
@[simp] theorem State.mapRing_strs (s : State) (r : Nat) (f : StreamRing → StreamRing) : (s.mapRing r f).strs = s.strs := rfl
@[simp] theorem State.mapRing_satbus (s : State) (r : Nat) (f : StreamRing → StreamRing) : (s.mapRing r f).satbus = s.satbus := rfl
@[simp] theorem State.mapRing_steer (s : State) (r : Nat) (f : StreamRing → StreamRing) : (s.mapRing r f).steer = s.steer := rfl
@[simp] theorem State.mapRing_rx (s : State) (r : Nat) (f : StreamRing → StreamRing) : (s.mapRing r f).rx = s.rx := rfl
@[simp] theorem State.mapRing_thresh (s : State) (r : Nat) (f : StreamRing → StreamRing) : (s.mapRing r f).thresh = s.thresh := rfl
@[simp] theorem State.mapRing_gw (s : State) (r : Nat) (f : StreamRing → StreamRing) : (s.mapRing r f).gw = s.gw := rfl
@[simp] theorem State.mapRing_glq (s : State) (r : Nat) (f : StreamRing → StreamRing) : (s.mapRing r f).glq = s.glq := rfl
@[simp] theorem State.mapRing_repair (s : State) (r : Nat) (f : StreamRing → StreamRing) : (s.mapRing r f).repair = s.repair := rfl
@[simp] theorem State.mapRing_stream (s : State) (r : Nat) (f : StreamRing → StreamRing) : (s.mapRing r f).stream = s.stream := rfl
@[simp] theorem State.mapRing_cmds (s : State) (r : Nat) (f : StreamRing → StreamRing) : (s.mapRing r f).cmds = s.cmds := rfl
@[simp] theorem State.mapRing_srings (s : State) (r : Nat) (f : StreamRing → StreamRing) : (s.mapRing r f).srings = s.srings.upd r f := rfl
@[simp] theorem State.mapRing_fn0 (s : State) (r : Nat) (f : StreamRing → StreamRing) : (s.mapRing r f).fn0 = s.fn0 := rfl
@[simp] theorem State.mapRing_fn1 (s : State) (r : Nat) (f : StreamRing → StreamRing) : (s.mapRing r f).fn1 = s.fn1 := rfl
@[simp] theorem State.mapRing_defer0 (s : State) (r : Nat) (f : StreamRing → StreamRing) : (s.mapRing r f).defer0 = s.defer0 := rfl
@[simp] theorem State.mapRing_defer1 (s : State) (r : Nat) (f : StreamRing → StreamRing) : (s.mapRing r f).defer1 = s.defer1 := rfl
@[simp] theorem State.mapRing_cyc (s : State) (r : Nat) (f : StreamRing → StreamRing) : (s.mapRing r f).cyc = s.cyc := rfl
@[simp] theorem State.mapRing_pf0 (s : State) (r : Nat) (f : StreamRing → StreamRing) : (s.mapRing r f).pf0 = s.pf0 := rfl
@[simp] theorem State.mapRing_priv (s : State) (r : Nat) (f : StreamRing → StreamRing) : (s.mapRing r f).priv = s.priv := rfl
@[simp] theorem State.mapRing_sess (s : State) (r : Nat) (f : StreamRing → StreamRing) : (s.mapRing r f).sess = s.sess := rfl
@[simp] theorem State.mapRing_dev (s : State) (r : Nat) (f : StreamRing → StreamRing) : (s.mapRing r f).dev = s.dev := rfl
@[simp] theorem State.mapRing_pins (s : State) (r : Nat) (f : StreamRing → StreamRing) : (s.mapRing r f).pins = s.pins := rfl
@[simp] theorem State.mapRing_err (s : State) (r : Nat) (f : StreamRing → StreamRing) : (s.mapRing r f).err = s.err := rfl
@[simp] theorem State.mapRing_cfg (s : State) (r : Nat) (f : StreamRing → StreamRing) : (s.mapRing r f).cfg = s.cfg := rfl
@[simp] theorem State.mapRing_drover (s : State) (r : Nat) (f : StreamRing → StreamRing) : (s.mapRing r f).drover = s.drover := rfl
@[simp] theorem State.mapRing_time (s : State) (r : Nat) (f : StreamRing → StreamRing) : (s.mapRing r f).time = s.time := rfl
@[simp] theorem State.mapRing_silo (s : State) (r : Nat) (f : StreamRing → StreamRing) : (s.mapRing r f).silo = s.silo := rfl
@[simp] theorem State.mapRing_baler (s : State) (r : Nat) (f : StreamRing → StreamRing) : (s.mapRing r f).baler = s.baler := rfl
@[simp] theorem State.mapRing_recd (s : State) (r : Nat) (f : StreamRing → StreamRing) : (s.mapRing r f).recd = s.recd := rfl
@[simp] theorem State.mapRing_hk (s : State) (r : Nat) (f : StreamRing → StreamRing) : (s.mapRing r f).hk = s.hk := rfl
@[simp] theorem State.mapRing_cal (s : State) (r : Nat) (f : StreamRing → StreamRing) : (s.mapRing r f).cal = s.cal := rfl
@[simp] theorem State.mapRing_fw (s : State) (r : Nat) (f : StreamRing → StreamRing) : (s.mapRing r f).fw = s.fw := rfl
@[simp] theorem State.mapRing_flash (s : State) (r : Nat) (f : StreamRing → StreamRing) : (s.mapRing r f).flash = s.flash := rfl
@[simp] theorem State.mapRing_jtag (s : State) (r : Nat) (f : StreamRing → StreamRing) : (s.mapRing r f).jtag = s.jtag := rfl
@[simp] theorem State.mapRing_otp (s : State) (r : Nat) (f : StreamRing → StreamRing) : (s.mapRing r f).otp = s.otp := rfl
@[simp] theorem State.mapRing_power (s : State) (r : Nat) (f : StreamRing → StreamRing) : (s.mapRing r f).power = s.power := rfl
@[simp] theorem State.mapRing_now (s : State) (r : Nat) (f : StreamRing → StreamRing) : (s.mapRing r f).now = s.now := rfl
@[simp] theorem State.mapRing_free (s : State) (r : Nat) (f : StreamRing → StreamRing) : (s.mapRing r f).free = s.free := rfl
@[simp] theorem State.mapRing_out (s : State) (r : Nat) (f : StreamRing → StreamRing) : (s.mapRing r f).out = s.out := rfl
@[simp] theorem State.mapRing_pending (s : State) (r : Nat) (f : StreamRing → StreamRing) : (s.mapRing r f).pending = s.pending := rfl

/-! `State.mapPort` -/
@[simp] theorem State.mapPort_ident (s : State) (p : Nat) (f : Port → Port) : (s.mapPort p f).ident = s.ident := rfl
@[simp] theorem State.mapPort_link (s : State) (p : Nat) (f : Port → Port) : (s.mapPort p f).link = s.link := rfl
@[simp] theorem State.mapPort_seq (s : State) (p : Nat) (f : Port → Port) : (s.mapPort p f).seq = s.seq := rfl
@[simp] theorem State.mapPort_strs (s : State) (p : Nat) (f : Port → Port) : (s.mapPort p f).strs = s.strs := rfl
@[simp] theorem State.mapPort_satbus (s : State) (p : Nat) (f : Port → Port) : (s.mapPort p f).satbus = s.satbus := rfl
@[simp] theorem State.mapPort_steer (s : State) (p : Nat) (f : Port → Port) : (s.mapPort p f).steer = s.steer := rfl
@[simp] theorem State.mapPort_rx (s : State) (p : Nat) (f : Port → Port) : (s.mapPort p f).rx = s.rx := rfl
@[simp] theorem State.mapPort_thresh (s : State) (p : Nat) (f : Port → Port) : (s.mapPort p f).thresh = s.thresh := rfl
@[simp] theorem State.mapPort_gw (s : State) (p : Nat) (f : Port → Port) : (s.mapPort p f).gw = s.gw := rfl
@[simp] theorem State.mapPort_glq (s : State) (p : Nat) (f : Port → Port) : (s.mapPort p f).glq = s.glq := rfl
@[simp] theorem State.mapPort_repair (s : State) (p : Nat) (f : Port → Port) : (s.mapPort p f).repair = s.repair := rfl
@[simp] theorem State.mapPort_stream (s : State) (p : Nat) (f : Port → Port) : (s.mapPort p f).stream = s.stream := rfl
@[simp] theorem State.mapPort_cmds (s : State) (p : Nat) (f : Port → Port) : (s.mapPort p f).cmds = s.cmds := rfl
@[simp] theorem State.mapPort_srings (s : State) (p : Nat) (f : Port → Port) : (s.mapPort p f).srings = s.srings := rfl
@[simp] theorem State.mapPort_fn0 (s : State) (p : Nat) (f : Port → Port) : (s.mapPort p f).fn0 = s.fn0 := rfl
@[simp] theorem State.mapPort_fn1 (s : State) (p : Nat) (f : Port → Port) : (s.mapPort p f).fn1 = s.fn1 := rfl
@[simp] theorem State.mapPort_defer0 (s : State) (p : Nat) (f : Port → Port) : (s.mapPort p f).defer0 = s.defer0 := rfl
@[simp] theorem State.mapPort_defer1 (s : State) (p : Nat) (f : Port → Port) : (s.mapPort p f).defer1 = s.defer1 := rfl
@[simp] theorem State.mapPort_cyc (s : State) (p : Nat) (f : Port → Port) : (s.mapPort p f).cyc = s.cyc := rfl
@[simp] theorem State.mapPort_pf0 (s : State) (p : Nat) (f : Port → Port) : (s.mapPort p f).pf0 = s.pf0 := rfl
@[simp] theorem State.mapPort_priv (s : State) (p : Nat) (f : Port → Port) : (s.mapPort p f).priv = s.priv := rfl
@[simp] theorem State.mapPort_sess (s : State) (p : Nat) (f : Port → Port) : (s.mapPort p f).sess = s.sess := rfl
@[simp] theorem State.mapPort_dev (s : State) (p : Nat) (f : Port → Port) : (s.mapPort p f).dev = s.dev := rfl
@[simp] theorem State.mapPort_pins (s : State) (p : Nat) (f : Port → Port) : (s.mapPort p f).pins = s.pins := rfl
@[simp] theorem State.mapPort_err (s : State) (p : Nat) (f : Port → Port) : (s.mapPort p f).err = s.err := rfl
@[simp] theorem State.mapPort_cfg (s : State) (p : Nat) (f : Port → Port) : (s.mapPort p f).cfg = s.cfg := rfl
@[simp] theorem State.mapPort_time (s : State) (p : Nat) (f : Port → Port) : (s.mapPort p f).time = s.time := rfl
@[simp] theorem State.mapPort_silo (s : State) (p : Nat) (f : Port → Port) : (s.mapPort p f).silo = s.silo := rfl
@[simp] theorem State.mapPort_baler (s : State) (p : Nat) (f : Port → Port) : (s.mapPort p f).baler = s.baler := rfl
@[simp] theorem State.mapPort_recd (s : State) (p : Nat) (f : Port → Port) : (s.mapPort p f).recd = s.recd := rfl
@[simp] theorem State.mapPort_hk (s : State) (p : Nat) (f : Port → Port) : (s.mapPort p f).hk = s.hk := rfl
@[simp] theorem State.mapPort_cal (s : State) (p : Nat) (f : Port → Port) : (s.mapPort p f).cal = s.cal := rfl
@[simp] theorem State.mapPort_fw (s : State) (p : Nat) (f : Port → Port) : (s.mapPort p f).fw = s.fw := rfl
@[simp] theorem State.mapPort_flash (s : State) (p : Nat) (f : Port → Port) : (s.mapPort p f).flash = s.flash := rfl
@[simp] theorem State.mapPort_jtag (s : State) (p : Nat) (f : Port → Port) : (s.mapPort p f).jtag = s.jtag := rfl
@[simp] theorem State.mapPort_otp (s : State) (p : Nat) (f : Port → Port) : (s.mapPort p f).otp = s.otp := rfl
@[simp] theorem State.mapPort_power (s : State) (p : Nat) (f : Port → Port) : (s.mapPort p f).power = s.power := rfl
@[simp] theorem State.mapPort_now (s : State) (p : Nat) (f : Port → Port) : (s.mapPort p f).now = s.now := rfl
@[simp] theorem State.mapPort_free (s : State) (p : Nat) (f : Port → Port) : (s.mapPort p f).free = s.free := rfl
@[simp] theorem State.mapPort_out (s : State) (p : Nat) (f : Port → Port) : (s.mapPort p f).out = s.out := rfl
@[simp] theorem State.mapPort_pending (s : State) (p : Nat) (f : Port → Port) : (s.mapPort p f).pending = s.pending := rfl

/-! `State.mapLane` -/
@[simp] theorem State.mapLane_ident (s : State) (l : Nat) (f : LaneSt → LaneSt) : (s.mapLane l f).ident = s.ident := rfl
@[simp] theorem State.mapLane_link (s : State) (l : Nat) (f : LaneSt → LaneSt) : (s.mapLane l f).link = s.link := rfl
@[simp] theorem State.mapLane_seq (s : State) (l : Nat) (f : LaneSt → LaneSt) : (s.mapLane l f).seq = s.seq := rfl
@[simp] theorem State.mapLane_strs (s : State) (l : Nat) (f : LaneSt → LaneSt) : (s.mapLane l f).strs = s.strs := rfl
@[simp] theorem State.mapLane_satbus (s : State) (l : Nat) (f : LaneSt → LaneSt) : (s.mapLane l f).satbus = s.satbus := rfl
@[simp] theorem State.mapLane_steer (s : State) (l : Nat) (f : LaneSt → LaneSt) : (s.mapLane l f).steer = s.steer := rfl
@[simp] theorem State.mapLane_rx (s : State) (l : Nat) (f : LaneSt → LaneSt) : (s.mapLane l f).rx = s.rx := rfl
@[simp] theorem State.mapLane_thresh (s : State) (l : Nat) (f : LaneSt → LaneSt) : (s.mapLane l f).thresh = s.thresh := rfl
@[simp] theorem State.mapLane_gw (s : State) (l : Nat) (f : LaneSt → LaneSt) : (s.mapLane l f).gw = s.gw := rfl
@[simp] theorem State.mapLane_glq (s : State) (l : Nat) (f : LaneSt → LaneSt) : (s.mapLane l f).glq = s.glq := rfl
@[simp] theorem State.mapLane_repair (s : State) (l : Nat) (f : LaneSt → LaneSt) : (s.mapLane l f).repair = s.repair := rfl
@[simp] theorem State.mapLane_stream (s : State) (l : Nat) (f : LaneSt → LaneSt) : (s.mapLane l f).stream = s.stream := rfl
@[simp] theorem State.mapLane_cmds (s : State) (l : Nat) (f : LaneSt → LaneSt) : (s.mapLane l f).cmds = s.cmds := rfl
@[simp] theorem State.mapLane_srings (s : State) (l : Nat) (f : LaneSt → LaneSt) : (s.mapLane l f).srings = s.srings := rfl
@[simp] theorem State.mapLane_fn0 (s : State) (l : Nat) (f : LaneSt → LaneSt) : (s.mapLane l f).fn0 = s.fn0 := rfl
@[simp] theorem State.mapLane_fn1 (s : State) (l : Nat) (f : LaneSt → LaneSt) : (s.mapLane l f).fn1 = s.fn1 := rfl
@[simp] theorem State.mapLane_defer0 (s : State) (l : Nat) (f : LaneSt → LaneSt) : (s.mapLane l f).defer0 = s.defer0 := rfl
@[simp] theorem State.mapLane_defer1 (s : State) (l : Nat) (f : LaneSt → LaneSt) : (s.mapLane l f).defer1 = s.defer1 := rfl
@[simp] theorem State.mapLane_cyc (s : State) (l : Nat) (f : LaneSt → LaneSt) : (s.mapLane l f).cyc = s.cyc := rfl
@[simp] theorem State.mapLane_pf0 (s : State) (l : Nat) (f : LaneSt → LaneSt) : (s.mapLane l f).pf0 = s.pf0 := rfl
@[simp] theorem State.mapLane_priv (s : State) (l : Nat) (f : LaneSt → LaneSt) : (s.mapLane l f).priv = s.priv := rfl
@[simp] theorem State.mapLane_sess (s : State) (l : Nat) (f : LaneSt → LaneSt) : (s.mapLane l f).sess = s.sess := rfl
@[simp] theorem State.mapLane_dev (s : State) (l : Nat) (f : LaneSt → LaneSt) : (s.mapLane l f).dev = s.dev := rfl
@[simp] theorem State.mapLane_pins (s : State) (l : Nat) (f : LaneSt → LaneSt) : (s.mapLane l f).pins = s.pins := rfl
@[simp] theorem State.mapLane_err (s : State) (l : Nat) (f : LaneSt → LaneSt) : (s.mapLane l f).err = s.err := rfl
@[simp] theorem State.mapLane_cfg (s : State) (l : Nat) (f : LaneSt → LaneSt) : (s.mapLane l f).cfg = s.cfg := rfl
@[simp] theorem State.mapLane_time (s : State) (l : Nat) (f : LaneSt → LaneSt) : (s.mapLane l f).time = s.time := rfl
@[simp] theorem State.mapLane_silo (s : State) (l : Nat) (f : LaneSt → LaneSt) : (s.mapLane l f).silo = s.silo := rfl
@[simp] theorem State.mapLane_baler (s : State) (l : Nat) (f : LaneSt → LaneSt) : (s.mapLane l f).baler = s.baler := rfl
@[simp] theorem State.mapLane_recd (s : State) (l : Nat) (f : LaneSt → LaneSt) : (s.mapLane l f).recd = s.recd := rfl
@[simp] theorem State.mapLane_hk (s : State) (l : Nat) (f : LaneSt → LaneSt) : (s.mapLane l f).hk = s.hk := rfl
@[simp] theorem State.mapLane_cal (s : State) (l : Nat) (f : LaneSt → LaneSt) : (s.mapLane l f).cal = s.cal := rfl
@[simp] theorem State.mapLane_fw (s : State) (l : Nat) (f : LaneSt → LaneSt) : (s.mapLane l f).fw = s.fw := rfl
@[simp] theorem State.mapLane_flash (s : State) (l : Nat) (f : LaneSt → LaneSt) : (s.mapLane l f).flash = s.flash := rfl
@[simp] theorem State.mapLane_jtag (s : State) (l : Nat) (f : LaneSt → LaneSt) : (s.mapLane l f).jtag = s.jtag := rfl
@[simp] theorem State.mapLane_otp (s : State) (l : Nat) (f : LaneSt → LaneSt) : (s.mapLane l f).otp = s.otp := rfl
@[simp] theorem State.mapLane_power (s : State) (l : Nat) (f : LaneSt → LaneSt) : (s.mapLane l f).power = s.power := rfl
@[simp] theorem State.mapLane_now (s : State) (l : Nat) (f : LaneSt → LaneSt) : (s.mapLane l f).now = s.now := rfl
@[simp] theorem State.mapLane_free (s : State) (l : Nat) (f : LaneSt → LaneSt) : (s.mapLane l f).free = s.free := rfl
@[simp] theorem State.mapLane_out (s : State) (l : Nat) (f : LaneSt → LaneSt) : (s.mapLane l f).out = s.out := rfl
@[simp] theorem State.mapLane_pending (s : State) (l : Nat) (f : LaneSt → LaneSt) : (s.mapLane l f).pending = s.pending := rfl

/-! `State.mapEngine` -/
@[simp] theorem State.mapEngine_ident (s : State) (e : Nat) (f : Engine → Engine) : (s.mapEngine e f).ident = s.ident := rfl
@[simp] theorem State.mapEngine_link (s : State) (e : Nat) (f : Engine → Engine) : (s.mapEngine e f).link = s.link := rfl
@[simp] theorem State.mapEngine_seq (s : State) (e : Nat) (f : Engine → Engine) : (s.mapEngine e f).seq = s.seq := rfl
@[simp] theorem State.mapEngine_strs (s : State) (e : Nat) (f : Engine → Engine) : (s.mapEngine e f).strs = s.strs := rfl
@[simp] theorem State.mapEngine_satbus (s : State) (e : Nat) (f : Engine → Engine) : (s.mapEngine e f).satbus = s.satbus := rfl
@[simp] theorem State.mapEngine_steer (s : State) (e : Nat) (f : Engine → Engine) : (s.mapEngine e f).steer = s.steer := rfl
@[simp] theorem State.mapEngine_rx (s : State) (e : Nat) (f : Engine → Engine) : (s.mapEngine e f).rx = s.rx := rfl
@[simp] theorem State.mapEngine_thresh (s : State) (e : Nat) (f : Engine → Engine) : (s.mapEngine e f).thresh = s.thresh := rfl
@[simp] theorem State.mapEngine_gw (s : State) (e : Nat) (f : Engine → Engine) : (s.mapEngine e f).gw = s.gw := rfl
@[simp] theorem State.mapEngine_glq (s : State) (e : Nat) (f : Engine → Engine) : (s.mapEngine e f).glq = s.glq := rfl
@[simp] theorem State.mapEngine_stream (s : State) (e : Nat) (f : Engine → Engine) : (s.mapEngine e f).stream = s.stream := rfl
@[simp] theorem State.mapEngine_cmds (s : State) (e : Nat) (f : Engine → Engine) : (s.mapEngine e f).cmds = s.cmds := rfl
@[simp] theorem State.mapEngine_srings (s : State) (e : Nat) (f : Engine → Engine) : (s.mapEngine e f).srings = s.srings := rfl
@[simp] theorem State.mapEngine_fn0 (s : State) (e : Nat) (f : Engine → Engine) : (s.mapEngine e f).fn0 = s.fn0 := rfl
@[simp] theorem State.mapEngine_fn1 (s : State) (e : Nat) (f : Engine → Engine) : (s.mapEngine e f).fn1 = s.fn1 := rfl
@[simp] theorem State.mapEngine_defer0 (s : State) (e : Nat) (f : Engine → Engine) : (s.mapEngine e f).defer0 = s.defer0 := rfl
@[simp] theorem State.mapEngine_defer1 (s : State) (e : Nat) (f : Engine → Engine) : (s.mapEngine e f).defer1 = s.defer1 := rfl
@[simp] theorem State.mapEngine_cyc (s : State) (e : Nat) (f : Engine → Engine) : (s.mapEngine e f).cyc = s.cyc := rfl
@[simp] theorem State.mapEngine_pf0 (s : State) (e : Nat) (f : Engine → Engine) : (s.mapEngine e f).pf0 = s.pf0 := rfl
@[simp] theorem State.mapEngine_priv (s : State) (e : Nat) (f : Engine → Engine) : (s.mapEngine e f).priv = s.priv := rfl
@[simp] theorem State.mapEngine_sess (s : State) (e : Nat) (f : Engine → Engine) : (s.mapEngine e f).sess = s.sess := rfl
@[simp] theorem State.mapEngine_dev (s : State) (e : Nat) (f : Engine → Engine) : (s.mapEngine e f).dev = s.dev := rfl
@[simp] theorem State.mapEngine_pins (s : State) (e : Nat) (f : Engine → Engine) : (s.mapEngine e f).pins = s.pins := rfl
@[simp] theorem State.mapEngine_err (s : State) (e : Nat) (f : Engine → Engine) : (s.mapEngine e f).err = s.err := rfl
@[simp] theorem State.mapEngine_cfg (s : State) (e : Nat) (f : Engine → Engine) : (s.mapEngine e f).cfg = s.cfg := rfl
@[simp] theorem State.mapEngine_drover (s : State) (e : Nat) (f : Engine → Engine) : (s.mapEngine e f).drover = s.drover := rfl
@[simp] theorem State.mapEngine_time (s : State) (e : Nat) (f : Engine → Engine) : (s.mapEngine e f).time = s.time := rfl
@[simp] theorem State.mapEngine_silo (s : State) (e : Nat) (f : Engine → Engine) : (s.mapEngine e f).silo = s.silo := rfl
@[simp] theorem State.mapEngine_baler (s : State) (e : Nat) (f : Engine → Engine) : (s.mapEngine e f).baler = s.baler := rfl
@[simp] theorem State.mapEngine_recd (s : State) (e : Nat) (f : Engine → Engine) : (s.mapEngine e f).recd = s.recd := rfl
@[simp] theorem State.mapEngine_hk (s : State) (e : Nat) (f : Engine → Engine) : (s.mapEngine e f).hk = s.hk := rfl
@[simp] theorem State.mapEngine_cal (s : State) (e : Nat) (f : Engine → Engine) : (s.mapEngine e f).cal = s.cal := rfl
@[simp] theorem State.mapEngine_fw (s : State) (e : Nat) (f : Engine → Engine) : (s.mapEngine e f).fw = s.fw := rfl
@[simp] theorem State.mapEngine_flash (s : State) (e : Nat) (f : Engine → Engine) : (s.mapEngine e f).flash = s.flash := rfl
@[simp] theorem State.mapEngine_jtag (s : State) (e : Nat) (f : Engine → Engine) : (s.mapEngine e f).jtag = s.jtag := rfl
@[simp] theorem State.mapEngine_otp (s : State) (e : Nat) (f : Engine → Engine) : (s.mapEngine e f).otp = s.otp := rfl
@[simp] theorem State.mapEngine_power (s : State) (e : Nat) (f : Engine → Engine) : (s.mapEngine e f).power = s.power := rfl
@[simp] theorem State.mapEngine_now (s : State) (e : Nat) (f : Engine → Engine) : (s.mapEngine e f).now = s.now := rfl
@[simp] theorem State.mapEngine_free (s : State) (e : Nat) (f : Engine → Engine) : (s.mapEngine e f).free = s.free := rfl
@[simp] theorem State.mapEngine_out (s : State) (e : Nat) (f : Engine → Engine) : (s.mapEngine e f).out = s.out := rfl
@[simp] theorem State.mapEngine_pending (s : State) (e : Nat) (f : Engine → Engine) : (s.mapEngine e f).pending = s.pending := rfl

/-! `State.mapCmdRing` -/
@[simp] theorem State.mapCmdRing_ident (s : State) (r : Nat) (f : CmdRing → CmdRing) : (s.mapCmdRing r f).ident = s.ident := rfl
@[simp] theorem State.mapCmdRing_link (s : State) (r : Nat) (f : CmdRing → CmdRing) : (s.mapCmdRing r f).link = s.link := rfl
@[simp] theorem State.mapCmdRing_seq (s : State) (r : Nat) (f : CmdRing → CmdRing) : (s.mapCmdRing r f).seq = s.seq := rfl
@[simp] theorem State.mapCmdRing_strs (s : State) (r : Nat) (f : CmdRing → CmdRing) : (s.mapCmdRing r f).strs = s.strs := rfl
@[simp] theorem State.mapCmdRing_satbus (s : State) (r : Nat) (f : CmdRing → CmdRing) : (s.mapCmdRing r f).satbus = s.satbus := rfl
@[simp] theorem State.mapCmdRing_steer (s : State) (r : Nat) (f : CmdRing → CmdRing) : (s.mapCmdRing r f).steer = s.steer := rfl
@[simp] theorem State.mapCmdRing_rx (s : State) (r : Nat) (f : CmdRing → CmdRing) : (s.mapCmdRing r f).rx = s.rx := rfl
@[simp] theorem State.mapCmdRing_thresh (s : State) (r : Nat) (f : CmdRing → CmdRing) : (s.mapCmdRing r f).thresh = s.thresh := rfl
@[simp] theorem State.mapCmdRing_gw (s : State) (r : Nat) (f : CmdRing → CmdRing) : (s.mapCmdRing r f).gw = s.gw := rfl
@[simp] theorem State.mapCmdRing_glq (s : State) (r : Nat) (f : CmdRing → CmdRing) : (s.mapCmdRing r f).glq = s.glq := rfl
@[simp] theorem State.mapCmdRing_repair (s : State) (r : Nat) (f : CmdRing → CmdRing) : (s.mapCmdRing r f).repair = s.repair := rfl
@[simp] theorem State.mapCmdRing_stream (s : State) (r : Nat) (f : CmdRing → CmdRing) : (s.mapCmdRing r f).stream = s.stream := rfl
@[simp] theorem State.mapCmdRing_srings (s : State) (r : Nat) (f : CmdRing → CmdRing) : (s.mapCmdRing r f).srings = s.srings := rfl
@[simp] theorem State.mapCmdRing_fn0 (s : State) (r : Nat) (f : CmdRing → CmdRing) : (s.mapCmdRing r f).fn0 = s.fn0 := rfl
@[simp] theorem State.mapCmdRing_fn1 (s : State) (r : Nat) (f : CmdRing → CmdRing) : (s.mapCmdRing r f).fn1 = s.fn1 := rfl
@[simp] theorem State.mapCmdRing_defer0 (s : State) (r : Nat) (f : CmdRing → CmdRing) : (s.mapCmdRing r f).defer0 = s.defer0 := rfl
@[simp] theorem State.mapCmdRing_defer1 (s : State) (r : Nat) (f : CmdRing → CmdRing) : (s.mapCmdRing r f).defer1 = s.defer1 := rfl
@[simp] theorem State.mapCmdRing_cyc (s : State) (r : Nat) (f : CmdRing → CmdRing) : (s.mapCmdRing r f).cyc = s.cyc := rfl
@[simp] theorem State.mapCmdRing_pf0 (s : State) (r : Nat) (f : CmdRing → CmdRing) : (s.mapCmdRing r f).pf0 = s.pf0 := rfl
@[simp] theorem State.mapCmdRing_priv (s : State) (r : Nat) (f : CmdRing → CmdRing) : (s.mapCmdRing r f).priv = s.priv := rfl
@[simp] theorem State.mapCmdRing_sess (s : State) (r : Nat) (f : CmdRing → CmdRing) : (s.mapCmdRing r f).sess = s.sess := rfl
@[simp] theorem State.mapCmdRing_dev (s : State) (r : Nat) (f : CmdRing → CmdRing) : (s.mapCmdRing r f).dev = s.dev := rfl
@[simp] theorem State.mapCmdRing_pins (s : State) (r : Nat) (f : CmdRing → CmdRing) : (s.mapCmdRing r f).pins = s.pins := rfl
@[simp] theorem State.mapCmdRing_err (s : State) (r : Nat) (f : CmdRing → CmdRing) : (s.mapCmdRing r f).err = s.err := rfl
@[simp] theorem State.mapCmdRing_cfg (s : State) (r : Nat) (f : CmdRing → CmdRing) : (s.mapCmdRing r f).cfg = s.cfg := rfl
@[simp] theorem State.mapCmdRing_drover (s : State) (r : Nat) (f : CmdRing → CmdRing) : (s.mapCmdRing r f).drover = s.drover := rfl
@[simp] theorem State.mapCmdRing_time (s : State) (r : Nat) (f : CmdRing → CmdRing) : (s.mapCmdRing r f).time = s.time := rfl
@[simp] theorem State.mapCmdRing_silo (s : State) (r : Nat) (f : CmdRing → CmdRing) : (s.mapCmdRing r f).silo = s.silo := rfl
@[simp] theorem State.mapCmdRing_baler (s : State) (r : Nat) (f : CmdRing → CmdRing) : (s.mapCmdRing r f).baler = s.baler := rfl
@[simp] theorem State.mapCmdRing_recd (s : State) (r : Nat) (f : CmdRing → CmdRing) : (s.mapCmdRing r f).recd = s.recd := rfl
@[simp] theorem State.mapCmdRing_hk (s : State) (r : Nat) (f : CmdRing → CmdRing) : (s.mapCmdRing r f).hk = s.hk := rfl
@[simp] theorem State.mapCmdRing_cal (s : State) (r : Nat) (f : CmdRing → CmdRing) : (s.mapCmdRing r f).cal = s.cal := rfl
@[simp] theorem State.mapCmdRing_fw (s : State) (r : Nat) (f : CmdRing → CmdRing) : (s.mapCmdRing r f).fw = s.fw := rfl
@[simp] theorem State.mapCmdRing_flash (s : State) (r : Nat) (f : CmdRing → CmdRing) : (s.mapCmdRing r f).flash = s.flash := rfl
@[simp] theorem State.mapCmdRing_jtag (s : State) (r : Nat) (f : CmdRing → CmdRing) : (s.mapCmdRing r f).jtag = s.jtag := rfl
@[simp] theorem State.mapCmdRing_otp (s : State) (r : Nat) (f : CmdRing → CmdRing) : (s.mapCmdRing r f).otp = s.otp := rfl
@[simp] theorem State.mapCmdRing_power (s : State) (r : Nat) (f : CmdRing → CmdRing) : (s.mapCmdRing r f).power = s.power := rfl
@[simp] theorem State.mapCmdRing_now (s : State) (r : Nat) (f : CmdRing → CmdRing) : (s.mapCmdRing r f).now = s.now := rfl
@[simp] theorem State.mapCmdRing_free (s : State) (r : Nat) (f : CmdRing → CmdRing) : (s.mapCmdRing r f).free = s.free := rfl
@[simp] theorem State.mapCmdRing_out (s : State) (r : Nat) (f : CmdRing → CmdRing) : (s.mapCmdRing r f).out = s.out := rfl
@[simp] theorem State.mapCmdRing_pending (s : State) (r : Nat) (f : CmdRing → CmdRing) : (s.mapCmdRing r f).pending = s.pending := rfl

/-! `State.mapHk` -/
@[simp] theorem State.mapHk_ident (s : State) (c : Nat) (f : HkChan → HkChan) : (s.mapHk c f).ident = s.ident := rfl
@[simp] theorem State.mapHk_link (s : State) (c : Nat) (f : HkChan → HkChan) : (s.mapHk c f).link = s.link := rfl
@[simp] theorem State.mapHk_seq (s : State) (c : Nat) (f : HkChan → HkChan) : (s.mapHk c f).seq = s.seq := rfl
@[simp] theorem State.mapHk_strs (s : State) (c : Nat) (f : HkChan → HkChan) : (s.mapHk c f).strs = s.strs := rfl
@[simp] theorem State.mapHk_satbus (s : State) (c : Nat) (f : HkChan → HkChan) : (s.mapHk c f).satbus = s.satbus := rfl
@[simp] theorem State.mapHk_steer (s : State) (c : Nat) (f : HkChan → HkChan) : (s.mapHk c f).steer = s.steer := rfl
@[simp] theorem State.mapHk_rx (s : State) (c : Nat) (f : HkChan → HkChan) : (s.mapHk c f).rx = s.rx := rfl
@[simp] theorem State.mapHk_thresh (s : State) (c : Nat) (f : HkChan → HkChan) : (s.mapHk c f).thresh = s.thresh := rfl
@[simp] theorem State.mapHk_gw (s : State) (c : Nat) (f : HkChan → HkChan) : (s.mapHk c f).gw = s.gw := rfl
@[simp] theorem State.mapHk_glq (s : State) (c : Nat) (f : HkChan → HkChan) : (s.mapHk c f).glq = s.glq := rfl
@[simp] theorem State.mapHk_repair (s : State) (c : Nat) (f : HkChan → HkChan) : (s.mapHk c f).repair = s.repair := rfl
@[simp] theorem State.mapHk_stream (s : State) (c : Nat) (f : HkChan → HkChan) : (s.mapHk c f).stream = s.stream := rfl
@[simp] theorem State.mapHk_cmds (s : State) (c : Nat) (f : HkChan → HkChan) : (s.mapHk c f).cmds = s.cmds := rfl
@[simp] theorem State.mapHk_srings (s : State) (c : Nat) (f : HkChan → HkChan) : (s.mapHk c f).srings = s.srings := rfl
@[simp] theorem State.mapHk_fn0 (s : State) (c : Nat) (f : HkChan → HkChan) : (s.mapHk c f).fn0 = s.fn0 := rfl
@[simp] theorem State.mapHk_fn1 (s : State) (c : Nat) (f : HkChan → HkChan) : (s.mapHk c f).fn1 = s.fn1 := rfl
@[simp] theorem State.mapHk_defer0 (s : State) (c : Nat) (f : HkChan → HkChan) : (s.mapHk c f).defer0 = s.defer0 := rfl
@[simp] theorem State.mapHk_defer1 (s : State) (c : Nat) (f : HkChan → HkChan) : (s.mapHk c f).defer1 = s.defer1 := rfl
@[simp] theorem State.mapHk_cyc (s : State) (c : Nat) (f : HkChan → HkChan) : (s.mapHk c f).cyc = s.cyc := rfl
@[simp] theorem State.mapHk_pf0 (s : State) (c : Nat) (f : HkChan → HkChan) : (s.mapHk c f).pf0 = s.pf0 := rfl
@[simp] theorem State.mapHk_priv (s : State) (c : Nat) (f : HkChan → HkChan) : (s.mapHk c f).priv = s.priv := rfl
@[simp] theorem State.mapHk_sess (s : State) (c : Nat) (f : HkChan → HkChan) : (s.mapHk c f).sess = s.sess := rfl
@[simp] theorem State.mapHk_dev (s : State) (c : Nat) (f : HkChan → HkChan) : (s.mapHk c f).dev = s.dev := rfl
@[simp] theorem State.mapHk_pins (s : State) (c : Nat) (f : HkChan → HkChan) : (s.mapHk c f).pins = s.pins := rfl
@[simp] theorem State.mapHk_err (s : State) (c : Nat) (f : HkChan → HkChan) : (s.mapHk c f).err = s.err := rfl
@[simp] theorem State.mapHk_cfg (s : State) (c : Nat) (f : HkChan → HkChan) : (s.mapHk c f).cfg = s.cfg := rfl
@[simp] theorem State.mapHk_drover (s : State) (c : Nat) (f : HkChan → HkChan) : (s.mapHk c f).drover = s.drover := rfl
@[simp] theorem State.mapHk_time (s : State) (c : Nat) (f : HkChan → HkChan) : (s.mapHk c f).time = s.time := rfl
@[simp] theorem State.mapHk_silo (s : State) (c : Nat) (f : HkChan → HkChan) : (s.mapHk c f).silo = s.silo := rfl
@[simp] theorem State.mapHk_baler (s : State) (c : Nat) (f : HkChan → HkChan) : (s.mapHk c f).baler = s.baler := rfl
@[simp] theorem State.mapHk_recd (s : State) (c : Nat) (f : HkChan → HkChan) : (s.mapHk c f).recd = s.recd := rfl
@[simp] theorem State.mapHk_cal (s : State) (c : Nat) (f : HkChan → HkChan) : (s.mapHk c f).cal = s.cal := rfl
@[simp] theorem State.mapHk_fw (s : State) (c : Nat) (f : HkChan → HkChan) : (s.mapHk c f).fw = s.fw := rfl
@[simp] theorem State.mapHk_flash (s : State) (c : Nat) (f : HkChan → HkChan) : (s.mapHk c f).flash = s.flash := rfl
@[simp] theorem State.mapHk_jtag (s : State) (c : Nat) (f : HkChan → HkChan) : (s.mapHk c f).jtag = s.jtag := rfl
@[simp] theorem State.mapHk_otp (s : State) (c : Nat) (f : HkChan → HkChan) : (s.mapHk c f).otp = s.otp := rfl
@[simp] theorem State.mapHk_power (s : State) (c : Nat) (f : HkChan → HkChan) : (s.mapHk c f).power = s.power := rfl
@[simp] theorem State.mapHk_now (s : State) (c : Nat) (f : HkChan → HkChan) : (s.mapHk c f).now = s.now := rfl
@[simp] theorem State.mapHk_free (s : State) (c : Nat) (f : HkChan → HkChan) : (s.mapHk c f).free = s.free := rfl
@[simp] theorem State.mapHk_out (s : State) (c : Nat) (f : HkChan → HkChan) : (s.mapHk c f).out = s.out := rfl
@[simp] theorem State.mapHk_pending (s : State) (c : Nat) (f : HkChan → HkChan) : (s.mapHk c f).pending = s.pending := rfl

/-! `State.mapCmd` -/
@[simp] theorem State.mapCmd_ident (s : State) (n : Nat) (f : InFlight → InFlight) : (s.mapCmd n f).ident = s.ident := rfl
@[simp] theorem State.mapCmd_link (s : State) (n : Nat) (f : InFlight → InFlight) : (s.mapCmd n f).link = s.link := rfl
@[simp] theorem State.mapCmd_seq (s : State) (n : Nat) (f : InFlight → InFlight) : (s.mapCmd n f).seq = s.seq := rfl
@[simp] theorem State.mapCmd_strs (s : State) (n : Nat) (f : InFlight → InFlight) : (s.mapCmd n f).strs = s.strs := rfl
@[simp] theorem State.mapCmd_satbus (s : State) (n : Nat) (f : InFlight → InFlight) : (s.mapCmd n f).satbus = s.satbus := rfl
@[simp] theorem State.mapCmd_steer (s : State) (n : Nat) (f : InFlight → InFlight) : (s.mapCmd n f).steer = s.steer := rfl
@[simp] theorem State.mapCmd_rx (s : State) (n : Nat) (f : InFlight → InFlight) : (s.mapCmd n f).rx = s.rx := rfl
@[simp] theorem State.mapCmd_thresh (s : State) (n : Nat) (f : InFlight → InFlight) : (s.mapCmd n f).thresh = s.thresh := rfl
@[simp] theorem State.mapCmd_gw (s : State) (n : Nat) (f : InFlight → InFlight) : (s.mapCmd n f).gw = s.gw := rfl
@[simp] theorem State.mapCmd_glq (s : State) (n : Nat) (f : InFlight → InFlight) : (s.mapCmd n f).glq = s.glq := rfl
@[simp] theorem State.mapCmd_repair (s : State) (n : Nat) (f : InFlight → InFlight) : (s.mapCmd n f).repair = s.repair := rfl
@[simp] theorem State.mapCmd_stream (s : State) (n : Nat) (f : InFlight → InFlight) : (s.mapCmd n f).stream = s.stream := rfl
@[simp] theorem State.mapCmd_srings (s : State) (n : Nat) (f : InFlight → InFlight) : (s.mapCmd n f).srings = s.srings := rfl
@[simp] theorem State.mapCmd_fn0 (s : State) (n : Nat) (f : InFlight → InFlight) : (s.mapCmd n f).fn0 = s.fn0 := rfl
@[simp] theorem State.mapCmd_fn1 (s : State) (n : Nat) (f : InFlight → InFlight) : (s.mapCmd n f).fn1 = s.fn1 := rfl
@[simp] theorem State.mapCmd_defer0 (s : State) (n : Nat) (f : InFlight → InFlight) : (s.mapCmd n f).defer0 = s.defer0 := rfl
@[simp] theorem State.mapCmd_defer1 (s : State) (n : Nat) (f : InFlight → InFlight) : (s.mapCmd n f).defer1 = s.defer1 := rfl
@[simp] theorem State.mapCmd_cyc (s : State) (n : Nat) (f : InFlight → InFlight) : (s.mapCmd n f).cyc = s.cyc := rfl
@[simp] theorem State.mapCmd_pf0 (s : State) (n : Nat) (f : InFlight → InFlight) : (s.mapCmd n f).pf0 = s.pf0 := rfl
@[simp] theorem State.mapCmd_priv (s : State) (n : Nat) (f : InFlight → InFlight) : (s.mapCmd n f).priv = s.priv := rfl
@[simp] theorem State.mapCmd_sess (s : State) (n : Nat) (f : InFlight → InFlight) : (s.mapCmd n f).sess = s.sess := rfl
@[simp] theorem State.mapCmd_dev (s : State) (n : Nat) (f : InFlight → InFlight) : (s.mapCmd n f).dev = s.dev := rfl
@[simp] theorem State.mapCmd_pins (s : State) (n : Nat) (f : InFlight → InFlight) : (s.mapCmd n f).pins = s.pins := rfl
@[simp] theorem State.mapCmd_err (s : State) (n : Nat) (f : InFlight → InFlight) : (s.mapCmd n f).err = s.err := rfl
@[simp] theorem State.mapCmd_cfg (s : State) (n : Nat) (f : InFlight → InFlight) : (s.mapCmd n f).cfg = s.cfg := rfl
@[simp] theorem State.mapCmd_drover (s : State) (n : Nat) (f : InFlight → InFlight) : (s.mapCmd n f).drover = s.drover := rfl
@[simp] theorem State.mapCmd_time (s : State) (n : Nat) (f : InFlight → InFlight) : (s.mapCmd n f).time = s.time := rfl
@[simp] theorem State.mapCmd_silo (s : State) (n : Nat) (f : InFlight → InFlight) : (s.mapCmd n f).silo = s.silo := rfl
@[simp] theorem State.mapCmd_baler (s : State) (n : Nat) (f : InFlight → InFlight) : (s.mapCmd n f).baler = s.baler := rfl
@[simp] theorem State.mapCmd_recd (s : State) (n : Nat) (f : InFlight → InFlight) : (s.mapCmd n f).recd = s.recd := rfl
@[simp] theorem State.mapCmd_hk (s : State) (n : Nat) (f : InFlight → InFlight) : (s.mapCmd n f).hk = s.hk := rfl
@[simp] theorem State.mapCmd_cal (s : State) (n : Nat) (f : InFlight → InFlight) : (s.mapCmd n f).cal = s.cal := rfl
@[simp] theorem State.mapCmd_fw (s : State) (n : Nat) (f : InFlight → InFlight) : (s.mapCmd n f).fw = s.fw := rfl
@[simp] theorem State.mapCmd_flash (s : State) (n : Nat) (f : InFlight → InFlight) : (s.mapCmd n f).flash = s.flash := rfl
@[simp] theorem State.mapCmd_jtag (s : State) (n : Nat) (f : InFlight → InFlight) : (s.mapCmd n f).jtag = s.jtag := rfl
@[simp] theorem State.mapCmd_otp (s : State) (n : Nat) (f : InFlight → InFlight) : (s.mapCmd n f).otp = s.otp := rfl
@[simp] theorem State.mapCmd_power (s : State) (n : Nat) (f : InFlight → InFlight) : (s.mapCmd n f).power = s.power := rfl
@[simp] theorem State.mapCmd_now (s : State) (n : Nat) (f : InFlight → InFlight) : (s.mapCmd n f).now = s.now := rfl
@[simp] theorem State.mapCmd_free (s : State) (n : Nat) (f : InFlight → InFlight) : (s.mapCmd n f).free = s.free := rfl
@[simp] theorem State.mapCmd_out (s : State) (n : Nat) (f : InFlight → InFlight) : (s.mapCmd n f).out = s.out := rfl
@[simp] theorem State.mapCmd_pending (s : State) (n : Nat) (f : InFlight → InFlight) : (s.mapCmd n f).pending = s.pending := rfl

/-! `State.emit` -/
@[simp] theorem State.emit_ident (s : State) (k : EmitK) (fn a : Nat) (b : Bytes) : (s.emit k fn a b).ident = s.ident := rfl
@[simp] theorem State.emit_link (s : State) (k : EmitK) (fn a : Nat) (b : Bytes) : (s.emit k fn a b).link = s.link := rfl
@[simp] theorem State.emit_seq (s : State) (k : EmitK) (fn a : Nat) (b : Bytes) : (s.emit k fn a b).seq = s.seq := rfl
@[simp] theorem State.emit_strs (s : State) (k : EmitK) (fn a : Nat) (b : Bytes) : (s.emit k fn a b).strs = s.strs := rfl
@[simp] theorem State.emit_satbus (s : State) (k : EmitK) (fn a : Nat) (b : Bytes) : (s.emit k fn a b).satbus = s.satbus := rfl
@[simp] theorem State.emit_steer (s : State) (k : EmitK) (fn a : Nat) (b : Bytes) : (s.emit k fn a b).steer = s.steer := rfl
@[simp] theorem State.emit_rx (s : State) (k : EmitK) (fn a : Nat) (b : Bytes) : (s.emit k fn a b).rx = s.rx := rfl
@[simp] theorem State.emit_thresh (s : State) (k : EmitK) (fn a : Nat) (b : Bytes) : (s.emit k fn a b).thresh = s.thresh := rfl
@[simp] theorem State.emit_gw (s : State) (k : EmitK) (fn a : Nat) (b : Bytes) : (s.emit k fn a b).gw = s.gw := rfl
@[simp] theorem State.emit_glq (s : State) (k : EmitK) (fn a : Nat) (b : Bytes) : (s.emit k fn a b).glq = s.glq := rfl
@[simp] theorem State.emit_repair (s : State) (k : EmitK) (fn a : Nat) (b : Bytes) : (s.emit k fn a b).repair = s.repair := rfl
@[simp] theorem State.emit_stream (s : State) (k : EmitK) (fn a : Nat) (b : Bytes) : (s.emit k fn a b).stream = s.stream := rfl
@[simp] theorem State.emit_cmds (s : State) (k : EmitK) (fn a : Nat) (b : Bytes) : (s.emit k fn a b).cmds = s.cmds := rfl
@[simp] theorem State.emit_srings (s : State) (k : EmitK) (fn a : Nat) (b : Bytes) : (s.emit k fn a b).srings = s.srings := rfl
@[simp] theorem State.emit_fn0 (s : State) (k : EmitK) (fn a : Nat) (b : Bytes) : (s.emit k fn a b).fn0 = s.fn0 := rfl
@[simp] theorem State.emit_fn1 (s : State) (k : EmitK) (fn a : Nat) (b : Bytes) : (s.emit k fn a b).fn1 = s.fn1 := rfl
@[simp] theorem State.emit_defer0 (s : State) (k : EmitK) (fn a : Nat) (b : Bytes) : (s.emit k fn a b).defer0 = s.defer0 := rfl
@[simp] theorem State.emit_defer1 (s : State) (k : EmitK) (fn a : Nat) (b : Bytes) : (s.emit k fn a b).defer1 = s.defer1 := rfl
@[simp] theorem State.emit_cyc (s : State) (k : EmitK) (fn a : Nat) (b : Bytes) : (s.emit k fn a b).cyc = s.cyc := rfl
@[simp] theorem State.emit_pf0 (s : State) (k : EmitK) (fn a : Nat) (b : Bytes) : (s.emit k fn a b).pf0 = s.pf0 := rfl
@[simp] theorem State.emit_priv (s : State) (k : EmitK) (fn a : Nat) (b : Bytes) : (s.emit k fn a b).priv = s.priv := rfl
@[simp] theorem State.emit_sess (s : State) (k : EmitK) (fn a : Nat) (b : Bytes) : (s.emit k fn a b).sess = s.sess := rfl
@[simp] theorem State.emit_dev (s : State) (k : EmitK) (fn a : Nat) (b : Bytes) : (s.emit k fn a b).dev = s.dev := rfl
@[simp] theorem State.emit_pins (s : State) (k : EmitK) (fn a : Nat) (b : Bytes) : (s.emit k fn a b).pins = s.pins := rfl
@[simp] theorem State.emit_err (s : State) (k : EmitK) (fn a : Nat) (b : Bytes) : (s.emit k fn a b).err = s.err := rfl
@[simp] theorem State.emit_cfg (s : State) (k : EmitK) (fn a : Nat) (b : Bytes) : (s.emit k fn a b).cfg = s.cfg := rfl
@[simp] theorem State.emit_drover (s : State) (k : EmitK) (fn a : Nat) (b : Bytes) : (s.emit k fn a b).drover = s.drover := rfl
@[simp] theorem State.emit_time (s : State) (k : EmitK) (fn a : Nat) (b : Bytes) : (s.emit k fn a b).time = s.time := rfl
@[simp] theorem State.emit_silo (s : State) (k : EmitK) (fn a : Nat) (b : Bytes) : (s.emit k fn a b).silo = s.silo := rfl
@[simp] theorem State.emit_baler (s : State) (k : EmitK) (fn a : Nat) (b : Bytes) : (s.emit k fn a b).baler = s.baler := rfl
@[simp] theorem State.emit_recd (s : State) (k : EmitK) (fn a : Nat) (b : Bytes) : (s.emit k fn a b).recd = s.recd := rfl
@[simp] theorem State.emit_hk (s : State) (k : EmitK) (fn a : Nat) (b : Bytes) : (s.emit k fn a b).hk = s.hk := rfl
@[simp] theorem State.emit_cal (s : State) (k : EmitK) (fn a : Nat) (b : Bytes) : (s.emit k fn a b).cal = s.cal := rfl
@[simp] theorem State.emit_fw (s : State) (k : EmitK) (fn a : Nat) (b : Bytes) : (s.emit k fn a b).fw = s.fw := rfl
@[simp] theorem State.emit_flash (s : State) (k : EmitK) (fn a : Nat) (b : Bytes) : (s.emit k fn a b).flash = s.flash := rfl
@[simp] theorem State.emit_jtag (s : State) (k : EmitK) (fn a : Nat) (b : Bytes) : (s.emit k fn a b).jtag = s.jtag := rfl
@[simp] theorem State.emit_otp (s : State) (k : EmitK) (fn a : Nat) (b : Bytes) : (s.emit k fn a b).otp = s.otp := rfl
@[simp] theorem State.emit_power (s : State) (k : EmitK) (fn a : Nat) (b : Bytes) : (s.emit k fn a b).power = s.power := rfl
@[simp] theorem State.emit_now (s : State) (k : EmitK) (fn a : Nat) (b : Bytes) : (s.emit k fn a b).now = s.now := rfl
@[simp] theorem State.emit_free (s : State) (k : EmitK) (fn a : Nat) (b : Bytes) : (s.emit k fn a b).free = s.free := rfl
@[simp] theorem State.emit_out (s : State) (k : EmitK) (fn a : Nat) (b : Bytes) : (s.emit k fn a b).out = ⟨k, fn, a, b⟩ :: s.out := rfl
@[simp] theorem State.emit_pending (s : State) (k : EmitK) (fn a : Nat) (b : Bytes) : (s.emit k fn a b).pending = s.pending := rfl

/-! `State.setWord` -/
@[simp] theorem State.setWord_ident (s : State) (w : Word) : (s.setWord w).ident = s.ident := rfl
@[simp] theorem State.setWord_link (s : State) (w : Word) : (s.setWord w).link = s.link := rfl
@[simp] theorem State.setWord_seq (s : State) (w : Word) : (s.setWord w).seq = s.seq := rfl
@[simp] theorem State.setWord_strs (s : State) (w : Word) : (s.setWord w).strs = s.strs := rfl
@[simp] theorem State.setWord_satbus (s : State) (w : Word) : (s.setWord w).satbus = s.satbus := rfl
@[simp] theorem State.setWord_steer (s : State) (w : Word) : (s.setWord w).steer = s.steer := rfl
@[simp] theorem State.setWord_rx (s : State) (w : Word) : (s.setWord w).rx = s.rx := rfl
@[simp] theorem State.setWord_thresh (s : State) (w : Word) : (s.setWord w).thresh = s.thresh := rfl
@[simp] theorem State.setWord_gw (s : State) (w : Word) : (s.setWord w).gw = s.gw := rfl
@[simp] theorem State.setWord_glq (s : State) (w : Word) : (s.setWord w).glq = s.glq := rfl
@[simp] theorem State.setWord_repair (s : State) (w : Word) : (s.setWord w).repair = s.repair := rfl
@[simp] theorem State.setWord_stream (s : State) (w : Word) : (s.setWord w).stream = s.stream := rfl
@[simp] theorem State.setWord_cmds (s : State) (w : Word) : (s.setWord w).cmds = s.cmds := rfl
@[simp] theorem State.setWord_srings (s : State) (w : Word) : (s.setWord w).srings = s.srings := rfl
@[simp] theorem State.setWord_fn0 (s : State) (w : Word) : (s.setWord w).fn0 = s.fn0 := rfl
@[simp] theorem State.setWord_fn1 (s : State) (w : Word) : (s.setWord w).fn1 = s.fn1 := rfl
@[simp] theorem State.setWord_defer0 (s : State) (w : Word) : (s.setWord w).defer0 = s.defer0 := rfl
@[simp] theorem State.setWord_defer1 (s : State) (w : Word) : (s.setWord w).defer1 = s.defer1 := rfl
@[simp] theorem State.setWord_cyc (s : State) (w : Word) : (s.setWord w).cyc = s.cyc := rfl
@[simp] theorem State.setWord_pf0 (s : State) (w : Word) : (s.setWord w).pf0 = s.pf0 := rfl
@[simp] theorem State.setWord_priv (s : State) (w : Word) : (s.setWord w).priv = s.priv := rfl
@[simp] theorem State.setWord_sess (s : State) (w : Word) : (s.setWord w).sess = s.sess := rfl
@[simp] theorem State.setWord_pins (s : State) (w : Word) : (s.setWord w).pins = s.pins := rfl
@[simp] theorem State.setWord_err (s : State) (w : Word) : (s.setWord w).err = s.err := rfl
@[simp] theorem State.setWord_cfg (s : State) (w : Word) : (s.setWord w).cfg = s.cfg := rfl
@[simp] theorem State.setWord_drover (s : State) (w : Word) : (s.setWord w).drover = s.drover := rfl
@[simp] theorem State.setWord_time (s : State) (w : Word) : (s.setWord w).time = s.time := rfl
@[simp] theorem State.setWord_silo (s : State) (w : Word) : (s.setWord w).silo = s.silo := rfl
@[simp] theorem State.setWord_baler (s : State) (w : Word) : (s.setWord w).baler = s.baler := rfl
@[simp] theorem State.setWord_recd (s : State) (w : Word) : (s.setWord w).recd = s.recd := rfl
@[simp] theorem State.setWord_hk (s : State) (w : Word) : (s.setWord w).hk = s.hk := rfl
@[simp] theorem State.setWord_cal (s : State) (w : Word) : (s.setWord w).cal = s.cal := rfl
@[simp] theorem State.setWord_fw (s : State) (w : Word) : (s.setWord w).fw = s.fw := rfl
@[simp] theorem State.setWord_flash (s : State) (w : Word) : (s.setWord w).flash = s.flash := rfl
@[simp] theorem State.setWord_jtag (s : State) (w : Word) : (s.setWord w).jtag = s.jtag := rfl
@[simp] theorem State.setWord_otp (s : State) (w : Word) : (s.setWord w).otp = s.otp := rfl
@[simp] theorem State.setWord_power (s : State) (w : Word) : (s.setWord w).power = s.power := rfl
@[simp] theorem State.setWord_now (s : State) (w : Word) : (s.setWord w).now = s.now := rfl
@[simp] theorem State.setWord_free (s : State) (w : Word) : (s.setWord w).free = s.free := rfl
@[simp] theorem State.setWord_out (s : State) (w : Word) : (s.setWord w).out = s.out := rfl
@[simp] theorem State.setWord_pending (s : State) (w : Word) : (s.setWord w).pending = s.pending := rfl

/-! `State.useFree` -/
@[simp] theorem State.useFree_ident (s : State) : (s.useFree).ident = s.ident := rfl
@[simp] theorem State.useFree_link (s : State) : (s.useFree).link = s.link := rfl
@[simp] theorem State.useFree_seq (s : State) : (s.useFree).seq = s.seq := rfl
@[simp] theorem State.useFree_strs (s : State) : (s.useFree).strs = s.strs := rfl
@[simp] theorem State.useFree_satbus (s : State) : (s.useFree).satbus = s.satbus := rfl
@[simp] theorem State.useFree_steer (s : State) : (s.useFree).steer = s.steer := rfl
@[simp] theorem State.useFree_rx (s : State) : (s.useFree).rx = s.rx := rfl
@[simp] theorem State.useFree_thresh (s : State) : (s.useFree).thresh = s.thresh := rfl
@[simp] theorem State.useFree_gw (s : State) : (s.useFree).gw = s.gw := rfl
@[simp] theorem State.useFree_glq (s : State) : (s.useFree).glq = s.glq := rfl
@[simp] theorem State.useFree_repair (s : State) : (s.useFree).repair = s.repair := rfl
@[simp] theorem State.useFree_stream (s : State) : (s.useFree).stream = s.stream := rfl
@[simp] theorem State.useFree_cmds (s : State) : (s.useFree).cmds = s.cmds := rfl
@[simp] theorem State.useFree_srings (s : State) : (s.useFree).srings = s.srings := rfl
@[simp] theorem State.useFree_fn0 (s : State) : (s.useFree).fn0 = s.fn0 := rfl
@[simp] theorem State.useFree_fn1 (s : State) : (s.useFree).fn1 = s.fn1 := rfl
@[simp] theorem State.useFree_defer0 (s : State) : (s.useFree).defer0 = s.defer0 := rfl
@[simp] theorem State.useFree_defer1 (s : State) : (s.useFree).defer1 = s.defer1 := rfl
@[simp] theorem State.useFree_cyc (s : State) : (s.useFree).cyc = s.cyc := rfl
@[simp] theorem State.useFree_pf0 (s : State) : (s.useFree).pf0 = s.pf0 := rfl
@[simp] theorem State.useFree_priv (s : State) : (s.useFree).priv = s.priv := rfl
@[simp] theorem State.useFree_sess (s : State) : (s.useFree).sess = s.sess := rfl
@[simp] theorem State.useFree_dev (s : State) : (s.useFree).dev = s.dev := rfl
@[simp] theorem State.useFree_pins (s : State) : (s.useFree).pins = s.pins := rfl
@[simp] theorem State.useFree_err (s : State) : (s.useFree).err = s.err := rfl
@[simp] theorem State.useFree_cfg (s : State) : (s.useFree).cfg = s.cfg := rfl
@[simp] theorem State.useFree_drover (s : State) : (s.useFree).drover = s.drover := rfl
@[simp] theorem State.useFree_time (s : State) : (s.useFree).time = s.time := rfl
@[simp] theorem State.useFree_silo (s : State) : (s.useFree).silo = s.silo := rfl
@[simp] theorem State.useFree_baler (s : State) : (s.useFree).baler = s.baler := rfl
@[simp] theorem State.useFree_recd (s : State) : (s.useFree).recd = s.recd := rfl
@[simp] theorem State.useFree_hk (s : State) : (s.useFree).hk = s.hk := rfl
@[simp] theorem State.useFree_cal (s : State) : (s.useFree).cal = s.cal := rfl
@[simp] theorem State.useFree_fw (s : State) : (s.useFree).fw = s.fw := rfl
@[simp] theorem State.useFree_flash (s : State) : (s.useFree).flash = s.flash := rfl
@[simp] theorem State.useFree_jtag (s : State) : (s.useFree).jtag = s.jtag := rfl
@[simp] theorem State.useFree_otp (s : State) : (s.useFree).otp = s.otp := rfl
@[simp] theorem State.useFree_power (s : State) : (s.useFree).power = s.power := rfl
@[simp] theorem State.useFree_now (s : State) : (s.useFree).now = s.now := rfl
@[simp] theorem State.useFree_free (s : State) : (s.useFree).free = s.free + 1 := rfl
@[simp] theorem State.useFree_out (s : State) : (s.useFree).out = s.out := rfl
@[simp] theorem State.useFree_pending (s : State) : (s.useFree).pending = s.pending := rfl

/-! `State.addReason` -/
@[simp] theorem State.addReason_ident (s : State) (i : Nat) : (s.addReason i).ident = s.ident := rfl
@[simp] theorem State.addReason_link (s : State) (i : Nat) : (s.addReason i).link = s.link := rfl
@[simp] theorem State.addReason_seq (s : State) (i : Nat) : (s.addReason i).seq = s.seq := rfl
@[simp] theorem State.addReason_strs (s : State) (i : Nat) : (s.addReason i).strs = s.strs := rfl
@[simp] theorem State.addReason_satbus (s : State) (i : Nat) : (s.addReason i).satbus = s.satbus := rfl
@[simp] theorem State.addReason_steer (s : State) (i : Nat) : (s.addReason i).steer = s.steer := rfl
@[simp] theorem State.addReason_rx (s : State) (i : Nat) : (s.addReason i).rx = s.rx := rfl
@[simp] theorem State.addReason_thresh (s : State) (i : Nat) : (s.addReason i).thresh = s.thresh := rfl
@[simp] theorem State.addReason_gw (s : State) (i : Nat) : (s.addReason i).gw = s.gw := rfl
@[simp] theorem State.addReason_glq (s : State) (i : Nat) : (s.addReason i).glq = s.glq := rfl
@[simp] theorem State.addReason_repair (s : State) (i : Nat) : (s.addReason i).repair = s.repair := rfl
@[simp] theorem State.addReason_stream (s : State) (i : Nat) : (s.addReason i).stream = s.stream := rfl
@[simp] theorem State.addReason_cmds (s : State) (i : Nat) : (s.addReason i).cmds = s.cmds := rfl
@[simp] theorem State.addReason_srings (s : State) (i : Nat) : (s.addReason i).srings = s.srings := rfl
@[simp] theorem State.addReason_fn0 (s : State) (i : Nat) : (s.addReason i).fn0 = s.fn0 := rfl
@[simp] theorem State.addReason_fn1 (s : State) (i : Nat) : (s.addReason i).fn1 = s.fn1 := rfl
@[simp] theorem State.addReason_defer0 (s : State) (i : Nat) : (s.addReason i).defer0 = s.defer0 := rfl
@[simp] theorem State.addReason_defer1 (s : State) (i : Nat) : (s.addReason i).defer1 = s.defer1 := rfl
@[simp] theorem State.addReason_cyc (s : State) (i : Nat) : (s.addReason i).cyc = s.cyc := rfl
@[simp] theorem State.addReason_pf0 (s : State) (i : Nat) : (s.addReason i).pf0 = s.pf0 := rfl
@[simp] theorem State.addReason_priv (s : State) (i : Nat) : (s.addReason i).priv = s.priv := rfl
@[simp] theorem State.addReason_sess (s : State) (i : Nat) : (s.addReason i).sess = s.sess := rfl
@[simp] theorem State.addReason_pins (s : State) (i : Nat) : (s.addReason i).pins = s.pins := rfl
@[simp] theorem State.addReason_err (s : State) (i : Nat) : (s.addReason i).err = s.err := rfl
@[simp] theorem State.addReason_cfg (s : State) (i : Nat) : (s.addReason i).cfg = s.cfg := rfl
@[simp] theorem State.addReason_drover (s : State) (i : Nat) : (s.addReason i).drover = s.drover := rfl
@[simp] theorem State.addReason_time (s : State) (i : Nat) : (s.addReason i).time = s.time := rfl
@[simp] theorem State.addReason_silo (s : State) (i : Nat) : (s.addReason i).silo = s.silo := rfl
@[simp] theorem State.addReason_baler (s : State) (i : Nat) : (s.addReason i).baler = s.baler := rfl
@[simp] theorem State.addReason_recd (s : State) (i : Nat) : (s.addReason i).recd = s.recd := rfl
@[simp] theorem State.addReason_hk (s : State) (i : Nat) : (s.addReason i).hk = s.hk := rfl
@[simp] theorem State.addReason_cal (s : State) (i : Nat) : (s.addReason i).cal = s.cal := rfl
@[simp] theorem State.addReason_fw (s : State) (i : Nat) : (s.addReason i).fw = s.fw := rfl
@[simp] theorem State.addReason_flash (s : State) (i : Nat) : (s.addReason i).flash = s.flash := rfl
@[simp] theorem State.addReason_jtag (s : State) (i : Nat) : (s.addReason i).jtag = s.jtag := rfl
@[simp] theorem State.addReason_otp (s : State) (i : Nat) : (s.addReason i).otp = s.otp := rfl
@[simp] theorem State.addReason_power (s : State) (i : Nat) : (s.addReason i).power = s.power := rfl
@[simp] theorem State.addReason_now (s : State) (i : Nat) : (s.addReason i).now = s.now := rfl
@[simp] theorem State.addReason_free (s : State) (i : Nat) : (s.addReason i).free = s.free := rfl
@[simp] theorem State.addReason_out (s : State) (i : Nat) : (s.addReason i).out = s.out := rfl
@[simp] theorem State.addReason_pending (s : State) (i : Nat) : (s.addReason i).pending = s.pending := rfl

/-! `State.dropReason` -/
@[simp] theorem State.dropReason_ident (s : State) (i : Nat) : (s.dropReason i).ident = s.ident := rfl
@[simp] theorem State.dropReason_link (s : State) (i : Nat) : (s.dropReason i).link = s.link := rfl
@[simp] theorem State.dropReason_seq (s : State) (i : Nat) : (s.dropReason i).seq = s.seq := rfl
@[simp] theorem State.dropReason_strs (s : State) (i : Nat) : (s.dropReason i).strs = s.strs := rfl
@[simp] theorem State.dropReason_satbus (s : State) (i : Nat) : (s.dropReason i).satbus = s.satbus := rfl
@[simp] theorem State.dropReason_steer (s : State) (i : Nat) : (s.dropReason i).steer = s.steer := rfl
@[simp] theorem State.dropReason_rx (s : State) (i : Nat) : (s.dropReason i).rx = s.rx := rfl
@[simp] theorem State.dropReason_thresh (s : State) (i : Nat) : (s.dropReason i).thresh = s.thresh := rfl
@[simp] theorem State.dropReason_gw (s : State) (i : Nat) : (s.dropReason i).gw = s.gw := rfl
@[simp] theorem State.dropReason_glq (s : State) (i : Nat) : (s.dropReason i).glq = s.glq := rfl
@[simp] theorem State.dropReason_repair (s : State) (i : Nat) : (s.dropReason i).repair = s.repair := rfl
@[simp] theorem State.dropReason_stream (s : State) (i : Nat) : (s.dropReason i).stream = s.stream := rfl
@[simp] theorem State.dropReason_cmds (s : State) (i : Nat) : (s.dropReason i).cmds = s.cmds := rfl
@[simp] theorem State.dropReason_srings (s : State) (i : Nat) : (s.dropReason i).srings = s.srings := rfl
@[simp] theorem State.dropReason_fn0 (s : State) (i : Nat) : (s.dropReason i).fn0 = s.fn0 := rfl
@[simp] theorem State.dropReason_fn1 (s : State) (i : Nat) : (s.dropReason i).fn1 = s.fn1 := rfl
@[simp] theorem State.dropReason_defer0 (s : State) (i : Nat) : (s.dropReason i).defer0 = s.defer0 := rfl
@[simp] theorem State.dropReason_defer1 (s : State) (i : Nat) : (s.dropReason i).defer1 = s.defer1 := rfl
@[simp] theorem State.dropReason_cyc (s : State) (i : Nat) : (s.dropReason i).cyc = s.cyc := rfl
@[simp] theorem State.dropReason_pf0 (s : State) (i : Nat) : (s.dropReason i).pf0 = s.pf0 := rfl
@[simp] theorem State.dropReason_priv (s : State) (i : Nat) : (s.dropReason i).priv = s.priv := rfl
@[simp] theorem State.dropReason_sess (s : State) (i : Nat) : (s.dropReason i).sess = s.sess := rfl
@[simp] theorem State.dropReason_pins (s : State) (i : Nat) : (s.dropReason i).pins = s.pins := rfl
@[simp] theorem State.dropReason_err (s : State) (i : Nat) : (s.dropReason i).err = s.err := rfl
@[simp] theorem State.dropReason_cfg (s : State) (i : Nat) : (s.dropReason i).cfg = s.cfg := rfl
@[simp] theorem State.dropReason_drover (s : State) (i : Nat) : (s.dropReason i).drover = s.drover := rfl
@[simp] theorem State.dropReason_time (s : State) (i : Nat) : (s.dropReason i).time = s.time := rfl
@[simp] theorem State.dropReason_silo (s : State) (i : Nat) : (s.dropReason i).silo = s.silo := rfl
@[simp] theorem State.dropReason_baler (s : State) (i : Nat) : (s.dropReason i).baler = s.baler := rfl
@[simp] theorem State.dropReason_recd (s : State) (i : Nat) : (s.dropReason i).recd = s.recd := rfl
@[simp] theorem State.dropReason_hk (s : State) (i : Nat) : (s.dropReason i).hk = s.hk := rfl
@[simp] theorem State.dropReason_cal (s : State) (i : Nat) : (s.dropReason i).cal = s.cal := rfl
@[simp] theorem State.dropReason_fw (s : State) (i : Nat) : (s.dropReason i).fw = s.fw := rfl
@[simp] theorem State.dropReason_flash (s : State) (i : Nat) : (s.dropReason i).flash = s.flash := rfl
@[simp] theorem State.dropReason_jtag (s : State) (i : Nat) : (s.dropReason i).jtag = s.jtag := rfl
@[simp] theorem State.dropReason_otp (s : State) (i : Nat) : (s.dropReason i).otp = s.otp := rfl
@[simp] theorem State.dropReason_power (s : State) (i : Nat) : (s.dropReason i).power = s.power := rfl
@[simp] theorem State.dropReason_now (s : State) (i : Nat) : (s.dropReason i).now = s.now := rfl
@[simp] theorem State.dropReason_free (s : State) (i : Nat) : (s.dropReason i).free = s.free := rfl
@[simp] theorem State.dropReason_out (s : State) (i : Nat) : (s.dropReason i).out = s.out := rfl
@[simp] theorem State.dropReason_pending (s : State) (i : Nat) : (s.dropReason i).pending = s.pending := rfl

/-! `State.integrityFault` -/
@[simp] theorem State.integrityFault_ident (s : State) (k : Nat) : (s.integrityFault k).ident = s.ident := rfl
@[simp] theorem State.integrityFault_link (s : State) (k : Nat) : (s.integrityFault k).link = s.link := rfl
@[simp] theorem State.integrityFault_seq (s : State) (k : Nat) : (s.integrityFault k).seq = s.seq := rfl
@[simp] theorem State.integrityFault_strs (s : State) (k : Nat) : (s.integrityFault k).strs = s.strs := rfl
@[simp] theorem State.integrityFault_satbus (s : State) (k : Nat) : (s.integrityFault k).satbus = s.satbus := rfl
@[simp] theorem State.integrityFault_steer (s : State) (k : Nat) : (s.integrityFault k).steer = s.steer := rfl
@[simp] theorem State.integrityFault_rx (s : State) (k : Nat) : (s.integrityFault k).rx = s.rx := rfl
@[simp] theorem State.integrityFault_thresh (s : State) (k : Nat) : (s.integrityFault k).thresh = s.thresh := rfl
@[simp] theorem State.integrityFault_gw (s : State) (k : Nat) : (s.integrityFault k).gw = s.gw := rfl
@[simp] theorem State.integrityFault_glq (s : State) (k : Nat) : (s.integrityFault k).glq = s.glq := rfl
@[simp] theorem State.integrityFault_repair (s : State) (k : Nat) : (s.integrityFault k).repair = s.repair := rfl
@[simp] theorem State.integrityFault_stream (s : State) (k : Nat) : (s.integrityFault k).stream = s.stream := rfl
@[simp] theorem State.integrityFault_cmds (s : State) (k : Nat) : (s.integrityFault k).cmds = s.cmds := rfl
@[simp] theorem State.integrityFault_srings (s : State) (k : Nat) : (s.integrityFault k).srings = s.srings := rfl
@[simp] theorem State.integrityFault_fn0 (s : State) (k : Nat) : (s.integrityFault k).fn0 = s.fn0 := rfl
@[simp] theorem State.integrityFault_fn1 (s : State) (k : Nat) : (s.integrityFault k).fn1 = s.fn1 := rfl
@[simp] theorem State.integrityFault_defer0 (s : State) (k : Nat) : (s.integrityFault k).defer0 = s.defer0 := rfl
@[simp] theorem State.integrityFault_defer1 (s : State) (k : Nat) : (s.integrityFault k).defer1 = s.defer1 := rfl
@[simp] theorem State.integrityFault_cyc (s : State) (k : Nat) : (s.integrityFault k).cyc = s.cyc := rfl
@[simp] theorem State.integrityFault_pf0 (s : State) (k : Nat) : (s.integrityFault k).pf0 = s.pf0 := rfl
@[simp] theorem State.integrityFault_priv (s : State) (k : Nat) : (s.integrityFault k).priv = s.priv := rfl
@[simp] theorem State.integrityFault_sess (s : State) (k : Nat) : (s.integrityFault k).sess = s.sess := rfl
@[simp] theorem State.integrityFault_dev (s : State) (k : Nat) : (s.integrityFault k).dev = s.dev := rfl
@[simp] theorem State.integrityFault_pins (s : State) (k : Nat) : (s.integrityFault k).pins = s.pins := rfl
@[simp] theorem State.integrityFault_cfg (s : State) (k : Nat) : (s.integrityFault k).cfg = s.cfg := rfl
@[simp] theorem State.integrityFault_drover (s : State) (k : Nat) : (s.integrityFault k).drover = s.drover := rfl
@[simp] theorem State.integrityFault_time (s : State) (k : Nat) : (s.integrityFault k).time = s.time := rfl
@[simp] theorem State.integrityFault_silo (s : State) (k : Nat) : (s.integrityFault k).silo = s.silo := rfl
@[simp] theorem State.integrityFault_baler (s : State) (k : Nat) : (s.integrityFault k).baler = s.baler := rfl
@[simp] theorem State.integrityFault_recd (s : State) (k : Nat) : (s.integrityFault k).recd = s.recd := rfl
@[simp] theorem State.integrityFault_hk (s : State) (k : Nat) : (s.integrityFault k).hk = s.hk := rfl
@[simp] theorem State.integrityFault_cal (s : State) (k : Nat) : (s.integrityFault k).cal = s.cal := rfl
@[simp] theorem State.integrityFault_fw (s : State) (k : Nat) : (s.integrityFault k).fw = s.fw := rfl
@[simp] theorem State.integrityFault_flash (s : State) (k : Nat) : (s.integrityFault k).flash = s.flash := rfl
@[simp] theorem State.integrityFault_jtag (s : State) (k : Nat) : (s.integrityFault k).jtag = s.jtag := rfl
@[simp] theorem State.integrityFault_otp (s : State) (k : Nat) : (s.integrityFault k).otp = s.otp := rfl
@[simp] theorem State.integrityFault_power (s : State) (k : Nat) : (s.integrityFault k).power = s.power := rfl
@[simp] theorem State.integrityFault_now (s : State) (k : Nat) : (s.integrityFault k).now = s.now := rfl
@[simp] theorem State.integrityFault_free (s : State) (k : Nat) : (s.integrityFault k).free = s.free := rfl
@[simp] theorem State.integrityFault_out (s : State) (k : Nat) : (s.integrityFault k).out = s.out := rfl
@[simp] theorem State.integrityFault_pending (s : State) (k : Nat) : (s.integrityFault k).pending = s.pending := rfl

/-- The passing of time moves the clocks and the counters of cycles, and nothing else. -/
theorem State.advance_only (s : State) (dt : Nat) : ∃ units clk re c l, s.advance dt = { s with
    now := s.now + dt, time := { s.time with units := units }, seq := { s.seq with rangingClk := clk }, cal := { s.cal with replanT := re }
    priv := { s.priv with cnt := c, samplePend := l } } := by
  unfold State.advance
  obtain ⟨c, l, h⟩ := State.countIf_only _ _ _ _
  obtain ⟨c', l', h'⟩ := State.countIf_only _ _ _ _
  rw [h, h']
  exact ⟨_, _, _, c, l, rfl⟩

/-! Fields inside a changed component. -/
@[simp] theorem State.setWord_word (s : State) (w : Word) : (s.setWord w).dev.word = w := rfl
@[simp] theorem State.setWord_wordC (s : State) (w : Word) : (s.setWord w).dev.wordC = ~~~ w := rfl
@[simp] theorem State.setWord_reasons (s : State) (w : Word) : (s.setWord w).dev.reasons = s.dev.reasons := rfl
@[simp] theorem State.mapCmd_inflight (s : State) (n : Nat) (f : InFlight → InFlight) :
    (s.mapCmd n f).cmds.inflight = s.cmds.inflight.map fun e => if e.sub = n then f e else e := rfl
@[simp] theorem State.mapPort_lanes (s : State) (p : Nat) (f : Port → Port) : (s.mapPort p f).drover.lanes = s.drover.lanes := rfl
@[simp] theorem State.mapLane_ports (s : State) (l : Nat) (f : LaneSt → LaneSt) : (s.mapLane l f).drover.ports = s.drover.ports := rfl
@[simp] theorem State.mapCh_groups (s : State) (c : Nat) (f : ChanState → ChanState) : (s.mapCh c f).rx.groups = s.rx.groups := rfl
@[simp] theorem State.mapGroup_chans (s : State) (g : Nat) (f : BiasGroup → BiasGroup) : (s.mapGroup g f).rx.chans = s.rx.chans := rfl

end Sys2Proof.Machine
end

