-- ==== Sys2Proof/Laws/Table.lean ====
section
/-! SUPPORT. Sparse tables: what is read after a write, and the same for the parts of State held in one. -/

namespace Sys2Proof.Machine

theorem Tab.find_put_same {α : Type} (k : Nat) (v : α) (l : List (Nat × α)) : Tab.find k (Tab.put k v l) = some v := by
  induction l with
  | nil => simp [Tab.put, Tab.find]
  | cons p rest ih =>
    obtain ⟨i, w⟩ := p
    unfold Tab.put
    split
    · simp [Tab.find]
    · split
      · simp [Tab.find]
      · simp [Tab.find, *]

theorem Tab.find_put_other {α : Type} (k j : Nat) (v : α) (l : List (Nat × α)) (h : j ≠ k) : Tab.find j (Tab.put k v l) = Tab.find j l := by
  induction l with
  | nil => simp [Tab.put, Tab.find, Ne.symm h]
  | cons p rest ih =>
    obtain ⟨i, w⟩ := p
    unfold Tab.put
    split
    · next hi => subst hi; simp [Tab.find, Ne.symm h]
    · split
      · simp [Tab.find, Ne.symm h]
      · simp [Tab.find, ih]

/-- A read after a write of the same number gives the value written. -/
@[simp] theorem Tab.get_set_same {α : Type} (t : Tab α) (k : Nat) (v : α) : (t.set k v).get k = v := by
  simp [Tab.get, Tab.set, Tab.find_put_same]

/-- A write leaves every other number alone. -/
theorem Tab.get_set_other {α : Type} (t : Tab α) (k j : Nat) (v : α) (h : j ≠ k) : (t.set k v).get j = t.get j := by
  simp [Tab.get, Tab.set, Tab.find_put_other k j v _ h]

@[simp] theorem Tab.get_upd_same {α : Type} (t : Tab α) (k : Nat) (f : α → α) : (t.upd k f).get k = f (t.get k) := by simp [Tab.upd]

theorem Tab.get_upd_other {α : Type} (t : Tab α) (k j : Nat) (f : α → α) (h : j ≠ k) : (t.upd k f).get j = t.get j := by
  simp [Tab.upd, Tab.get_set_other _ _ _ _ h]

@[simp] theorem Tab.get_empty {α : Type} (d : α) (k : Nat) : (Tab.get ⟨d, []⟩ k : α) = d := rfl

@[simp] theorem State.mapStr_str_same (s : State) (i : Nat) (f : StrState → StrState) : (s.mapStr i f).str i = f (s.str i) := Tab.get_upd_same _ _ _

theorem State.mapStr_str_other (s : State) (i j : Nat) (f : StrState → StrState) (h : j ≠ i) : (s.mapStr i f).str j = s.str j :=
  Tab.get_upd_other _ _ _ _ h

@[simp] theorem State.mapCh_ch_same (s : State) (c : Nat) (f : ChanState → ChanState) : (s.mapCh c f).ch c = f (s.ch c) := Tab.get_upd_same _ _ _

theorem State.mapCh_ch_other (s : State) (c d : Nat) (f : ChanState → ChanState) (h : d ≠ c) : (s.mapCh c f).ch d = s.ch d :=
  Tab.get_upd_other _ _ _ _ h

@[simp] theorem State.mapGw_gw_same (s : State) (a : Nat) (f : GwState → GwState) : (s.mapGw a f).gw.get a = f (s.gw.get a) := Tab.get_upd_same _ _ _

theorem State.mapGw_gw_other (s : State) (a b : Nat) (f : GwState → GwState) (h : b ≠ a) : (s.mapGw a f).gw.get b = s.gw.get b :=
  Tab.get_upd_other _ _ _ _ h

@[simp] theorem State.mapRing_ring_same (s : State) (r : Nat) (f : StreamRing → StreamRing) : (s.mapRing r f).srings.get r = f (s.srings.get r) :=
  Tab.get_upd_same _ _ _

theorem State.mapRing_ring_other (s : State) (r q : Nat) (f : StreamRing → StreamRing) (h : q ≠ r) : (s.mapRing r f).srings.get q = s.srings.get q :=
  Tab.get_upd_other _ _ _ _ h

end Sys2Proof.Machine
end

