-- ==== Sys2Proof/Laws/Step.lean ====
section
/-! SUPPORT. What one step can do, said once: every meaning ends in `endStep`, which keeps the queue, the identity and the fuses; and how a command
of the Grazil set runs once it starts. -/

namespace Sys2Proof.Machine

@[simp] theorem endStep_now (dt : Nat) (s u : State) : (endStep dt s u).now = s.now + dt := by simp only [endStep]
@[simp] theorem endStep_pending (dt : Nat) (s u : State) : (endStep dt s u).pending = s.pending := by simp only [endStep]
@[simp] theorem endStep_ident (dt : Nat) (s u : State) : (endStep dt s u).ident = s.ident := by simp only [endStep]
@[simp] theorem endStep_otp (dt : Nat) (s u : State) : (endStep dt s u).otp = s.otp.burn u.otp := by simp only [endStep]

/-- A step of a block in HOLD to SAFE has the effect of its command. -/
theorem runUp_up (dt : Nat) (s : State) (f : State → State) (h : s.holdUp = true) : runUp dt s f = .next (endStep dt s (f (s.advance dt))) := by
  have : (s.advance dt).holdUp = true := by simpa [State.holdUp, State.isIn, State.code] using h
  unfold runUp run
  simp [this]

/-- A step of a block that is not up changes nothing but the time. -/
theorem runUp_down (dt : Nat) (s : State) (f : State → State) (h : s.holdUp = false) : runUp dt s f = .next (endStep dt s (s.advance dt)) := by
  have : (s.advance dt).holdUp = false := by simpa [State.holdUp, State.isIn, State.code] using h
  unfold runUp run
  simp [this]

/-- A write that meets no reserved bit has the effect of its command. -/
theorem runW_clear (dt : Nat) (s : State) (r : Bool) (f : State → State) (h : r = false) : runW dt s r f = .next (endStep dt s (f (s.advance dt))) := by
  subst h
  rfl

/-! The state in which a command has started differs from the one before in its commands in flight and in the session's last use. -/

@[simp] theorem begunAt_ident (t : State) (op sub : Nat) : (begunAt t op sub).ident = t.ident := by unfold begunAt; dsimp only; split <;> rfl
@[simp] theorem begunAt_link (t : State) (op sub : Nat) : (begunAt t op sub).link = t.link := by unfold begunAt; dsimp only; split <;> rfl
@[simp] theorem begunAt_seq (t : State) (op sub : Nat) : (begunAt t op sub).seq = t.seq := by unfold begunAt; dsimp only; split <;> rfl
@[simp] theorem begunAt_strs (t : State) (op sub : Nat) : (begunAt t op sub).strs = t.strs := by unfold begunAt; dsimp only; split <;> rfl
@[simp] theorem begunAt_satbus (t : State) (op sub : Nat) : (begunAt t op sub).satbus = t.satbus := by unfold begunAt; dsimp only; split <;> rfl
@[simp] theorem begunAt_steer (t : State) (op sub : Nat) : (begunAt t op sub).steer = t.steer := by unfold begunAt; dsimp only; split <;> rfl
@[simp] theorem begunAt_rx (t : State) (op sub : Nat) : (begunAt t op sub).rx = t.rx := by unfold begunAt; dsimp only; split <;> rfl
@[simp] theorem begunAt_thresh (t : State) (op sub : Nat) : (begunAt t op sub).thresh = t.thresh := by unfold begunAt; dsimp only; split <;> rfl
@[simp] theorem begunAt_gw (t : State) (op sub : Nat) : (begunAt t op sub).gw = t.gw := by unfold begunAt; dsimp only; split <;> rfl
@[simp] theorem begunAt_glq (t : State) (op sub : Nat) : (begunAt t op sub).glq = t.glq := by unfold begunAt; dsimp only; split <;> rfl
@[simp] theorem begunAt_repair (t : State) (op sub : Nat) : (begunAt t op sub).repair = t.repair := by unfold begunAt; dsimp only; split <;> rfl
@[simp] theorem begunAt_stream (t : State) (op sub : Nat) : (begunAt t op sub).stream = t.stream := by unfold begunAt; dsimp only; split <;> rfl
@[simp] theorem begunAt_srings (t : State) (op sub : Nat) : (begunAt t op sub).srings = t.srings := by unfold begunAt; dsimp only; split <;> rfl
@[simp] theorem begunAt_fn0 (t : State) (op sub : Nat) : (begunAt t op sub).fn0 = t.fn0 := by unfold begunAt; dsimp only; split <;> rfl
@[simp] theorem begunAt_fn1 (t : State) (op sub : Nat) : (begunAt t op sub).fn1 = t.fn1 := by unfold begunAt; dsimp only; split <;> rfl
@[simp] theorem begunAt_defer0 (t : State) (op sub : Nat) : (begunAt t op sub).defer0 = t.defer0 := by unfold begunAt; dsimp only; split <;> rfl
@[simp] theorem begunAt_defer1 (t : State) (op sub : Nat) : (begunAt t op sub).defer1 = t.defer1 := by unfold begunAt; dsimp only; split <;> rfl
@[simp] theorem begunAt_cyc (t : State) (op sub : Nat) : (begunAt t op sub).cyc = t.cyc := by unfold begunAt; dsimp only; split <;> rfl
@[simp] theorem begunAt_pf0 (t : State) (op sub : Nat) : (begunAt t op sub).pf0 = t.pf0 := by unfold begunAt; dsimp only; split <;> rfl
@[simp] theorem begunAt_sess (t : State) (op sub : Nat) : (begunAt t op sub).sess = t.sess := by unfold begunAt; dsimp only; split <;> rfl
@[simp] theorem begunAt_dev (t : State) (op sub : Nat) : (begunAt t op sub).dev = t.dev := by unfold begunAt; dsimp only; split <;> rfl
@[simp] theorem begunAt_pins (t : State) (op sub : Nat) : (begunAt t op sub).pins = t.pins := by unfold begunAt; dsimp only; split <;> rfl
@[simp] theorem begunAt_err (t : State) (op sub : Nat) : (begunAt t op sub).err = t.err := by unfold begunAt; dsimp only; split <;> rfl
@[simp] theorem begunAt_cfg (t : State) (op sub : Nat) : (begunAt t op sub).cfg = t.cfg := by unfold begunAt; dsimp only; split <;> rfl
@[simp] theorem begunAt_drover (t : State) (op sub : Nat) : (begunAt t op sub).drover = t.drover := by unfold begunAt; dsimp only; split <;> rfl
@[simp] theorem begunAt_time (t : State) (op sub : Nat) : (begunAt t op sub).time = t.time := by unfold begunAt; dsimp only; split <;> rfl
@[simp] theorem begunAt_silo (t : State) (op sub : Nat) : (begunAt t op sub).silo = t.silo := by unfold begunAt; dsimp only; split <;> rfl
@[simp] theorem begunAt_baler (t : State) (op sub : Nat) : (begunAt t op sub).baler = t.baler := by unfold begunAt; dsimp only; split <;> rfl
@[simp] theorem begunAt_recd (t : State) (op sub : Nat) : (begunAt t op sub).recd = t.recd := by unfold begunAt; dsimp only; split <;> rfl
@[simp] theorem begunAt_hk (t : State) (op sub : Nat) : (begunAt t op sub).hk = t.hk := by unfold begunAt; dsimp only; split <;> rfl
@[simp] theorem begunAt_cal (t : State) (op sub : Nat) : (begunAt t op sub).cal = t.cal := by unfold begunAt; dsimp only; split <;> rfl
@[simp] theorem begunAt_fw (t : State) (op sub : Nat) : (begunAt t op sub).fw = t.fw := by unfold begunAt; dsimp only; split <;> rfl
@[simp] theorem begunAt_flash (t : State) (op sub : Nat) : (begunAt t op sub).flash = t.flash := by unfold begunAt; dsimp only; split <;> rfl
@[simp] theorem begunAt_jtag (t : State) (op sub : Nat) : (begunAt t op sub).jtag = t.jtag := by unfold begunAt; dsimp only; split <;> rfl
@[simp] theorem begunAt_otp (t : State) (op sub : Nat) : (begunAt t op sub).otp = t.otp := by unfold begunAt; dsimp only; split <;> rfl
@[simp] theorem begunAt_power (t : State) (op sub : Nat) : (begunAt t op sub).power = t.power := by unfold begunAt; dsimp only; split <;> rfl
@[simp] theorem begunAt_now (t : State) (op sub : Nat) : (begunAt t op sub).now = t.now := by unfold begunAt; dsimp only; split <;> rfl
@[simp] theorem begunAt_free (t : State) (op sub : Nat) : (begunAt t op sub).free = t.free := by unfold begunAt; dsimp only; split <;> rfl
@[simp] theorem begunAt_out (t : State) (op sub : Nat) : (begunAt t op sub).out = t.out := by unfold begunAt; dsimp only; split <;> rfl
@[simp] theorem begunAt_pending (t : State) (op sub : Nat) : (begunAt t op sub).pending = t.pending := by unfold begunAt; dsimp only; split <;> rfl
@[simp] theorem begun_ident (s : State) (dt op sub : Nat) : (begun s dt op sub).ident = (s.advance dt).ident := begunAt_ident _ _ _
@[simp] theorem begun_link (s : State) (dt op sub : Nat) : (begun s dt op sub).link = (s.advance dt).link := begunAt_link _ _ _
@[simp] theorem begun_seq (s : State) (dt op sub : Nat) : (begun s dt op sub).seq = (s.advance dt).seq := begunAt_seq _ _ _
@[simp] theorem begun_strs (s : State) (dt op sub : Nat) : (begun s dt op sub).strs = (s.advance dt).strs := begunAt_strs _ _ _
@[simp] theorem begun_satbus (s : State) (dt op sub : Nat) : (begun s dt op sub).satbus = (s.advance dt).satbus := begunAt_satbus _ _ _
@[simp] theorem begun_steer (s : State) (dt op sub : Nat) : (begun s dt op sub).steer = (s.advance dt).steer := begunAt_steer _ _ _
@[simp] theorem begun_rx (s : State) (dt op sub : Nat) : (begun s dt op sub).rx = (s.advance dt).rx := begunAt_rx _ _ _
@[simp] theorem begun_thresh (s : State) (dt op sub : Nat) : (begun s dt op sub).thresh = (s.advance dt).thresh := begunAt_thresh _ _ _
@[simp] theorem begun_gw (s : State) (dt op sub : Nat) : (begun s dt op sub).gw = (s.advance dt).gw := begunAt_gw _ _ _
@[simp] theorem begun_glq (s : State) (dt op sub : Nat) : (begun s dt op sub).glq = (s.advance dt).glq := begunAt_glq _ _ _
@[simp] theorem begun_repair (s : State) (dt op sub : Nat) : (begun s dt op sub).repair = (s.advance dt).repair := begunAt_repair _ _ _
@[simp] theorem begun_stream (s : State) (dt op sub : Nat) : (begun s dt op sub).stream = (s.advance dt).stream := begunAt_stream _ _ _
@[simp] theorem begun_srings (s : State) (dt op sub : Nat) : (begun s dt op sub).srings = (s.advance dt).srings := begunAt_srings _ _ _
@[simp] theorem begun_fn0 (s : State) (dt op sub : Nat) : (begun s dt op sub).fn0 = (s.advance dt).fn0 := begunAt_fn0 _ _ _
@[simp] theorem begun_fn1 (s : State) (dt op sub : Nat) : (begun s dt op sub).fn1 = (s.advance dt).fn1 := begunAt_fn1 _ _ _
@[simp] theorem begun_defer0 (s : State) (dt op sub : Nat) : (begun s dt op sub).defer0 = (s.advance dt).defer0 := begunAt_defer0 _ _ _
@[simp] theorem begun_defer1 (s : State) (dt op sub : Nat) : (begun s dt op sub).defer1 = (s.advance dt).defer1 := begunAt_defer1 _ _ _
@[simp] theorem begun_cyc (s : State) (dt op sub : Nat) : (begun s dt op sub).cyc = (s.advance dt).cyc := begunAt_cyc _ _ _
@[simp] theorem begun_pf0 (s : State) (dt op sub : Nat) : (begun s dt op sub).pf0 = (s.advance dt).pf0 := begunAt_pf0 _ _ _
@[simp] theorem begun_sess (s : State) (dt op sub : Nat) : (begun s dt op sub).sess = (s.advance dt).sess := begunAt_sess _ _ _
@[simp] theorem begun_dev (s : State) (dt op sub : Nat) : (begun s dt op sub).dev = (s.advance dt).dev := begunAt_dev _ _ _
@[simp] theorem begun_pins (s : State) (dt op sub : Nat) : (begun s dt op sub).pins = (s.advance dt).pins := begunAt_pins _ _ _
@[simp] theorem begun_err (s : State) (dt op sub : Nat) : (begun s dt op sub).err = (s.advance dt).err := begunAt_err _ _ _
@[simp] theorem begun_cfg (s : State) (dt op sub : Nat) : (begun s dt op sub).cfg = (s.advance dt).cfg := begunAt_cfg _ _ _
@[simp] theorem begun_drover (s : State) (dt op sub : Nat) : (begun s dt op sub).drover = (s.advance dt).drover := begunAt_drover _ _ _
@[simp] theorem begun_time (s : State) (dt op sub : Nat) : (begun s dt op sub).time = (s.advance dt).time := begunAt_time _ _ _
@[simp] theorem begun_silo (s : State) (dt op sub : Nat) : (begun s dt op sub).silo = (s.advance dt).silo := begunAt_silo _ _ _
@[simp] theorem begun_baler (s : State) (dt op sub : Nat) : (begun s dt op sub).baler = (s.advance dt).baler := begunAt_baler _ _ _
@[simp] theorem begun_recd (s : State) (dt op sub : Nat) : (begun s dt op sub).recd = (s.advance dt).recd := begunAt_recd _ _ _
@[simp] theorem begun_hk (s : State) (dt op sub : Nat) : (begun s dt op sub).hk = (s.advance dt).hk := begunAt_hk _ _ _
@[simp] theorem begun_cal (s : State) (dt op sub : Nat) : (begun s dt op sub).cal = (s.advance dt).cal := begunAt_cal _ _ _
@[simp] theorem begun_fw (s : State) (dt op sub : Nat) : (begun s dt op sub).fw = (s.advance dt).fw := begunAt_fw _ _ _
@[simp] theorem begun_flash (s : State) (dt op sub : Nat) : (begun s dt op sub).flash = (s.advance dt).flash := begunAt_flash _ _ _
@[simp] theorem begun_jtag (s : State) (dt op sub : Nat) : (begun s dt op sub).jtag = (s.advance dt).jtag := begunAt_jtag _ _ _
@[simp] theorem begun_otp (s : State) (dt op sub : Nat) : (begun s dt op sub).otp = (s.advance dt).otp := begunAt_otp _ _ _
@[simp] theorem begun_power (s : State) (dt op sub : Nat) : (begun s dt op sub).power = (s.advance dt).power := begunAt_power _ _ _
@[simp] theorem begun_now (s : State) (dt op sub : Nat) : (begun s dt op sub).now = (s.advance dt).now := begunAt_now _ _ _
@[simp] theorem begun_free (s : State) (dt op sub : Nat) : (begun s dt op sub).free = (s.advance dt).free := begunAt_free _ _ _
@[simp] theorem begun_out (s : State) (dt op sub : Nat) : (begun s dt op sub).out = (s.advance dt).out := begunAt_out _ _ _
@[simp] theorem begun_pending (s : State) (dt op sub : Nat) : (begun s dt op sub).pending = (s.advance dt).pending := begunAt_pending _ _ _

/-- A command of the Grazil set that starts in `t` runs its body in the state `begunAt` names. -/
theorem State.gcs_starts_at {t : State} {op sub : Nat} {e : InFlight} {b : Bytes} {payload : Option Bytes} {body : Body}
    (h : Starts t op sub payload e b) : t.gcs op sub payload body =
      (match body e b (begunAt t op sub) with | (u, some c) => u.finish sub c | (u, none) => u) := by
  obtain ⟨h1, h2, h3, h4⟩ := h
  unfold State.gcs
  rw [h1]
  simp only [h2, h3, Bool.not_true, Bool.false_eq_true, if_false, bne_self_eq_false]
  unfold payloadOf at h4
  by_cases hp : e.plen = 0
  · simp only [hp, if_true, Option.some.injEq] at h4 ⊢
    subst h4
    rfl
  · simp only [hp, if_false] at h4 ⊢
    cases payload with
    | none => simp at h4
    | some p =>
      simp only [Option.map_some, Option.some.injEq] at h4
      subst h4
      rfl

/-- Whether a command starts does not change as time passes. -/
theorem starts_advance {s : State} {op sub : Nat} {e : InFlight} {b : Bytes} {payload : Option Bytes} (dt : Nat) (h : Starts s op sub payload e b) :
    Starts (s.advance dt) op sub payload e b := by
  obtain ⟨h1, h2, h3, h4⟩ := h
  refine ⟨by rw [State.advance_cmds]; exact h1, by rw [State.advance_cmds]; exact h2, ?_, h4⟩
  obtain ⟨_, _, _, _, _, h⟩ := s.advance_only dt
  rw [h]; exact h3

/-- A command of the Grazil set that starts runs its body in the state `begun` names. -/
theorem State.gcs_starts {s : State} {op sub dt : Nat} {e : InFlight} {b : Bytes} {payload : Option Bytes} {body : Body}
    (h : Starts s op sub payload e b) : (s.advance dt).gcs op sub payload body =
      (match body e b (begun s dt op sub) with | (t, some c) => t.finish sub c | (t, none) => t) :=
  State.gcs_starts_at (starts_advance dt h)

/-- The command that starts is the one named. -/
theorem starts_sub {s : State} {op sub : Nat} {e : InFlight} {b : Bytes} {payload : Option Bytes} (h : Starts s op sub payload e b) : e.sub = sub := by
  have := List.find?_some h.1
  simp at this
  exact this.1

/-- Every command that runs to a next state ends its step with `endStep`. -/
theorem exec_ends (c : Instr) (s t : State) (h : exec c s = .next t) : ∃ dt u, t = endStep dt s u := by
  have w : ∀ {dt : Nat} {r : Bool} {f : State → State}, runW dt s r f = .next t → ∃ dt u, t = endStep dt s u := by
    intro dt r f hw
    unfold runW at hw
    split at hw
    · cases hw
    · exact ⟨_, _, (Host.Outcome.next.inj hw).symm⟩
  cases c <;> first
    | exact ⟨_, _, (Host.Outcome.next.inj h).symm⟩
    | exact w h

end Sys2Proof.Machine
end

