-- ==== Sys2Proof/WellFormed.lean ====
section
/-! DEFINITION. Which commands are well-formed: every number that names a part of the block names one that exists. -/

namespace Sys2Proof

/-- The operands of a command lie in the ranges of the things they name. -/
def Instr.wf : Instr → Bool
  | .deviceInfo _ _ => true
  | .stateSet _ _ => true
  | .recover _ _ => true
  | .policySet _ _ _ => true
  | .reboot _ _ => true
  | .timeSet _ _ => true
  | .timeSlew _ _ => true
  | .timeSource _ _ _ => true
  | .validate _ _ => true
  | .apply _ _ => true
  | .stageDiscard _ _ => true
  | .stageStatus _ _ => true
  | .configStore _ _ _ => true
  | .schedStage _ _ _ => true
  | .schedStatus _ _ => true
  | .budgetStatus _ _ => true
  | .driveStage _ _ _ => true
  | .driveStatus _ _ => true
  | .stringReverify _ _ => true
  | .rxStage _ _ _ => true
  | .rxStatus _ _ => true
  | .threshStage _ _ _ => true
  | .threshStatus _ _ => true
  | .alertList _ _ => true
  | .reduceStage _ _ _ => true
  | .reduceStatus _ _ => true
  | .gleanStage _ _ _ => true
  | .gleanStatus _ _ => true
  | .gleanTest _ _ => true
  | .gleanForce _ _ => true
  | .outputStage _ _ _ => true
  | .outputStatus _ _ => true
  | .droverStage _ _ _ => true
  | .droverStatus _ _ => true
  | .planIssue _ _ => true
  | .laneService _ _ => true
  | .siloStage _ _ _ => true
  | .siloStatus _ _ => true
  | .balerJob _ _ _ _ => true
  | .balerResume _ _ _ => true
  | .recStart _ _ _ => true
  | .recStop _ _ => true
  | .recStatus _ _ => true
  | .hkStage _ _ _ => true
  | .hkStatus _ _ => true
  | .thermalStatus _ _ => true
  | .calRun _ _ => true
  | .calStatus _ _ => true
  | .calRead _ _ => true
  | .calLoad _ _ _ => true
  | .ledgerRead _ _ => true
  | .redundancyStatus _ _ => true
  | .engineStatus _ _ => true
  | .engineRetire _ _ => true
  | .repairLogClear _ _ => true
  | .snapshot _ _ => true
  | .counterClear _ _ => true
  | .eyeScan _ _ _ => true
  | .loopback _ _ => true
  | .errorRead _ _ => true
  | .fwLoad _ _ _ _ => true
  | .fwHandover _ _ => true
  | .fwStatus _ _ => true
  | .fwCommit _ _ _ => true
  | .sessionChallenge _ _ => true
  | .sessionOpen _ _ _ => true
  | .sessionClose _ _ => true
  | .mbxDb _ v => decide (v < 4294967296)
  | .cmdTail _ r v => decide (r < 4) && decide (v < 4294967296)
  | .cplHead _ r v => decide (r < 4) && decide (v < 4294967296)
  | .cmdRingControlWrite _ r v => decide (r < 4) && decide (v < 4294967296)
  | .commandFetch _ r _ => decide (r < 4)
  | .streamRingControlWrite _ r v => decide (r < 32) && decide (v < 4294967296)
  | .consLo _ r v => decide (r < 32) && decide (v < 4294967296)
  | .timeLo _ _ => true
  | .prodLo _ r _ => decide (r < 32)
  | .counterLowRead _ ofs _ => decide (ofs < 0x100000)
  | .rcFieldRead _ _ _ => true
  | .snap _ => true
  | .msixUnmask _ fn vec => decide (fn < 2) && decide (vec < 64)
  | .registerWrite _ bar _ _ _ => decide (bar < 5)
  | .supplyRise _ _ => true
  | .supplyViolation _ rail _ _ _ => decide (rail < 5)
  | .powerRemoved _ => true
  | .resetEnd _ => true
  | .porNLow _ _ => true
  | .boot _ till _ => decide (till < 12)
  | .pllLock _ _ => true
  | .pllLockRetry _ => true
  | .clockLoss _ _ => true
  | .refclkPcieLoss _ => true
  | .refclkSdsLoss _ clk => decide (clk < 2)
  | .refclkPcie2Loss _ => true
  | .perstN _ _ => true
  | .flrPf0 _ => true
  | .flrPf1 _ => true
  | .linkTrained _ gen _ => decide (gen < 5)
  | .linkDown _ _ => true
  | .d3hotEntry _ fn => decide (fn < 2)
  | .d0Return _ fn => decide (fn < 2)
  | .busMasterDisable _ fn _ => decide (fn < 2)
  | .armEnFall _ => true
  | .armEnRise _ => true
  | .armEnStable _ => true
  | .furrowBoundary _ _ _ => true
  | .cellDeclaration _ slow _ underruns bad seeds => decide (slow < 4294967296) && decide (underruns < 4294967296) && decide (bad < 4294967296) && decide (seeds < 4294967296)
  | .shotDecision _ str _ _ => decide (str < 32)
  | .guardBucketBoundary _ w => decide (w < 4)
  | .guardBlockEnd _ str w => decide (str < 32) && decide (w < 4)
  | .shotFire _ str _ => decide (str < 32)
  | .fireSkew _ str _ => decide (str < 32)
  | .shotJudgement _ str _ _ _ _ => decide (str < 32)
  | .resOvervolt _ str => decide (str < 32)
  | .resRegulation _ str _ _ => decide (str < 32)
  | .gateStuck _ str => decide (str < 32)
  | .stringUnverified _ str => decide (str < 32)
  | .noLight _ str => decide (str < 32)
  | .satbusRefresh _ => true
  | .satbusEchoCheck _ _ _ => true
  | .fastAxisLock _ _ _ _ => true
  | .lossOfLock _ _ => true
  | .acquisitionTimeout _ => true
  | .shotSyncEdge _ => true
  | .shotSyncLost _ => true
  | .slowAxisError _ _ => true
  | .photonEvent _ ch _ _ code codeB _ => decide (ch < 513) && decide (code < 1310720) && decide (codeB < 1310720)
  | .holdoffEnd _ slice => decide (slice < 32)
  | .inputOverload _ ch _ => decide (ch < 513)
  | .candidateArrival _ slice => decide (slice < 32)
  | .pairDelivery _ ch => decide (ch < 513)
  | .sheafOpen _ ch => decide (ch < 513)
  | .ambientEstimate _ ch => decide (ch < 513)
  | .sheafProcessingStart _ ch => decide (ch < 513)
  | .processingTimeOut _ ch => decide (ch < 513)
  | .sheafProcessingEnd _ ch => decide (ch < 513)
  | .sheafRecordRelease _ ch _ => decide (ch < 513)
  | .alertPinRelease _ => true
  | .alertRecordDelivery _ => true
  | .coalesceTimeout _ r => decide (r < 32)
  | .statusHeartbeat _ => true
  | .counterOverflowSample _ _ _ => true
  | .captureWindowClose _ gw _ => decide (gw < 32)
  | .captureReadoutDone _ gw _ => decide (gw < 32)
  | .gainSaturationSwitch _ gw => decide (gw < 32)
  | .gainRangeStep _ gw cond => decide (gw < 32) && decide (cond < 3)
  | .sliceRotation _ gw _ => decide (gw < 32)
  | .sliceSwap _ gw _ => decide (gw < 32)
  | .calgap _ gw => decide (gw < 32)
  | .gleanerStartComplete _ gw => decide (gw < 32)
  | .recoveryComplete _ gw => decide (gw < 32)
  | .engineUe _ pos _ => decide (pos < 1024)
  | .engineTrap _ pos => decide (pos < 1024)
  | .lsCe _ pos _ => decide (pos < 1024)
  | .auditStart _ grp => decide (grp < 4)
  | .spareSelfTestDone _ pos _ => decide (pos < 1024)
  | .compareGate _ pos _ held => decide (pos < 1024) && decide (held ≤ 64)
  | .gateTimeout _ pos _ => decide (pos < 1024)
  | .offlineTestDone _ eng _ => decide (eng < 1088)
  | .bankSubst _ bank cause hit => decide (bank < 96) && decide (1 ≤ cause) && decide (cause ≤ 3) && (hit.isEmpty || decide (hit.length = 3))
  | .bankCopyDone _ hit => hit.isEmpty || decide (hit.length = 3)
  | .repairLogWrite _ => true
  | .channelInputFail _ ch => decide (ch < 513)
  | .detHvPg _ _ => true
  | .calibrationSchedule _ => true
  | .calibrationPassEnd _ stripe pass _ => decide (stripe < 32) && decide (pass < 8)
  | .calStoreWrite _ _ => true
  | .replan _ _ => true
  | .eyeMarginRead _ _ => true
  | .errorPost _ _ kind _ _ => decide (kind < 14)
  | .errorHandling _ => true
  | .autoRecovery _ => true
  | .rangingEntry _ => true
  | .rangingWaitTimeout _ => true
  | .handoverDrainEnd _ => true
  | .standbySelfTestFail _ => true
  | .lockstep _ pair => decide (pair < 2)
  | .standbyReady _ => true
  | .pairReloadDone _ pair _ => decide (pair < 2)
  | .sessionIdleTimeout _ => true
  | .nonceExpiry _ => true
  | .sessionLockoutEnd _ => true
  | .frameReceived _ port rx => decide (port < 4) && rx.all fun x => decide (x.1 < 8) && x.2.all fun v => decide (v < 4)
  | .frameBoundaryTransmit _ port => decide (port < 4)
  | .retransmitTimeout _ port => decide (port < 4)
  | .hello _ port => decide (port < 4)
  | .helloTimer _ port => decide (port < 4)
  | .topo _ port => decide (port < 4)
  | .topoTimer _ => true
  | .topoTimeout _ => true
  | .join _ port => decide (port < 4)
  | .joinTimer _ => true
  | .admitMsg _ port => decide (port < 4)
  | .memberForget _ id => decide (id < 65536)
  | .plan _ port => decide (port < 4)
  | .sync _ port => decide (port < 4)
  | .syncTimer _ port => decide (port < 4)
  | .dreq _ port => decide (port < 4)
  | .dresp _ port => decide (port < 4)
  | .lane _ port => decide (port < 4)
  | .breakMsg _ port => decide (port < 4)
  | .rerouteWaitEnd _ => true
  | .ringReturn _ => true
  | .laneLoss _ l _ _ => decide (l < 8)
  | .portLoss _ port sense => decide (port < 4 ∧ sense.length ≤ 2)
  | .relockAttempt _ l took => decide (l < 8 ∧ took.length ≤ 4)
  | .laneRejoin _ port => decide (port < 4)
  | .shedLevelChange _ port => decide (port < 4)
  | .trainingStepTimeout _ port took => decide (port < 4 ∧ took.length < 5)
  | .trainingComplete _ port m => decide (port < 4 ∧ m.took.length = 5 ∧ m.lanes.length = 2 ∧ m.stamps.length = 4 ∧ m.hello.length = 32)
      && m.lanes.all fun x => decide (x.ctle < 16 ∧ x.ffe.length ≤ 8) && x.updates.all fun u => decide (u.length ≤ 3)
  | .ppsEdge _ => true
  | .timePpsLost _ => true
  | .timeStale _ => true
  | .timeSlewEnd _ => true
  | .bqShareFull _ share _ => decide (share < 6)
  | .ddrUe _ region ring _ _ => decide (region < 6) && decide (ring < 32)
  | .recCommitTimer _ => true
  | .recCommit _ => true
  | .nvmeCompletion _ _ => true
  | .recFault _ _ => true
  | .smartPoll _ _ _ => true
  | .recGap _ => true
  | .balerDestStall _ _ => true
  | .balerTokenExpiry _ slot => decide (slot < 256)
  | .hadcResult _ ch _ => decide (ch < 16)
  | .hadcCalSlot _ _ => true
  | .ondieSensorSample _ _ _ => true
  | .thermalFall _ => true
  | .thermalShutdownReset _ => true
  | .thermalRestart _ => true
  | .boundaryTakenAtOnce _ => true
  | .timeSetPpsTimeout _ => true
  | .resOvervoltComparator _ str _ => decide (str < 32)
  | .sliceMeanCheck _ gw pos _ => decide (gw < 32) && decide (pos < 4)
  | .schedReload _ _ => true

end Sys2Proof
end

