-- ==== Sys2Proof/Tests/Slice0.lean ====
section
/-! SUPPORT. Tests: the well-formedness smoke, a witness for every statement that has hypotheses, and small checks of single commands. -/

namespace Sys2Proof.Tests
set_option Elab.async false

open Sys2Proof.Machine

/-! Small states. -/

/-- A block in state `c`, all else as at reset. -/
def up (c : Nat) : State := { State.reset with dev := { State.reset.dev with word := BitVec.ofNat 32 c, wordC := ~~~ BitVec.ofNat 32 c } }
/-- A command of the Grazil set as a descriptor: its opcode, flags, PAYLOAD_LEN and PARAM. -/
def ce (op flags plen param : Nat) : InFlight :=
  { sub := 1, desc := le 2 op ++ le 2 0 ++ le 4 flags ++ le 4 plen ++ le 4 0 ++ le 8 0 ++ le 8 0 ++ le 32 param }
/-- A block in state `c` with a session open and one command in flight. -/
def cs (c : Nat) (e : InFlight) : State := { up c with cmds := { inflight := [e] }, priv := { opened := true } }
/-- The same with no session. -/
def cs0 (c : Nat) (e : InFlight) : State := { up c with cmds := { inflight := [e] } }
/-- A block whose host link is up. -/
def linked (c : Nat) : State := { up c with pins := { State.reset.pins with perstN := true }, link := { up := true, gen := 4, width := 8 }, fn0 := { bme := true }, fn1 := { bme := true } }

/-- What boot finds: all well. -/
def okBoot : BootReport := { badHash := 0, bqOk := true, badEngines := [], badBanks := [], badConverters := [], badStrings := [], rowcol := []
                             pairs := [true, true], octal := true, flash := true, fusesOk := true, ddr := true, perChannel := 2, badLog := [] }
/-- A training attempt that goes through, with a link delay of 5.0 us. -/
def trainM : TrainMeas := { took := [0, 0, 0, 0, 0], tags := 8, skew := 8000, swapped := false, stamps := [0, 1280000, 0, 1280000], hello := le 32 0
                            lanes := [{ inv := false, updates := [], ctle := 0, ffe := [], dfe := 0 }, { inv := true, updates := [[1, 0, 0]], ctle := 15, ffe := [], dfe := 0 }] }
/-- A conversion at half of full scale, with no fault detector tripped. -/
def hadcM : HadcIn := { nv := 625000000, excA := (0, 0), excB := (0, 0), ainMax := 0 }

/-! Witnesses. Each theorem meets, clause by clause, the hypotheses of the statement it is named for. -/

theorem witness_StepRunsFrontCommand :
    ({ up 3 with pending := [.nonceExpiry 1, .powerRemoved 1] } : State).pending = .nonceExpiry 1 :: [.powerRemoved 1] ∧ State.reset.pending = [] := ⟨rfl, rfl⟩

theorem witness_ExecKeepsQueueAndIdentity : ∃ t, exec (.nonceExpiry 5) (up 1) = .next t := ⟨_, rfl⟩

theorem witness_FusesOnlyBlown : ∃ t, step ({ up 3 with
      otp := { State.reset.otp with fwCtr := 64, provLock := true, ssvid := some 7, schedRev := 1, sessRev := 8
                                    fwHash := [[1]], schedHash := [[1]], sessHash := [[1]] }
      pending := [.lsCe 1 0 false] } : State) = .next t := ⟨_, rfl⟩
theorem witness_FusesOnlyBlown_ok : FusesOk { up 3 with
      otp := { State.reset.otp with fwCtr := 64, provLock := true, ssvid := some 7, schedRev := 1, sessRev := 8
                                    fwHash := [[1]], schedHash := [[1]], sessHash := [[1]] } } := by unfold FusesOk; decide +kernel

theorem witness_SettleOnQuietState : Quiet (up 3) ∧ Quiet State.reset := by
  constructor <;> refine ⟨rfl, by unfold StateWordOk; decide +kernel, ?_, rfl, by decide +kernel, by decide +kernel, by decide +kernel, rfl, by decide +kernel, by decide +kernel, ?_, by decide +kernel⟩
  all_goals exact fun t h => nomatch h

theorem witness_ReservedBitWriteStops :
    (linked 3).reached 0 = true ∧ (linked 3).reached 1 = true ∧ (linked 3).reached 2 = true
    ∧ 0x80000000 &&& 0xFFFFFF00 ≠ 0 ∧ 0x100 &&& 0xFFFFFF00 ≠ 0 ∧ 0x1000 &&& 0xFFFFF000 ≠ 0 ∧ 0x40 &&& 0xFFFFFFC0 ≠ 0 ∧ 0x20000000 &&& 0xE0000000 ≠ 0
    ∧ (linked 3).writeReserved 0 0x58 4 2 = true ∧ (linked 3).writeReserved 0 0x58 8 0x200000000 = true := by decide +kernel

/-! Groups 0x01 and 0x02. -/

theorem witness_DeviceAndTimeCommandsRun :
    Starts (cs 3 (ce 0x0101 0 0 0)) 0x0101 1 none (ce 0x0101 0 0 0) []
    ∧ Starts (cs 5 (ce 0x0102 0 0 5)) 0x0102 1 none (ce 0x0102 0 0 5) []
    ∧ ((ce 0x0102 0 0 5).p 0 0 4 = (cs 5 (ce 0x0102 0 0 5)).code ∧ (cs 5 (ce 0x0102 0 0 5)).isIn [3, 4, 5] = true)
    ∧ Starts (cs 4 (ce 0x0102 0 0 5)) 0x0102 1 none (ce 0x0102 0 0 5) [] ∧ ((ce 0x0102 0 0 5).p 0 0 4 = 5 ∧ (cs 4 (ce 0x0102 0 0 5)).code = 4)
    ∧ Starts (cs 6 (ce 0x0102 0 0 4)) 0x0102 1 none (ce 0x0102 0 0 4) [] ∧ ((ce 0x0102 0 0 4).p 0 0 4 = 4 ∧ (cs 6 (ce 0x0102 0 0 4)).ranges = true)
    ∧ Starts (cs 4 (ce 0x0102 0 0 3)) 0x0102 1 none (ce 0x0102 0 0 3) [] ∧ ((ce 0x0102 0 0 3).p 0 0 4 = 3 ∧ (cs 4 (ce 0x0102 0 0 3)).armedUp = true)
    ∧ Starts (cs 3 (ce 0x0102 0 0 15)) 0x0102 1 none (ce 0x0102 0 0 15) [] ∧ (ce 0x0102 0 0 15).p 0 0 4 = 15
    ∧ Starts (cs 7 (ce 0x0103 0 0 0)) 0x0103 1 none (ce 0x0103 0 0 0) [] ∧ (cs 7 (ce 0x0103 0 0 0)).stream.opened = false
    ∧ Starts { cs 7 (ce 0x0103 0 0 0) with stream := { State.reset.stream with opened := true } } 0x0103 1 none (ce 0x0103 0 0 0) []
    ∧ Starts (cs 3 (ce 0x0104 0 0 1)) 0x0104 1 none (ce 0x0104 0 0 1) []
    ∧ Starts (cs 3 (ce 0x0105 0 0 0)) 0x0105 1 none (ce 0x0105 0 0 0) [] ∧ (ce 0x0105 0 0 0).p 0 0 1 = 0
    ∧ (cs 3 { ce 0x0105 0 0 0 with wait := .reboot }).waiting .reboot = some { ce 0x0105 0 0 0 with wait := .reboot }
    ∧ Starts (cs 3 (ce 0x0106 0 0 7)) 0x0106 1 none (ce 0x0106 0 0 7) [] ∧ (ce 0x0106 0 0 7).p 8 0 1 ≠ 1 ∧ (cs 3 (ce 0x0106 0 0 7)).dev.timeSource ≠ 2
    ∧ Starts (cs 3 (ce 0x0106 0 0 (2 ^ 64))) 0x0106 1 none (ce 0x0106 0 0 (2 ^ 64)) [] ∧ (ce 0x0106 0 0 (2 ^ 64)).p 8 0 1 = 1
    ∧ Starts { cs 3 (ce 0x0106 0 0 7) with dev := { (up 3).dev with timeSource := 2 } } 0x0106 1 none (ce 0x0106 0 0 7) []
    ∧ Starts (cs 3 (ce 0x0107 0 0 (100000 + 60000 * 2 ^ 32))) 0x0107 1 none (ce 0x0107 0 0 (100000 + 60000 * 2 ^ 32)) []
    ∧ (-100000 ≤ signed 32 ((ce 0x0107 0 0 (100000 + 60000 * 2 ^ 32)).p 0 0 32) ∧ signed 32 ((ce 0x0107 0 0 (100000 + 60000 * 2 ^ 32)).p 0 0 32) ≤ 100000
      ∧ 1 ≤ (ce 0x0107 0 0 (100000 + 60000 * 2 ^ 32)).p 4 0 32 ∧ (ce 0x0107 0 0 (100000 + 60000 * 2 ^ 32)).p 4 0 32 ≤ 60000)
    ∧ Starts { cs 3 (ce 0x0107 0 0 7) with dev := { (up 3).dev with timeSource := 2 } } 0x0107 1 none (ce 0x0107 0 0 7) []
    ∧ Starts (cs 3 (ce 0x0108 0 0 3)) 0x0108 1 none (ce 0x0108 0 0 3) [] ∧ (ce 0x0108 0 0 3).p 0 0 2 ≠ 2 := by
  unfold Starts; (repeat' apply And.intro) <;> decide +kernel

/-- A set that differs from the active one in part 8 alone, marked as validated. -/
def val (c p : Nat) : State :=
  { cs c (ce 0x0202 0 0 p) with cfg := { State.reset.cfg with staged := State.reset.cfg.active.put 8 [1], validated := true } }

theorem witness_StagedSetCommandsRun :
    Starts (cs 3 (ce 0x0201 0 0 0)) 0x0201 1 none (ce 0x0201 0 0 0) []
    ∧ Starts (cs 3 (ce 0x0203 0 0 0)) 0x0203 1 none (ce 0x0203 0 0 0) [] ∧ Starts (cs 3 (ce 0x0204 0 0 0)) 0x0204 1 none (ce 0x0204 0 0 0) []
    ∧ Starts (cs 4 (ce 0x0202 0 0 0)) 0x0202 1 none (ce 0x0202 0 0 0) [] ∧ (cs 4 (ce 0x0202 0 0 0)).cfg.validated = false
    ∧ Starts { cs 4 (ce 0x0202 0 0 0) with cfg := { State.reset.cfg with validated := true } } 0x0202 1 none (ce 0x0202 0 0 0) []
    ∧ State.reset.cfg.staged = State.reset.cfg.active
    ∧ Starts (val 4 0) 0x0202 1 none (ce 0x0202 0 0 0) [] ∧ Starts (val 4 1) 0x0202 1 none (ce 0x0202 0 0 1) [] ∧ Starts (val 3 1) 0x0202 1 none (ce 0x0202 0 0 1) []
    ∧ (val 4 0).cfg.staged ≠ (val 4 0).cfg.active ∧ (val 4 0).resizes = false ∧ (val 3 1).resizes = false ∧ (val 3 1).stream.closing = none
    ∧ (∀ n ∈ [1, 2, 10], (val 4 1).cfg.staged.get n = (val 4 1).cfg.active.get n) := by
  unfold Starts; (repeat' apply And.intro) <;> decide +kernel
/-- CONFIG_STORE in HOLD after an APPLY, with an empty flash. -/
def stored : State := { cs 3 (ce 0x0205 0 0 0) with dev := { (up 3).dev with applied := true } }
theorem witness_StagedSetCommandsRun_store :
    Starts stored 0x0205 1 none (ce 0x0205 0 0 0) [] ∧ stored.dev.applied = true ∧ stored.imgPick.elim 0 (fun k => 1 - k) = 0
    ∧ (if stored.imgOk (stored.img 1) then imgGen (stored.img 1) + 1 else 1) = 1 ∧ (imgOf stored.cfg.active 1).length ≤ stored.imgArea := by
  unfold Starts; (repeat' apply And.intro) <;> decide +kernel

/-- A stage command with a payload of `n` bytes that begins with `p`. -/
def stg (op n : Nat) : InFlight := ce op 1 n 0
theorem witness_StageCommandsRun :
    Starts (cs 3 (stg 0x0301 64)) 0x0301 1 (some (le 56 0 ++ le 4 64)) (stg 0x0301 64) (fit 64 (le 56 0 ++ le 4 64))
    ∧ (fit 64 (le 56 0 ++ le 4 64)).length = num (fit 64 (le 56 0 ++ le 4 64)) 0x38 4
    ∧ Starts (cs 3 (stg 0x0301 64)) 0x0301 1 (some []) (stg 0x0301 64) (fit 64 []) ∧ (fit 64 []).length ≠ num (fit 64 []) 0x38 4
    ∧ Starts (cs 3 (stg 0x0304 96)) 0x0304 1 (some (le 44 0 ++ le 4 48)) (stg 0x0304 96) (fit 96 (le 44 0 ++ le 4 48))
    ∧ (fit 96 (le 44 0 ++ le 4 48)).length = 2 * num (fit 96 (le 44 0 ++ le 4 48)) 0x2C 4
    ∧ Starts (cs 3 (stg 0x0304 96)) 0x0304 1 (some []) (stg 0x0304 96) (fit 96 []) ∧ (fit 96 []).length ≠ 2 * num (fit 96 []) 0x2C 4
    ∧ Starts (cs 3 (stg 0x0601 128)) 0x0601 1 (some []) (stg 0x0601 128) (fit 128 []) ∧ Starts (cs 3 (stg 0x0701 256)) 0x0701 1 (some []) (stg 0x0701 256) (fit 256 [])
    ∧ Starts (cs 3 (stg 0x0801 128)) 0x0801 1 (some []) (stg 0x0801 128) (fit 128 []) ∧ (cs 3 (stg 0x0801 128)).isAQ = false ∧ num (fit 128 []) 0x14 4 = 0
    ∧ Starts { cs 3 (stg 0x0801 128) with ident := { State.reset.ident with variant := 1 } } 0x0801 1 (some (le 20 0 ++ le 4 1)) (stg 0x0801 128) (fit 128 (le 20 0 ++ le 4 1))
    ∧ num (fit 128 (le 20 0 ++ le 4 1)) 0x14 4 ≠ 0 := by
  unfold Starts; (repeat' apply And.intro) <;> decide +kernel
/-- The long payloads, whose bytes are not written out. -/
theorem witness_StageCommandsRun_long :
    Starts (cs 3 (stg 0x0401 16928)) 0x0401 1 (some []) (stg 0x0401 16928) (fit 16928 []) ∧ Starts (cs 3 (stg 0x0403 4224)) 0x0403 1 (some []) (stg 0x0403 4224) (fit 4224 [])
    ∧ Starts (cs 3 (stg 0x0406 4224)) 0x0406 1 (some []) (stg 0x0406 4224) (fit 4224 []) ∧ Starts (cs 3 (stg 0x0501 2688)) 0x0501 1 (some []) (stg 0x0501 2688) (fit 2688 [])
    ∧ Starts (cs 3 (stg 0x0901 3584)) 0x0901 1 (some []) (stg 0x0901 3584) (fit 3584 []) := by
  refine ⟨?_, ?_, ?_, ?_, ?_⟩ <;> exact ⟨by decide +kernel, by decide +kernel, by decide +kernel, rfl⟩

/-! Well-formedness: for each check a command that fails it alone, refused; and one that passes all. -/

theorem test_illformed_0 : ([.mbxDb 0 4294967296,
    .cmdTail 0 4 0,
    .cmdTail 0 0 4294967296,
    .cplHead 0 4 0,
    .cplHead 0 0 4294967296,
    .cmdRingControlWrite 0 4 0,
    .cmdRingControlWrite 0 0 4294967296,
    .commandFetch 0 4 none,
    .streamRingControlWrite 0 32 0,
    .streamRingControlWrite 0 0 4294967296,
    .consLo 0 32 0,
    .consLo 0 0 4294967296,
    .prodLo 0 32 4,
    .counterLowRead 0 0x100000 4,
    .msixUnmask 0 2 0,
    .msixUnmask 0 0 64] : List Instr).all (fun i => !i.wf) = true := by decide
theorem test_illformed_1 : ([.registerWrite 0 5 0 0 0,
    .supplyViolation 0 5 0 0 true,
    .refclkSdsLoss 0 2,
    .linkTrained 0 5 0,
    .d3hotEntry 0 2,
    .d0Return 0 2,
    .busMasterDisable 0 2 true,
    .cellDeclaration 0 4294967296 0 0 0 0,
    .cellDeclaration 0 0 0 4294967296 0 0,
    .cellDeclaration 0 0 0 0 4294967296 0,
    .cellDeclaration 0 0 0 0 0 4294967296,
    .shotDecision 0 32 0 true,
    .guardBucketBoundary 0 4,
    .guardBlockEnd 0 32 0,
    .guardBlockEnd 0 0 4] : List Instr).all (fun i => !i.wf) = true := by decide
theorem test_illformed_2 : ([.shotFire 0 32 0,
    .fireSkew 0 32 0,
    .shotJudgement 0 32 0 0 true true,
    .resOvervolt 0 32,
    .resRegulation 0 32 0 true,
    .gateStuck 0 32,
    .stringUnverified 0 32,
    .noLight 0 32,
    .photonEvent 0 513 0 0 0 0 0,
    .photonEvent 0 0 0 0 1310720 0 0,
    .photonEvent 0 0 0 0 0 1310720 0,
    .holdoffEnd 0 32,
    .inputOverload 0 513 true,
    .candidateArrival 0 32,
    .pairDelivery 0 513,
    .sheafOpen 0 513] : List Instr).all (fun i => !i.wf) = true := by decide
theorem test_illformed_3 : ([.ambientEstimate 0 513,
    .sheafProcessingStart 0 513,
    .processingTimeOut 0 513,
    .sheafProcessingEnd 0 513,
    .sheafRecordRelease 0 513 true,
    .coalesceTimeout 0 32,
    .captureWindowClose 0 32 true,
    .captureReadoutDone 0 32 [],
    .gainSaturationSwitch 0 32,
    .gainRangeStep 0 32 0,
    .gainRangeStep 0 0 3,
    .sliceRotation 0 32 [],
    .sliceSwap 0 32 [],
    .calgap 0 32,
    .gleanerStartComplete 0 32,
    .recoveryComplete 0 32] : List Instr).all (fun i => !i.wf) = true := by decide
theorem test_illformed_4 : ([.engineUe 0 1024 true,
    .engineTrap 0 1024,
    .lsCe 0 1024 true,
    .auditStart 0 4,
    .spareSelfTestDone 0 1024 true,
    .compareGate 0 1024 true 0,
    .compareGate 0 0 true 65,
    .gateTimeout 0 1024 true,
    .offlineTestDone 0 1088 true,
    .bankSubst 0 96 1 [],
    .bankSubst 0 0 0 [],
    .bankSubst 0 0 4 [],
    .bankSubst 0 0 1 [1],
    .bankCopyDone 0 [1, 2],
    .channelInputFail 0 513,
    .calibrationPassEnd 0 32 0 [],
    .calibrationPassEnd 0 0 8 [],
    .errorPost 0 0 14 0 [],
    .lockstep 0 2,
    .pairReloadDone 0 2 true,
    .frameReceived 0 4 [],
    .frameReceived 0 0 [(8, [])],
    .frameReceived 0 0 [(0, [4])]] : List Instr).all (fun i => !i.wf) = true := by decide
theorem test_illformed_5 : ([.frameBoundaryTransmit 0 4,
    .retransmitTimeout 0 4,
    .hello 0 4,
    .helloTimer 0 4,
    .topo 0 4,
    .join 0 4,
    .admitMsg 0 4,
    .memberForget 0 65536,
    .plan 0 4,
    .sync 0 4,
    .syncTimer 0 4,
    .dreq 0 4,
    .dresp 0 4,
    .lane 0 4,
    .breakMsg 0 4,
    .laneLoss 0 8 true 0] : List Instr).all (fun i => !i.wf) = true := by decide
theorem test_illformed_6 : ([.portLoss 0 4 [],
    .portLoss 0 0 [(true, 0), (true, 0), (true, 0)],
    .relockAttempt 0 8 [],
    .relockAttempt 0 0 [0, 0, 0, 0, 0],
    .laneRejoin 0 4,
    .shedLevelChange 0 4,
    .trainingStepTimeout 0 4 [],
    .trainingStepTimeout 0 0 [0, 0, 0, 0, 0],
    .trainingComplete 0 4 trainM,
    .trainingComplete 0 0 { trainM with took := [0] },
    .trainingComplete 0 0 { trainM with lanes := [] },
    .trainingComplete 0 0 { trainM with stamps := [0] },
    .trainingComplete 0 0 { trainM with hello := [] },
    .bqShareFull 0 6 0,
    .ddrUe 0 6 0 0 0,
    .ddrUe 0 0 32 0 0,
    .balerTokenExpiry 0 256,
    .hadcResult 0 16 hadcM,
    .resOvervoltComparator 0 32 true,
    .sliceMeanCheck 0 32 0 true,
    .sliceMeanCheck 0 0 4 true] : List Instr).all (fun i => !i.wf) = true := by decide
theorem test_wellformed : ([.photonEvent 0 512 0 0 1310719 0 0, .cmdTail 0 3 4294967295, .bankSubst 0 95 3 [1, 2, 3], .shotFire 0 31 (-5), .trainingComplete 0 3 trainM,
    .frameReceived 0 3 [(7, [3, 0])], .boot 0 11 okBoot] : List Instr).all Instr.wf = true := by decide


/-! Queries. -/

/-- A query `op` in HOLD starts. -/
def q (op param : Nat) : Prop := Starts (cs 3 (ce op 0 0 param)) op 1 none (ce op 0 0 param) []

theorem witness_OpticalQueriesAnswer : q 0x0302 0 ∧ q 0x0303 0 ∧ q 0x0303 0x80000001 ∧ q 0x0404 0 ∧ q 0x0405 0 ∧ q 0x0407 0 ∧ q 0x0305 0 ∧ q 0x0402 0x80000000 ∧ q 0x0502 0 := by
  unfold q Starts; (repeat' apply And.intro) <;> decide +kernel

theorem witness_DeviceQueriesAnswer : q 0x0A21 0 ∧ q 0x0A20 0 ∧ q 0x0C03 0 ∧ q 0x0903 0 ∧ q 0x0902 0 ∧ q 0x0A02 0 ∧ q 0x0A03 5 ∧ q 0x0A10 7 ∧ q 0x0802 0 ∧ q 0x0602 0
    ∧ Starts { cs 3 (ce 0x0807 0 0 0) with ident := { State.reset.ident with variant := 1 } } 0x0807 1 none (ce 0x0807 0 0 0) []
    ∧ ({ cs 3 (ce 0x0807 0 0 0) with ident := { State.reset.ident with variant := 1 } } : State).isAQ = true
    ∧ Starts { cs 3 (ce 0x0807 0 0 0) with recd := { State.reset.recd with lastCommit := some 0 } } 0x0807 1 none (ce 0x0807 0 0 0) []
    ∧ (cs 3 (ce 0x0807 0 0 0)).isAQ = false ∧ q 0x0702 0
    ∧ q 0x0B05 0x10001 ∧ (ce 0x0B05 0 0 0x10001).p 0 0 9 = 1 ∧ (ce 0x0B05 0 0 0x10001).p 0 16 1 = 1
    ∧ q 0x0B05 0x100 ∧ (ce 0x0B05 0 0 0x100).p 0 0 9 = 256 ∧ (ce 0x0B05 0 0 0x100).p 0 16 1 ≠ 1
    ∧ q 0x0B05 0 ∧ (ce 0x0B05 0 0 0).p 0 0 9 = 0 ∧ q 0x0B05 0x101 ∧ (ce 0x0B05 0 0 0x101).p 0 0 9 > 256 := by
  unfold q Starts; (repeat' apply And.intro) <;> decide +kernel

/-! Groups 0x03 to 0x0C. -/

/-- A string faulted with a cause, in ARMED with a command in flight. -/
def faulty (cause : Nat) (e : InFlight) : State := { cs 4 e with strs := State.reset.strs.set 31 { mode := .faulted, cause := cause } }

theorem witness_OpticalCommandsRun :
    Starts (cs 4 (ce 0x0306 0 0 31)) 0x0306 1 none (ce 0x0306 0 0 31) [] ∧ ((cs 4 (ce 0x0306 0 0 31)).str 31).mode ≠ .faulted
    ∧ Starts (faulty 8 (ce 0x0306 0 0 31)) 0x0306 1 none (ce 0x0306 0 0 31) [] ∧ ((faulty 8 (ce 0x0306 0 0 31)).str ((ce 0x0306 0 0 31).p 0 0 5)).cause = 8
    ∧ ((faulty 8 (ce 0x0306 0 0 31)).str ((ce 0x0306 0 0 31).p 0 0 5)).mode = .faulted
    ∧ Starts (faulty 4 (ce 0x0306 0 0 31)) 0x0306 1 none (ce 0x0306 0 0 31) [] ∧ ((faulty 4 (ce 0x0306 0 0 31)).str ((ce 0x0306 0 0 31).p 0 0 5)).cause ≠ 8
    ∧ Starts (cs 4 (ce 0x0503 0 0 0x30000)) 0x0503 1 none (ce 0x0503 0 0 0x30000) [] ∧ (ce 0x0503 0 0 0x30000).p 0 16 2 = 3
    ∧ Starts (cs 4 (ce 0x0503 0 0 0x2001F)) 0x0503 1 none (ce 0x0503 0 0 0x2001F) [] ∧ (ce 0x0503 0 0 0x2001F).p 0 16 2 ≠ 3 ∧ (ce 0x0503 0 0 0x2001F).p 0 8 1 ≠ 1
    ∧ Starts (cs 4 (ce 0x0503 0 0 0x0011F)) 0x0503 1 none (ce 0x0503 0 0 0x0011F) [] ∧ (ce 0x0503 0 0 0x0011F).p 0 8 1 = 1
    ∧ ((cs 4 (ce 0x0503 0 0 0x0011F)).gw.get 31).on = false
    ∧ Starts { cs 4 (ce 0x0503 0 0 0x0011F) with gw := ⟨{ mode := .normal }, []⟩ } 0x0503 1 none (ce 0x0503 0 0 0x0011F) []
    ∧ ((⟨{ mode := .normal }, []⟩ : Tab GwState).get 31).on = true
    ∧ Starts (cs 4 (ce 0x0504 0 0 0xF01FF001F)) 0x0504 1 none (ce 0x0504 0 0 0xF01FF001F) [] := by
  unfold Starts; (repeat' apply And.intro) <;> decide +kernel

/-- The root of a Drover domain: its active Drover descriptor gives ROLE 1. -/
def root (s : State) : State := { s with cfg := { s.cfg with active := s.cfg.active.put 10 (le 16 (2 ^ 80) ++ le 240 0) } }
/-- PLAN_ISSUE with every field at a limit. -/
def planE : InFlight := ce 0x0703 0 0 (2 ^ 31 - 1 + 1023 * 2 ^ 32 + 65535 * 2 ^ 48 + 60000000000 * 2 ^ 64)
/-- A block with lane 7 out of service, and a command in flight. -/
def laneOutS (e : InFlight) : State := { cs 3 e with drover := { State.reset.drover with lanes := State.reset.drover.lanes.set 7 { state := 1, outBy := true } } }
/-- A block with lane 0 in service, and a command in flight. -/
def laneInS (e : InFlight) : State := { cs 3 e with drover := { State.reset.drover with lanes := State.reset.drover.lanes.set 0 { state := 0 } } }

theorem witness_DroverCommandsRun :
    q 0x0703 1 ∧ (cs 3 (ce 0x0703 0 0 1)).role ≠ 1
    ∧ Starts (root (cs 3 planE)) 0x0703 1 none planE [] ∧ (root (cs 3 planE)).role = 1 ∧ 0 < planE.p 0 0 32 ∧ planE.p 0 0 32 < 2 ^ 31 ∧ planE.p 4 0 16 = 1023
    ∧ planE.p 4 16 16 ≠ 0 ∧ planE.p 4 16 16 ≠ (root (cs 3 planE)).domEpoch ∧ ((root (cs 3 planE)).advance 0).deviceTime.toNat + 10000000 ≤ planE.p64 8
    ∧ planE.p64 8 ≤ ((root (cs 3 planE)).advance 0).deviceTime.toNat + 60000000000
    ∧ q 0x0704 0x107 ∧ (ce 0x0704 0 0 0x107).p 0 8 1 = 1 ∧ q 0x0704 7 ∧ (ce 0x0704 0 0 7).p 0 8 1 ≠ 1
    ∧ q 0x0B04 0xF07 ∧ (ce 0x0B04 0 0 0xF07).p 0 8 4 > 3 ∧ Starts (laneInS (ce 0x0B04 0 0 0x300)) 0x0B04 1 none (ce 0x0B04 0 0 0x300) []
    ∧ (ce 0x0B04 0 0 0x300).p 0 8 4 ≤ 3 ∧ ((laneInS (ce 0x0B04 0 0 0x300)).lane 0).state = 0
    ∧ Starts (laneOutS (ce 0x0B04 0 0 7)) 0x0B04 1 none (ce 0x0B04 0 0 7) [] ∧ ((laneOutS (ce 0x0B04 0 0 7)).lane 7).state ≠ 0 ∧ (ce 0x0B04 0 0 7).p 0 8 4 = 0
    ∧ Starts (laneOutS (ce 0x0B04 0 0 0x107)) 0x0B04 1 none (ce 0x0B04 0 0 0x107) [] ∧ (ce 0x0B04 0 0 0x107).p 0 8 4 = 1
    ∧ q 0x0B03 0x407 ∧ (ce 0x0B03 0 0 0x407).p 0 8 4 > 3 ∧ q 0x0B03 0x307 ∧ (ce 0x0B03 0 0 0x307).p 0 8 4 ≤ 3 ∧ (cs 3 (ce 0x0B03 0 0 0x307)).isA0 = false := by
  unfold q Starts; (repeat' apply And.intro) <;> decide +kernel

/-- ENGINE_RETIRE of position 1023 in ARMED. -/
def retE : InFlight := ce 0x0A22 0 0 1023
theorem witness_PrivilegedCommandsRun : q 0x0B01 0 ∧ q 0x0B02 0 ∧ q 0x0A24 0x1FFFF ∧ Starts (cs 4 retE) 0x0A22 1 none retE []
    ∧ ((cs 4 retE).eng ((cs 4 retE).holder (retE.p 0 0 10))).st ≠ .suspect ∧ (cs 4 retE).idleSpares (retE.p 0 0 10 / 256) ≠ []
    ∧ Starts ((cs 4 retE).mapEngine 1023 fun x => { x with st := .suspect }) 0x0A22 1 none retE []
    ∧ (((cs 4 retE).mapEngine 1023 fun x => { x with st := .suspect }).eng (((cs 4 retE).mapEngine 1023 fun x => { x with st := .suspect }).holder 1023)).st = .suspect
    ∧ Starts { cs 4 retE with repair := { State.reset.repair with engines := ⟨{}, []⟩ } } 0x0A22 1 none retE []
    ∧ ({ cs 4 retE with repair := { State.reset.repair with engines := ⟨{ st := .active }, []⟩ } } : State).idleSpares 3 = [] := by
  unfold q Starts; (repeat' apply And.intro) <;> decide +kernel

theorem witness_CalibrationCommandsRun :
    Starts (cs 4 (ce 0x0A01 0 0 7)) 0x0A01 1 none (ce 0x0A01 0 0 7) [] ∧ (ce 0x0A01 0 0 7).p 0 0 8 ≥ 7
    ∧ Starts (cs 4 (ce 0x0A01 0 0 6)) 0x0A01 1 none (ce 0x0A01 0 0 6) [] ∧ (ce 0x0A01 0 0 6).p 0 0 8 < 7
    ∧ Starts (cs 3 (stg 0x0A04 1599744)) 0x0A04 1 (some []) (stg 0x0A04 1599744) (fit 1599744 []) := by
  refine ⟨⟨?_, ?_, ?_, ?_⟩, ?_, ⟨?_, ?_, ?_, ?_⟩, ?_, ⟨?_, ?_, ?_, rfl⟩⟩ <;> decide +kernel

/-- A nonce made at reset. -/
def nonced (e : InFlight) : State := { cs 3 e with sess := { State.reset.sess with nonce := some (le 16 5) } }
theorem witness_SessionAndFirmwareCommandsRun :
    q 0x0C10 0 ∧ (cs 3 (ce 0x0C10 0 0 0)).sess.lockout = none
    ∧ Starts { cs 3 (ce 0x0C10 0 0 0) with sess := { State.reset.sess with lockout := some 0 } } 0x0C10 1 none (ce 0x0C10 0 0 0) [] ∧ 0 + 0 < 0 + sec 60
    ∧ Starts (nonced (stg 0x0C11 208)) 0x0C11 1 (some []) (stg 0x0C11 208) (fit 208 []) ∧ 0 + sec 60 ≤ (nonced (stg 0x0C11 208)).sess.nonceAt + sec 60
    ∧ Starts (cs 3 (stg 0x0C11 208)) 0x0C11 1 (some []) (stg 0x0C11 208) (fit 208 []) ∧ (cs 3 (stg 0x0C11 208)).sess.nonce = none ∧ (cs 3 (stg 0x0C11 208)).sess.fails = []
    ∧ q 0x0C12 0 ∧ (cs 3 (ce 0x0C12 0 0 0)).priv.opened = true ∧ Starts (cs0 3 (ce 0x0C12 0 0 0)) 0x0C12 1 none (ce 0x0C12 0 0 0) []
    ∧ (cs0 3 (ce 0x0C12 0 0 0)).priv.opened = false := by
  unfold q Starts; (repeat' apply And.intro) <;> decide +kernel
/-- A standby pair that holds an image of SEC_VER 3, with FW_CTR at `ctr`. -/
def stby (ctr : Nat) (e : InFlight) : State :=
  { cs 3 e with otp := { State.reset.otp with fwCtr := ctr }
                fw := { State.reset.fw with standbyOk := true, pairs := [{ avail := true, image := le 64 (2 ^ 96 * 3 + 1) }, { avail := true, image := List.replicate 64 3 }] } }
theorem witness_SessionAndFirmwareCommandsRun_pairs :
    Starts (stby 0 (stg 0x0C01 64)) 0x0C01 1 (some []) (stg 0x0C01 64) (fit 64 []) ∧ (begun (stby 0 (stg 0x0C01 64)) 0 0x0C01 1).handover = none
    ∧ ((stby 0 (stg 0x0C01 64)).pair (stby 0 (stg 0x0C01 64)).standby).avail = true
    ∧ Starts (stby 0 (ce 0x0C01 0 0 2)) 0x0C01 1 none (ce 0x0C01 0 0 2) [] ∧ (stg 0x0C01 64).p 0 0 2 ≠ 3 ∧ (ce 0x0C01 0 0 2).p 0 0 2 ≠ 3
    ∧ Starts (stby 64 (ce 0x0C02 0 0 100)) 0x0C02 1 none (ce 0x0C02 0 0 100) [] ∧ (ce 0x0C02 0 0 100).p 0 0 8 ≤ 100
    ∧ ((stby 64 (ce 0x0C02 0 0 100)).pair (stby 64 (ce 0x0C02 0 0 100)).standby).image.isEmpty = false
    ∧ (stby 0 (ce 0x0C02 0 0 100)).otp.fwCtr ≤ fwSecVer ((stby 0 (ce 0x0C02 0 0 100)).pair 1).image
    ∧ Starts (stby 0 (ce 0x0C02 0 0 0)) 0x0C02 1 none (ce 0x0C02 0 0 0) [] ∧ ((stby 0 (ce 0x0C02 0 0 0)).pair 1).avail = true
    ∧ (begun (stby 0 (ce 0x0C02 0 0 0)) 0 0x0C02 1).handover = none
    ∧ Starts (stby 0 (ce 0x0C04 0 0 1)) 0x0C04 1 none (ce 0x0C04 0 0 1) [] ∧ ((stby 0 (ce 0x0C04 0 0 1)).pair 0).image.isEmpty = false
    ∧ (ce 0x0C04 0 0 1).p 0 0 1 = 1 ∧ Starts (stby 0 (ce 0x0C04 0 0 0)) 0x0C04 1 none (ce 0x0C04 0 0 0) [] ∧ (ce 0x0C04 0 0 0).p 0 0 1 = 0 := by
  unfold Starts; (repeat' apply And.intro) <;> decide +kernel
theorem witness_SessionAndFirmwareCommandsRun_old :
    fwSecVer ((stby 0 (ce 0x0C02 0 0 0)).pair 1).image < ({ stby 0 (ce 0x0C02 0 0 0) with otp := { State.reset.otp with fwCtr := 2 ^ 33 } } : State).otp.fwCtr := by
  decide +kernel

/-! Register accesses. -/

/-- A linked block with command ring 3 as given. -/
def ring3 (q : CmdRing) : State := { linked 3 with cmds := { State.reset.cmds with rings := [{}, {}, {}, q] }, dev := { (up 3).dev with mbxReady := true } }
/-- A linked block with stream ring `r` as given. -/
def sring (r : Nat) (q : StreamRing) : State := { linked 3 with srings := State.reset.srings.set r q }

theorem witness_RegisterAccessesRun :
    (linked 3).reached 0 = true ∧ (linked 3).dev.mbxReady = false ∧ (ring3 {}).dev.mbxReady = true ∧ (ring3 {}).reached 0 = true
    ∧ ((ring3 {}).cmds.rings.getD 3 {}).en = false ∧ ((ring3 { en := true, sizeLog2 := 12 }).cmds.rings.getD 3 {}).en = true ∧ 4095 < 2 ^ 12 ∧ ¬ 4095 < 2 ^ 4
    ∧ (4095 + 2 ^ 12 - 0) % 2 ^ 12 > (0 + 2 ^ 12 - 0) % 2 ^ 12 ∧ (0 + 2 ^ 12 - 0) % 2 ^ 12 ≤ (0 + 2 ^ 12 - 0) % 2 ^ 12
    ∧ (ring3 {}).reached 1 = true ∧ 0x34 % 16 = 4 ∧ 0x3C % 16 ≠ ((ring3 {}).cmds.rings.getD 3 {}).sizeLog2 ∧ (ring3 {}).ringStopped 3 = true
    ∧ (ring3 { en := true }).ringStopped 3 = false ∧ 0x3D % 16 > 12 ∧ 0x33 % 16 < 4
    ∧ (sring 31 { en := true }).reached 2 = true ∧ ((sring 31 { en := true }).srings.get 31).en = true ∧ 0x1E % 32 ≠ ((sring 31 { en := true }).srings.get 31).sizeLog2
    ∧ ((sring 0 {}).srings.get 0).en = false ∧ 16 ≤ 0x1480003E % 32 ∧ 0x1480003E % 32 ≤ 30 ∧ bits 0x1480003E 16 8 ≤ 128 ∧ bits 0x1480003E 24 5 = 20 ∧ bit 0x1480003E 5 = true
    ∧ 0x1480003E < 0x20000000 ∧ (sring 0 {}).reached 2 = true
    ∧ ((ring3 { en := true, cqTail := 15 }).cmds.rings.getD 3 {}).fetchErr = false ∧ (ring3 { en := true, cqTail := 15 }).canWrite 0 = true
    ∧ (ring3 { en := true, cqTail := 15 }).fetchRoom 3 = 8 ∧ (ring3 { en := true, cqTail := 15 }).cmds.paused = false
    ∧ (linked 3).priv.opened = false ∧ ({ linked 3 with priv := { opened := true } } : State).priv.opened = true := by
  (repeat' apply And.intro) <;> decide +kernel
theorem witness_RegisterAccessesRun_counts :
    (sring 5 { prod := 32, cons := 16 }).reached 2 = true ∧ (BitVec.ofNat 64 (0 * 2 ^ 32 + 15) < (16 : DWord)) ∧ ((32 : DWord) < BitVec.ofNat 64 (0 * 2 ^ 32 + 33))
    ∧ ((16 : DWord) ≤ BitVec.ofNat 64 (0 * 2 ^ 32 + 32)) ∧ (BitVec.ofNat 64 (0 * 2 ^ 32 + 32) ≤ (32 : DWord))
    ∧ ((linked 3).func 0).msix.pba.getLsbD 10 = false
    ∧ (({ linked 3 with fn0 := { bme := true, msix := { pba := 0x400 } } } : State).func 0).msix.pba.getLsbD 10 = true
    ∧ (linked 3).writeReserved 0 0x58 4 1 = false ∧ (linked 3).reached 1 = true := by
  (repeat' apply And.intro) <;> decide +kernel

/-! Baler, Silo, recording. -/

/-- A job descriptor: control word, SRC_ADDR, SRC_LEN, DST_ADDR, DST_LEN. -/
def jd (w sa sl da dl : Nat) : Bytes := le 4 w ++ le 4 0 ++ le 8 sa ++ le 8 sl ++ le 8 da ++ le 8 dl ++ le 24 0
/-- A waiting job 1 of an empty SCRATCH. -/
def jobWaits (j : BalerJob) : State := { cs 3 { stg 0x0803 64 with wait := .baler } with baler := { State.reset.baler with running := [(1, j)] } }

theorem witness_BalerJobsRun :
    Starts (cs 3 (stg 0x0803 64)) 0x0803 1 (some []) (stg 0x0803 64) (fit 64 []) ∧ jobOk (fit 64 (fit 64 [])) (cs 3 (stg 0x0803 64)).scratchSize = false
    ∧ Starts (cs 3 (stg 0x0803 64)) 0x0803 1 (some (jd 2 0 0 0 0)) (stg 0x0803 64) (fit 64 (jd 2 0 0 0 0))
    ∧ jobOk (fit 64 (fit 64 (jd 2 0 0 0 0))) (cs 3 (stg 0x0803 64)).scratchSize = true ∧ jDst (fit 64 (fit 64 (jd 2 0 0 0 0))) ≤ 1
    ∧ (begun (cs 3 (stg 0x0803 64)) 0 0x0803 1).jobInput { desc := fit 64 (jd 2 0 0 0 0) } (some []) = some []
    ∧ ((begun (cs 3 (stg 0x0803 64)) 0 0x0803 1).jobRun { desc := fit 64 (jd 2 0 0 0 0) } []).2.2 = 0
    ∧ jobOk (fit 64 (jd 2 0 512 0 0)) 0 = true
    ∧ ((begun (cs 3 (stg 0x0803 64)) 0 0x0803 1).jobRun { desc := fit 64 (jd 2 0 512 0 0) } (fit 512 [])).2.2 = 2
    ∧ q 0x0804 255 ∧ (cs 3 (ce 0x0804 0 0 255)).baler.saved.get ((ce 0x0804 0 0 255).p64 0 % 256) = none := by
  unfold q Starts; (repeat' apply And.intro) <;> decide +kernel
/-- BALER_RESUME of the token of state 0, generation 3. -/
def resE : InFlight := ce 0x0804 0 0 (tokenOf 0 3)
/-- A job saved as state 0. -/
def saved : State := { cs 3 resE with baler := { State.reset.baler with saved := State.reset.baler.saved.set 0 (some { desc := jd 2 0 0 0 0, gen := 3 }) } }
theorem witness_BalerJobsRun_resume :
    Starts saved 0x0804 1 none resE [] ∧ saved.baler.saved.get (resE.p64 0 % 256) = some { desc := jd 2 0 0 0 0, gen := 3 }
    ∧ resE.p64 0 = tokenOf (resE.p64 0 % 256) 3 ∧ 0 + 0 < 0 + sec 60 ∧ jDst (jd 2 0 0 0 0) ≤ 1
    ∧ (begun saved 0 0x0804 1).jobInput { desc := jd 2 0 0 0 0, gen := 3 } (some []) = some []
    ∧ (({ begun saved 0 0x0804 1 with baler := { saved.baler with saved := saved.baler.saved.set (resE.p64 0 % 256) none } } : State).jobRun
        { desc := jd 2 0 0 0 0, gen := 3 } []).2.2 = 0
    ∧ 0 + sec 60 ≤ 0 + sec 60 ∧ (cs 3 resE).holdUp = true ∧ (cs 3 resE).baler.running.find? (fun p => p.1 == 1) = none
    ∧ (jobWaits { desc := jd 0x15 0 0 0 0 }).holdUp = true
    ∧ (jobWaits { desc := jd 0x23 0 0 0 0 }).baler.running.find? (fun p => p.1 == 1) = some (1, { desc := jd 0x23 0 0 0 0 })
    ∧ (jobWaits { desc := jd 0x23 0 0 0 0 }).cmds.inflight.find? (fun e => e.sub == 1 && e.done.isNone && e.wait == .baler) = some { stg 0x0803 64 with wait := .baler }
    ∧ jSrc (jd 0x23 0 0 0 0) ≠ 1
    ∧ (({ (jobWaits { desc := jd 0x23 0 0 0 0 }).advance 0 with baler := { (jobWaits { desc := jd 0x23 0 0 0 0 }).baler with
        running := (jobWaits { desc := jd 0x23 0 0 0 0 }).baler.running.filter fun x => x.1 != 1 } } : State).jobRun { desc := jd 0x23 0 0 0 0 } []).2.2 = 0 := by
  unfold Starts; (repeat' apply And.intro) <;> decide +kernel

/-- A blank drive that fits. -/
def drive : DriveInfo :=
  { up := true, rate := 160, width := 4, lbaData := 4096, lbaMeta := 0, protInfo := false, mqes := 255, ioPairs := 2, mdts := 0, hmmin := 0, timeout := 10000
    lbas := 2 ^ 18, vwc := true, super := [], blank := true, commits := [], chunkSeqs := [] }
/-- A recording in a given state, in ARMED, with a command in flight. -/
def recS (st : RecSt) (e : InFlight) : State := { cs 4 e with recd := { State.reset.recd with st := st } }
/-- JLN-5120-AQ. -/
def aq (s : State) : State := { s with ident := { s.ident with variant := 1 } }

theorem witness_RecordingCommandsRun :
    Starts (aq (recS .idle (ce 0x0805 0 0 1))) 0x0805 1 none (ce 0x0805 0 0 1) [] ∧ (aq (recS .idle (ce 0x0805 0 0 1))).isAQ = true
    ∧ Starts (recS .full (ce 0x0805 0 0 1)) 0x0805 1 none (ce 0x0805 0 0 1) [] ∧ (recS .full (ce 0x0805 0 0 1)).recd.st ∈ [RecSt.running, .stopping, .full]
    ∧ Starts (recS .fault (ce 0x0805 0 0 1)) 0x0805 1 none (ce 0x0805 0 0 1) [] ∧ (recS .fault (ce 0x0805 0 0 1)).recd.st ∈ [RecSt.idle, .fault]
    ∧ (recS .full (ce 0x0805 0 0 1)).isAQ = false ∧ drive.up = true ∧ driveMeets drive = true ∧ 2 ^ 18 ≤ drive.lbas ∧ drive.lbas ≤ 2 ^ 32 ∧ drive.blank = true
    ∧ drive.super.any (superOk drive.lbas) = false ∧ driveMeets { drive with rate := 40 } = false ∧ driveMeets { drive with timeout := 10001 } = false
    ∧ Starts (aq (cs 3 (ce 0x0806 0 0 1))) 0x0806 1 none (ce 0x0806 0 0 1) [] ∧ q 0x0806 1 ∧ q 0x0806 0 := by
  unfold q Starts; (repeat' apply And.intro) <;> decide +kernel

/-- A recording that runs, with one write outstanding. -/
def recW (c : CommitPh) (retried : Bool) : State := { up 4 with recd := { State.reset.recd with st := .running, writes := 1, phase := c, retried := retried } }
theorem witness_RecordingAndSiloEventsRun :
    (recW .none false).holdUp = true ∧ (recW .none false).recd.writes ≠ 0 ∧ (recW .none false).recd.st ≠ .idle ∧ (recW .none false).recd.st ≠ .fault ∧ (7 : Nat) ≠ 0
    ∧ (recW .none false).recd.retried = false ∧ (recW .none true).recd.retried = true ∧ (recW .record false).recd.phase = .record ∧ (recW .none false).recd.phase = .none
    ∧ (recW .record false).recd.phase ≠ .none ∧ 67108864 ≤ ({ recW .none false with recd := { (recW .none false).recd with extBytes := 67108864 } } : State).recd.extBytes
    ∧ ({ recW .none false with recd := { (recW .none false).recd with chunks := 1 } } : State).recd.chunks ≠ 0 ∧ 0 + ms 100 ≤ 0 + ms 100 ∧ (up 4).recd.st ≠ .running ∧ (up 4).recd.st = .idle
    ∧ (up 4).holdUp = true ∧ 0 + sec 10 ≤ 0 + sec 10 ∧ BitVec.ofNat 8 0 &&& ~~~ (recW .none false).recd.warn = 0 ∧ BitVec.ofNat 8 255 &&& ~~~ (recW .none false).recd.warn ≠ 0
    ∧ (((up 4).advance 0).updWm 5).recd.inGap = false
    ∧ ((sring 9 { held := [[1]] }).srings.get 9).heldAlerts = [] ∧ ((sring 9 { held := [[1]] }).srings.get 9).held = [1] :: [] ∧ (sring 9 { held := [[1]] }).holdUp = true := by
  (repeat' apply And.intro) <;> decide +kernel

/-! Power, clocks, boot, host link. -/

/-- RESET with the supplies good at 0. -/
def rst : State := State.reset
/-- BOOT at a stage. -/
def booting (stage : Nat) (locked : Bool) : State :=
  { up 2 with dev := { (up 2).dev with stage := BitVec.ofNat 8 stage }, power := { State.reset.power with pllLocked := locked } }
theorem witness_SupplyAndClockEventsRun :
    (up 0).code = 0 ∧ (firstRiseFault [0, 500000]).isSome = true ∧ firstRiseFault [0, 200000, 0, 200000, 200000, 400000, 400000, 600000, 400000, 600000] = none ∧ (up 8).code ≠ 0 ∧ (up 8).code ≠ 1
    ∧ rst.code = 1 ∧ rst.power.okSince + ms 1 ≤ rst.now + ms 1 ∧ rst.power.porRise ≤ rst.now + ms 1 ∧ rst.now + (ms 1 - 1) < rst.power.okSince + ms 1
    ∧ (booting 2 false).code = 2 ∧ (booting 2 false).power.pllLocked = false ∧ (booting 2 false).dev.stage = 2
    ∧ ({ booting 2 false with dev := { (booting 2 false).dev with coldStart := true } } : State).dev.coldStart = true
    ∧ ({ booting 2 false with dev := { (booting 2 false).dev with coldStart := false } } : State).dev.coldStart = false
    ∧ ({ up 8 with power := { State.reset.power with clkMon := true } } : State).power.clkMon = true ∧ (up 8).power.clkMon = false := by
  (repeat' apply And.intro) <;> decide +kernel
theorem witness_BootRuns :
    (booting 1 true).code = 2 ∧ (booting 1 true).dev.stage = 1 ∧ (booting 1 true).identOk = true ∧ ({ booting 1 true with ident := { State.reset.ident with identC := 0 } } : State).identOk = false
    ∧ (booting 1 false).power.pllLocked = false ∧ (booting 1 true).power.pllLocked = true ∧ okBoot.bqOk = true ∧ ({ okBoot with bqOk := false } : BootReport).bqOk = false
    ∧ (∀ p ∈ (((booting 1 true).advance 0).bist { okBoot with pairs := [false, false] } |>.bootPairs { okBoot with pairs := [false, false] }).fw.pairs, p.avail = false)
    ∧ (∃ p ∈ (((booting 1 true).advance 0).bist okBoot |>.bootPairs okBoot).fw.pairs, p.avail = true) ∧ okBoot.flash = true ∧ ({ okBoot with flash := false } : BootReport).flash = false := by
  (repeat' apply And.intro) <;> decide +kernel
theorem witness_HostLinkAndStreamTimersRun :
    (linked 3).pins.perstN = true ∧ 4 ∈ [1, 2, 3, 4] ∧ 8 ∈ [1, 2, 4, 8] ∧ ({ up 3 with pins := { State.reset.pins with perstN := false } } : State).pins.perstN = false
    ∧ ((sring 31 { batch := [[1]], coalesce := 128 }).srings.get 31).batch ≠ [] ∧ 0 + us 128 ≤ 0 + us 128 ∧ ((sring 31 {}).srings.get 31).batch = []
    ∧ ({ up 5 with stream := { State.reset.stream with opened := true } } : State).stream.opened = true ∧ 0 + ms 100 ≤ 0 + ms 100 ∧ (up 5).stream.opened = false
    ∧ ({ up 5 with priv := { sampleEn := true } } : State).priv.sampleEn = true ∧ ({ up 5 with priv := { sampleEn := true } } : State).priv.freeze = false := by
  (repeat' apply And.intro) <;> decide +kernel

/-! Cells, shots, drive, steering. -/

/-- A block in state `c` with ARM_EN high, string 31 as given and the axis locked. -/
def strS (c : Nat) (q : StrState) : State :=
  { up c with
    strs := State.reset.strs.set 31 q, steer := { State.reset.steer with running := true, locked := true }
    pins := { State.reset.pins with armEn := true, armOk := true, fireGate := false }, seq := { State.reset.seq with fireFrom := true } }
/-- A schedule set of one cell whose budget tables are one valid block for string 0: every byte of the value half is 1. -/
def oneCell : Bytes := le 12 0 ++ le 2 1 ++ le 26 0 ++ le 4 64 ++ le 20 0 ++ List.replicate 1024 1 ++ List.replicate 1024 254
/-- The state with `b` as part `n` of the active set. -/
def act (s : State) (n : Nat) (b : Bytes) : State := { s with cfg := { s.cfg with active := s.cfg.active.put n b } }

theorem witness_ArmAndAxisEventsRun :
    ({ up 4 with pins := { State.reset.pins with armEn := false } } : State).pins.armEn = false ∧ (strS 4 {}).pins.armEn = true
    ∧ ({ up 4 with pins := { State.reset.pins with armHighAt := some 0 } } : State).pins.armHighAt = some 0 ∧ 0 + ms 1 ≤ 0 + ms 1 ∧ 0 + (ms 1 - 1) < 0 + ms 1
    ∧ (up 4).holdUp = true ∧ (strS 4 {}).holdUp = true ∧ (strS 4 {}).steer.running = true ∧ (strS 4 {}).steer.locked = true
    ∧ ({ up 4 with steer := { State.reset.steer with running := true, firstAcq := true } } : State).steer.locked = false
    ∧ ({ up 4 with steer := { State.reset.steer with running := true, firstAcq := false, restarts := 2 } } : State).steer.restarts = 2
    ∧ (0 : Nat) + sec 1 ≤ 0 + sec 1 ∧ (up 4).code ≠ 7 ∧ ({ up 4 with steer := { State.reset.steer with running := false } } : State).steer.running = false
    ∧ (up 4).pf 2 0x30 0 2 = 0 ∧ (act (up 4) 2 (le 48 0 ++ le 4 1 ++ le 52 0)).pf 2 0x30 0 2 = 1
    ∧ (act (strS 4 {}) 2 (le 48 0 ++ le 4 2 ++ le 52 0)).pf 2 0x30 0 2 = 2 ∧ (strS 4 {}).steer.syncLost = false
    ∧ (act (strS 4 {}) 2 (le 48 0 ++ le 4 2 ++ le 52 0)).steer.syncLast + 16 * (act (strS 4 {}) 2 (le 48 0 ++ le 4 2 ++ le 52 0)).halfPeriod ≤ 0 + sec 8000
    ∧ 1 > (up 4).pf 2 0x18 16 16 ∧ (up 4).steer.slowErr = false ∧ 2 * 2 < (act (up 4) 2 (le 24 0 ++ le 4 0x50000 ++ le 28 0)).pf 2 0x18 16 16 := by
  (repeat' apply And.intro) <;> decide +kernel

theorem witness_FurrowAndCellEventsRun :
    (strS 4 {}).holdUp = true ∧ (up 4).steer.locked = false ∧ (strS 4 {}).steer.running = true ∧ (strS 4 {}).steer.locked = true
    ∧ (cs 4 { ce 0x0202 0 0 0 with wait := .applyFurrow }).waiting .applyFurrow = some { ce 0x0202 0 0 0 with wait := .applyFurrow }
    ∧ (cs 4 { ce 0x0202 0 0 0 with wait := .applyFurrow }).seq.lastBoundary + ms 1 ≤ 0 + ms 1
    ∧ (up 4).waiting .applyFurrow = none ∧ (up 4).waiting .toState = none ∧ (up 4).waiting .swap = none
    ∧ (up 4).seq.nextCell = none ∧ ({ act (strS 5 {}) 1 oneCell with seq := { State.reset.seq with nextCell := some 0 } } : State).seq.nextCell = some 0
    ∧ 0 < hCells (act (strS 5 {}) 1 oneCell).sched ∧ ({ up 4 with seq := { State.reset.seq with reloading := true } } : State).seq.reloading = true := by
  (repeat' apply And.intro) <;> decide +kernel

/-- A run of one shot, in a given state. -/
def oneShot (st : ShotSt) : CellRun := { cellNo := 1, shots := [{ tNom := ns 50, tFire := ns 50, st := st }] }
/-- A block in RANGING with string 0 holding one run, armed, with valid budget tables. -/
def shotS (r : CellRun) (q : StrState) : State :=
  { act (strS 5 {}) 1 oneCell with strs := State.reset.strs.set 0 { q with runs := [r] } }

theorem witness_ShotGatesInOrder :
    (shotS (oneShot .scheduled) {}).holdUp = true ∧ (shotS (oneShot .scheduled) {}).nextShot 0 = some (oneShot .scheduled, (oneShot .scheduled).shots.headD {})
    ∧ ((oneShot .scheduled).shots.headD {}).tFire ≤ 0 + 0 + ns 50 ∧ (shotS (oneShot .fired) {}).nextShot 0 = none
    ∧ ({ oneShot .scheduled with bad := true } : CellRun).bad = true ∧ ((shotS (oneShot .scheduled) { seedBad := true }).str 0).seedBad = true
    ∧ (oneShot .scheduled).bad = false ∧ ((shotS (oneShot .scheduled) {}).str 0).seedBad = false
    ∧ gate2Fails ((shotS (oneShot .scheduled) { lastTnom := some 0 }).str 0).lastTnom (ns 50) = true ∧ gate2Fails ((shotS (oneShot .scheduled) {}).str 0).lastTnom (ns 50) = false
    ∧ ((shotS (oneShot .scheduled) { mode := .faulted }).mapStr 0 fun q => { q with lastTnom := some (ns 50) }).shotGate4 0 (oneShot .scheduled) ((oneShot .scheduled).shots.headD {}) = true
    ∧ ((shotS (oneShot .scheduled) {}).mapStr 0 fun q => { q with lastTnom := some (ns 50) }).shotGate4 0 (oneShot .scheduled) ((oneShot .scheduled).shots.headD {}) = false
    ∧ pairOk (budgetAt (shotS (oneShot .scheduled) {}).sched 0) = true := by
  (repeat' apply And.intro) <;> decide +kernel
theorem witness_ShotGatesInOrder_guard :
    ((shotS (oneShot .scheduled) {}).gate5 0 ((shotS (oneShot .scheduled) {}).charge 0 0 20000 1000)).2 = true
    ∧ ((shotS (oneShot .scheduled) {}).gate5 0 ((shotS (oneShot .scheduled) {}).charge 0 0 60001 1000)).2 = false := by
  (repeat' apply And.intro) <;> decide +kernel

theorem witness_ShotEventsRun :
    (shotS (oneShot .admitted) {}).admittedShot 0 = some (oneShot .admitted, (oneShot .admitted).shots.headD {})
    ∧ (((ns 50 : Nat) : Int) + (-512)).toNat ≤ 0 + ns 50 ∧ (shotS (oneShot .admitted) {}).padGated 0 = false
    ∧ (shotS (oneShot .admitted) { guard := [{ release := some 9 }] }).padGated 0 = true ∧ (shotS (oneShot .fired) {}).admittedShot 0 = none
    ∧ (shotS (oneShot .admitted) {}).unjudgedShot 0 = none
    ∧ (shotS (oneShot .fired) {}).unjudgedShot 0 = some (oneShot .fired, (oneShot .fired).shots.headD {}) ∧ 0 * 80 + ns 40 ≤ 0 + ns 40 := by
  (repeat' apply And.intro) <;> decide +kernel

theorem witness_StringFaultsRun :
    ((strS 5 { skewRun := 16 }).str 31).skewRun ≥ 16 ∧ ((strS 5 { skewRun := 15 }).str 31).skewRun < 16 ∧ ((strS 5 { overV := true }).str 31).overV = true
    ∧ ((strS 5 { overV := true }).str 31).overVSince + ms 1 ≤ 0 + ms 1 ∧ ((strS 5 { overV := true }).str 31).mode ≠ .faulted ∧ ((strS 5 {}).str 31).overV = false
    ∧ ((strS 5 { aged := true }).str 31).aged = true ∧ ((strS 5 { aged := true }).str 31).mode = .inService ∧ (strS 5 { aged := true }).ranges = true
    ∧ (({ strS 5 { aged := true } with seq := { State.reset.seq with rangingClk := ms 200 } } : State).advance 0).verAge 31 ≥ ms 200
    ∧ ((strS 5 { mode := .unverified }).str 31).mode ≠ .inService ∧ (strS 5 {}).refOn = false
    ∧ ((strS 5 { refShots := 1000, refHits := 9 }).str 31).refHits * 100 < 1000 ∧ 1000 ≤ ((strS 5 { refShots := 1000, refHits := 10 }).str 31).refHits * 100
    ∧ ((strS 5 { mode := .faulted }).str 31).mode = .faulted ∧ (8 : Nat) = 8 ∧ (4 : Nat) ≠ 8 := by
  (repeat' apply And.intro) <;> decide +kernel
theorem witness_StringFaultsRun_ref :
    (act (strS 5 { refShots := 1000 }) 3 (List.replicate 16928 255)).refOn = true ∧ ((strS 5 { refShots := 1000 }).str 31).refShots ≥ 1000 := by
  (repeat' apply And.intro) <;> decide +kernel

theorem witness_GuardAndSatbusEventsRun :
    0 + 0 < (up 5).bucketEnd 0 ∧ (up 5).bucketEnd 3 ≤ 0 + sec 100000
    ∧ ((strS 5 { guard := [{}, {}, {}, { release := some 7 }] }).str 31).guard.getD 3 {} = { release := some 7 } ∧ 7 ≤ 0 + 7 ∧ 0 + 6 < 7
    ∧ (up 5).satbus.lastSent + ms 10 ≤ 0 + ms 10 ∧ 0 + (ms 10 - 1) < (up 5).satbus.lastSent + ms 10 ∧ (up 5).satbus.endAt = none
    ∧ ({ up 5 with satbus := { State.reset.satbus with endAt := some 0, breakRun := 2 } } : State).satbus.endAt = some 0 ∧ 0 + ns 6250 ≤ 0 + ns 6250
    ∧ ({ up 5 with satbus := { State.reset.satbus with endAt := some 0, breakRun := 2 } } : State).satbus.breakRun = 2 ∧ (up 5).satbus.breakRun ≠ 2 := by
  (repeat' apply And.intro) <;> decide +kernel

/-! Receiver to Gleaner. -/

/-- A block in RANGING with channel 5 as given. -/
def chS (q : ChanState) : State := { strS 5 {} with rx := { State.reset.rx with chans := State.reset.rx.chans.set 5 q } }
/-- The same with every byte of the receiver descriptor 0xFF, so that every channel is enabled. -/
def chOn (q : ChanState) : State := act (chS q) 3 (List.replicate 33856 255)
/-- A sheaf of cell instance 1 in a phase. -/
def shf (ph : SheafPh) (kind : Nat) : Sheaf := { cellNo := 1, ph := ph, kind := kind }

theorem witness_ReceiverEventsRun :
    (chS {}).holdUp = true ∧ (chS {}).chEn 5 = false ∧ 0 + 0 < ((chS { rearmAt := 1 }).ch 5).rearmAt ∧ (chOn {}).chEn 5 = true ∧ (chOn {}).deadCh 5 = false
    ∧ ((chOn {}).ch 5).rearmAt ≤ 0 + 0 ∧ ((chOn { evqBusy := 32 * 12800 - 1 }).ch 5).evqBusy < 0 + 0 + 32 * 12800 ∧ ((chOn {}).ch 5).onLaneB = false
    ∧ ({ chS {} with pins := { State.reset.pins with detHvEn := true } } : State).pins.detHvEn = true ∧ (chS {}).rx.hvBad = false
    ∧ ({ chS {} with pins := { State.reset.pins with detHvEn := false } } : State).pins.detHvEn = false
    ∧ ((chS { sheaves := [{ shf .accumulating 0 with spanLen := some 1 }] }).ch 5).sheaves = [{ shf .accumulating 0 with spanLen := some 1 }]
    ∧ ({ shf .accumulating 0 with spanLen := some 1 } : Sheaf).lam.isNone = true ∧ 0 + 1 + ns 100 ≤ 0 + (1 + ns 100) := by
  (repeat' apply And.intro) <;> decide +kernel
theorem witness_PhotonEstimateIsHighestLevel : (0 : Int) < 1 ∧ photons 7 2 = 3 := by decide +kernel

/-- A candidate of string 31. -/
def candS : Cand := { ch := 5, str := 31, fRef := 0, tCorr := 0, tEdge := 0, n := 1, ht := false, laneB := false }
/-- A pair for cell instance 1. -/
def pairS : CandPair := { cellNo := 1, str := 31, tEdge := 0, w := 1, ent := { t := 0, refShot := 0, n := 1, ht := false, w := 1 }, qr := [(0, 4095)] }
theorem witness_ThresherEventsRun :
    (chS {}).oldestCand 31 = none ∧ (chS { candq := [candS] }).oldestCand 31 = some (5, candS)
    ∧ (((chS { candq := [candS] }).advance 0).mapCh 5 fun q => { q with candq := eraseFirst (fun x => x.str == 31) q.candq }).pairsOf candS = []
    ∧ ((chS {}).ch 5).pairq = [] ∧ ((chS { pairq := [pairS] }).ch 5).pairq = pairS :: []
    ∧ (((chS { pairq := [pairS], sheaves := [shf .accumulating 0] }).advance 0).mapCh 5 fun k => { k with pairq := [] }).sheafAt 5 pairS.cellNo = some (shf .accumulating 0)
    ∧ (shf .accumulating 0).miss = false ∧ pairS.tEdge ≤ (shf .accumulating 0).tLim ∧ (shf .accumulating 0).ph = .accumulating ∧ pairS.qr = [(0, 4095)]
    ∧ ({ shf .accumulating 0 with logLen := 767 } : Sheaf).logLen < 768
    ∧ ({ chS {} with thresh := { State.reset.thresh with pinSince := some 0 } } : State).thresh.pinSince = some 0 ∧ (chS {}).thresh.outstanding = []
    ∧ 0 + us ((chS {}).pf 4 0x0C 0 16) ≤ 0 + us ((chS {}).pf 4 0x0C 0 16) ∧ (chS {}).thresh.pinSince = none := by
  (repeat' apply And.intro) <;> decide +kernel

/-- A live run of cell instance 1 whose map row lists channel 5 first. -/
def liveRun : CellRun := { cellNo := 1, live := true, row := le 32 5, tCell := 0 }
/-- A block in RANGING whose strings 0 and 31 hold runs. -/
def runS (r0 r31 : CellRun) (q : ChanState) : State :=
  { chS q with strs := (State.reset.strs.set 0 { runs := [r0] }).set 31 { runs := [r31] } }
theorem witness_SheafEventsRun :
    (up 4).holdUp = true ∧ (up 4).ranges = false ∧ (runS liveRun liveRun {}).ranges = true ∧ (runS liveRun liveRun {}).deadCh 5 = false
    ∧ (runS { liveRun with row := le 32 6 } { liveRun with row := le 32 6 } {}).nextRun 5 = some { liveRun with row := le 32 6 }
    ∧ (runS { liveRun with row := le 32 6 } { liveRun with row := le 32 6 } {}).listedBy 5 1 = none
    ∧ (runS { liveRun with row := le 32 6 } liveRun {}).listedBy 5 1 = some (31, 0)
    ∧ ((runS { liveRun with row := le 32 6 } liveRun {}).str 31).run 1 = some liveRun ∧ liveRun.kind = 0 ∧ liveRun.tCell + eTFirst liveRun.entry * 128 ≤ 0 + 0
    ∧ ((chS {}).ch 5).sheaves = []
    ∧ ((chS { sheaves := [{ shf .accumulating 1 with lam := some 0 }] }).ch 5).sheaves.find? (fun h => h.ph == .accumulating) = some { shf .accumulating 1 with lam := some 0 }
    ∧ ({ shf .accumulating 1 with lam := some 0 } : Sheaf).lam ≠ none ∧ ({ shf .accumulating 1 with lam := some 0 } : Sheaf).kind ≠ 0
    ∧ ((chS { sheaves := [shf .accumulating 0] }).ch 5).sheaves.find? (fun h => h.ph == .accumulating) = some (shf .accumulating 0)
    ∧ (shf .accumulating 0).tProcAt ≤ 0 + (shf .accumulating 0).tProcAt
    ∧ ((chS { sheaves := [shf .processing 0] }).ch 5).sheaves.find? (fun h => h.ph == .processing) = some (shf .processing 0)
    ∧ (shf .processing 2).kind ≠ 0 ∧ ((chS { sheaves := [shf .ready 1] }).ch 5).sheaves = shf .ready 1 :: [] ∧ (shf .ready 1).ph = .ready ∧ (shf .ready 0).tWin ≤ 0 + (shf .ready 0).tWin
    ∧ (shf .ready 1).dumps = [] := by
  (repeat' apply And.intro) <;> decide +kernel

/-- A block in RANGING with converter 31 as given. -/
def gwS (g : GwState) : State := { strS 5 {} with gw := State.reset.gw.set 31 g }
/-- A host capture, closed or not, that triggers at 0. -/
def capS (closed : Bool) : Capture := { ch := 5, prof := 0, profB := [], src := 2, tTrig := some 0, closed := closed }
theorem witness_GleanerEventsRun :
    ((gwS {}).gw.get 31).running = none ∧ ((gwS {}).gw.get 31).waiting = [] ∧ (gwS {}).holdUp = true
    ∧ ((gwS { running := some (capS true) }).gw.get 31).running = some (capS true) ∧ (capS true).closed = true
    ∧ ((gwS { running := some (capS true) }).advance 0).place 31 (capS true) = some (0, 0, 3)
    ∧ ((gwS { running := some (capS false) }).gw.get 31).running = some (capS false) ∧ (capS false).closed = false
    ∧ ((gwS { running := some (capS false) }).advance 3200).place 31 (capS false) = some (0, 0, 3) ∧ (capS false).last 0 * 3200 ≤ 0 + 3200
    ∧ ((gwS { mode := .normal, gainMode := 0, gain := 2 }).gw.get 31).mode = .normal ∧ ((gwS { mode := .normal, gainMode := 0, gain := 2 }).gw.get 31).openCaps = 0
    ∧ 0 < ((gwS { mode := .normal, gainMode := 0, gain := 2 }).gw.get 31).gain ∧ ((gwS { mode := .normal, gainMode := 0, gain := 1 }).gw.get 31).gain < 2
    ∧ ((gwS { mode := .normal, gainMode := 0, pendUp := true }).gw.get 31).pendUp = true ∧ ((gwS { mode := .normal, spare := some 4 }).gw.get 31).on = true
    ∧ ((gwS { mode := .normal, spare := some 4 }).gw.get 31).spare ≠ none
    ∧ ((gwS { mode := .normal, spare := some 4 }).gw.get 31).rotAt + us (gwS { mode := .normal, spare := some 4 }).calrot ≤ 0 + us 65535
    ∧ ((gwS { mode := .normal, spare := none }).gw.get 31).spare = none
    ∧ ((gwS { mode := .normal, spare := some 4, dueSince := some 0 }).gw.get 31).mustRepl = none
    ∧ ((gwS { mode := .normal, spare := some 4, dueSince := some 0 }).gw.get 31).dueSince = some 0
    ∧ (32 : Int) ≤ 32 ∧ (-512 : Int) ≤ -512 ∧ (58983 : Int) ≤ 58983 ∧ (58983 : Int) ≤ 72089 ∧ 0 + ms 100 ≤ 0 + ms 100
    ∧ ((gwS { mode := .normal }).gw.get 31).dueSince = none ∧ ((gwS { mode := .start, calDone := [0, 1, 2, 3, 4] }).gw.get 31).mode = .start
    ∧ ((gwS { mode := .start, calDone := [0, 1, 2, 3, 4] }).gw.get 31).allCal = true ∧ ((gwS { mode := .recovery }).gw.get 31).mode = .recovery := by
  (repeat' apply And.intro) <;> decide +kernel

/-! Engines, calibration, errors, firmware. -/

/-- A run of a spare at position 1023. -/
def engR (audit : Bool) : EngRun := { pos := 1023, spare := 1087, audit := audit }
/-- A block in RANGING with the runs given. -/
def engS (l : List EngRun) : State := { strS 5 {} with repair := { State.reset.repair with runs := l } }

theorem witness_EngineEventsRun :
    (engS []).holdUp = true ∧ (engS []).runAt 1023 = none ∧ (engS [engR true]).runAt 1023 = some (engR true) ∧ (engS [engR false]).runAt 1023 = some (engR false)
    ∧ (engR true).testOk = none ∧ (engR true).audit = true ∧ (engR false).audit = false
    ∧ (((engS []).mapEngine 5 fun x => { x with st := .testing, testEnd := 9 }).eng 5).st = .testing
    ∧ (((engS []).mapEngine 5 fun x => { x with st := .testing, testEnd := 9 }).eng 5).testEnd ≤ 0 + 9 ∧ (engS []).repair.runs = []
    ∧ (up 4).ranges = false ∧ (engS []).ranges = true ∧ (engS []).repair.lastAudit.getD 3 0 + ms 1 ≤ 0 + ms 1
    ∧ (engS []).idleSpares 3 = (engS []).idleSpares 3 ∧ 2 ≤ ((engS []).idleSpares 3).length ∧ ((engS []).nextActive 3 ((engS []).repair.nextAudit.getD 3 0)).isSome = true := by
  (repeat' apply And.intro) <;> decide +kernel

theorem witness_RepairEventsRun :
    (engS []).repair.bankCopy = none ∧ (engS []).repair.spareBanks ≠ 0 ∧ 127 ∉ (engS []).repair.banks ∧ (7 : Nat) ≠ 1
    ∧ ({ engS [] with repair := { State.reset.repair with bankCopy := some (3, 0) } } : State).repair.bankCopy = some (3, 0)
    ∧ ({ engS [] with repair := { State.reset.repair with spareBanks := 0 } } : State).repair.spareBanks = 0
    ∧ (chOn {}).pf 3 (0x100 + 16 * 5) 2 1 = 1 ∧ (chS {}).pf 3 (0x100 + 16 * 5) 2 1 ≠ 1 ∧ (chOn {}).holdUp = true := by
  (repeat' apply And.intro) <;> decide +kernel

/-- A block in ARMED with one calibration pass in progress. -/
def calS : State := { up 4 with cal := { State.reset.cal with passes := [{ pass := 0, stripe := 31, inProg := true }] } }
theorem witness_CalibrationEventsRun :
    (up 3).armedUp = false ∧ (up 3).holdUp = true ∧ (up 4).armedUp = true ∧ (up 4).cal.schedAt + sec 600 ≤ 0 + sec 600 ∧ 5 ∉ [4, 6, 7] ∧ 0 ∉ [3, 4, 6, 7]
    ∧ (∃ p ∈ calS.cal.passes, p.pass = 0 ∧ p.stripe = 31 ∧ p.inProg = true) ∧ calS.armedUp = true
    ∧ (up 4).storeDue = false ∧ ((up 4).advance 0).storeDue = false
    ∧ (({ up 4 with cal := { State.reset.cal with loadDue := some 0 } } : State).advance 0).storeDue = true
    ∧ ((up 4).advance 0).cal.replanT < sec 600 ∧ sec 600 ≤ ((up 4).advance (sec 600)).cal.replanT ∧ (up 4).handover = none
    ∧ 0 + (sec 600 - 1) < (up 4).cal.eyeAt + sec 600 ∧ (up 4).cal.eyeAt + sec 600 ≤ 0 + sec 600 := by
  (repeat' apply And.intro) <;> decide +kernel

/-- A record of severity `v` in hand. -/
def inHand (c v : Nat) : State := { up c with err := { State.reset.err with handling := [{ slot := 0, seqNo := 0, code := 0x1001, sev := v }] }, stream := { State.reset.stream with opened := true } }
theorem witness_ErrorAndRangingEventsRun :
    ({ up 4 with fw := { State.reset.fw with reloadSubs := true } } : State).fw.reloadSubs = true ∧ (up 4).fw.reloadSubs = false ∧ (up 4).err.handling = []
    ∧ (inHand 4 2).err.handling = [{ slot := 0, seqNo := 0, code := 0x1001, sev := 2 }] ∧ (inHand 7 3).err.handling = [{ slot := 0, seqNo := 0, code := 0x1001, sev := 3 }]
    ∧ (inHand 7 3).code = 7 ∧ (inHand 7 3).stream.opened = true ∧ (inHand 7 3).stream.closing ≠ some 1 ∧ (15 : Nat) < 16 ∧ StateWordOk (up 4)
    ∧ (({ strS 4 {} with dev := { (up 4).dev with autoRanging := some 0 } } : State).advance 0).wantsRanging = true ∧ ((strS 4 {}).advance 0).mayRange = true
    ∧ ((up 4).advance 0).mayRange = false ∧ (up 4).steer.locked = false
    ∧ (cs 4 { ce 0x0102 0 0 5 with wait := .ranging }).waiting .ranging = some { ce 0x0102 0 0 5 with wait := .ranging }
    ∧ ((cs 4 { ce 0x0102 0 0 5 with wait := .ranging }).advance 0).mayRange = false ∧ 0 + sec 1 ≤ 0 + sec 1 ∧ (cs 4 { ce 0x0102 0 0 5 with wait := .ranging }).dev.autoRanging = none
    ∧ (((cs 4 { ce 0x0102 0 0 5 with wait := .ranging }).advance 0).finish 1 (reply 0x0210)).dev.autoRanging = none
    ∧ (up 4).code ≠ 7 ∧ ({ up 7 with dev := { (up 7).dev with autoResume := true, autoPend := true, safeNoAuto := false } } : State).code = 7
    ∧ ({ up 7 with dev := { (up 7).dev with autoResume := true, autoPend := true, safeNoAuto := false } } : State).dev.safeAt + ms 100 ≤ 0 + ms 100
    ∧ (up 7).stream.opened = false ∧ (up 7).dev.applied = false := by
  unfold StateWordOk; (repeat' apply And.intro) <;> decide +kernel
theorem witness_PostTakesNextSlot : (up 4).err.wr + 1 ≠ (up 4).err.rd ∧ 255 ≠ (up 4).err.wr.toNat := by decide +kernel

/-- FW_HANDOVER in its drain. -/
def drainE : InFlight := { ce 0x0C02 0 0 0 with wait := .drain, started := true, arg := ms 10 }
/-- A standby pair that loads or not. -/
def pairS2 (loading : Bool) : State := { up 4 with fw := { State.reset.fw with pairs := [{ avail := true }, { avail := true, loading := loading }] } }
theorem witness_HandoverAndSessionTimersRun :
    (up 4).waiting .drain = none ∧ (cs 4 drainE).waiting .drain = some drainE ∧ (cs 4 drainE).cmds.inflight = [drainE] ∧ drainE.arg ≤ 0 + ms 10
    ∧ (up 4).handover = none ∧ (cs 4 drainE).handover = some drainE ∧ ((pairS2 true).pair (pairS2 true).standby).avail = true ∧ ((pairS2 true).pair (pairS2 true).standby).loading = true
    ∧ ((pairS2 false).pair (pairS2 false).standby).loading = false ∧ ((pairS2 true).pair 1).loading = true ∧ 1 ≠ (pairS2 true).fw.active ∧ ((pairS2 true).pair 0).loading = false
    ∧ (cs 4 drainE).priv.opened = true ∧ (cs 4 drainE).priv.lastUse + sec 900 ≤ 0 + sec 900 ∧ 0 + (sec 900 - 1) < (up 4).priv.lastUse + sec 900
    ∧ (nonced drainE).sess.nonceAt + sec 60 ≤ 0 + sec 60 ∧ (nonced drainE).sess.nonce ≠ none ∧ 0 + (sec 60 - 1) < (up 4).sess.nonceAt + sec 60
    ∧ ({ up 4 with sess := { State.reset.sess with lockout := some 0 } } : State).sess.lockout = some 0 ∧ 0 + sec 60 ≤ 0 + sec 60 ∧ (up 4).sess.lockout = none := by
  (repeat' apply And.intro) <;> decide +kernel

/-! Drover links, domains, time. -/

/-- A Drover descriptor: DEV_ID 7, ROLE, DOMAIN 1, a path budget of 9, and the roles of the four ports. -/
def dsc (role p0 p1 p2 p3 : Nat) : Bytes :=
  le 8 0 ++ le 4 (7 + role * 65536) ++ le 4 1 ++ le 4 9 ++ le 44 0 ++ le 16 p0 ++ le 16 p1 ++ le 16 p2 ++ le 16 p3 ++ le 128 0
/-- A block in ARMED with ports 0 and 1 as given, lanes 0 to 3 in the states given, in a domain. -/
def net (role p0 p1 : Nat) (q0 q1 : Port) (ls : List LaneSt) : State :=
  act { up 4 with drover := { State.reset.drover with ports := [q0, q1, {}, {}], lanes := ls ++ State.reset.drover.lanes.drop ls.length } } 10 (dsc role p0 p1 0 0)
/-- A lane in service, and one that is lost. -/
def on : LaneSt := { state := 0, outBy := false }
/-- A lane that is lost and retrains. -/
def off : LaneSt := { state := 2, outBy := false }

theorem witness_LaneAndRingEventsRun :
    ((net 2 1 0 { st := .two } {} [on, on]).lane 1).state = 0 ∧ ((net 2 1 0 { st := .two } {} [on, on]).lane 0).state = 0 ∧ ((net 2 1 0 { st := .two } {} [on, on]).port 0).st = .two
    ∧ ((net 2 1 0 { st := .one } {} [on, off]).lane 1).state ≠ 0 ∧ ((net 2 1 0 { st := .two } {} [on, on]).port 0).up = true ∧ ((net 2 1 0 {} {} []).port 3).up = false
    ∧ (up 8).holdUp = false ∧ (({ (net 2 3 4 { st := .two } { st := .two } [on, on, on, on]).portLost 0 with now := 0 } : State).port 1).up = true
    ∧ ((net 2 1 0 { st := .one } {} [on, off]).lane 1).state = 2 ∧ ((net 2 1 0 { st := .one } {} [on, off]).lane 1).relocked = false ∧ ((net 2 1 0 { st := .one } {} [on, off]).port 0).st = .one
    ∧ ((net 2 1 0 { st := .one } {} [on, off]).lane 1).relockAt + ms 10 ≤ 0 + ms 10
    ∧ ((net 2 1 0 { st := .one } {} [{ off with relocked := true }, on]).lane (2 * 0)).relocked = true ∧ ((net 2 1 0 { st := .one } {} [{ off with relocked := true }, on]).port 0).rejoin = none
    ∧ ((net 2 1 0 { st := .one } {} [{ off with relocked := true }, on]).lane (2 * 0)).relockAt + ns 102400 ≤ 0 + ns 102400 ∧ ((net 2 1 0 { st := .two } {} [on, on]).port 0).st ≠ .one
    ∧ (net 2 3 4 {} {} []).drover.reroute = none
    ∧ ({ net 2 3 4 {} {} [] with drover := { State.reset.drover with reroute := some 0 } } : State).drover.reroute = some 0 ∧ (net 2 3 4 {} {} []).upPort = some 0
    ∧ 0 + us 200 ≤ 0 + us 200 ∧ (net 2 3 4 {} {} []).otherRing 0 = some 1 ∧ (List.range 4).find? (fun p => (net 2 3 4 {} {} []).prole p == 3) = some 0
    ∧ (net 2 3 4 {} {} []).role = 2 ∧ ((net 2 3 4 { bothSince := some 0 } {} []).port 0).bothSince = some 0 ∧ 0 + sec 10 ≤ 0 + sec 10
    ∧ (List.range 4).find? (fun p => (net 2 1 0 {} {} []).prole p == 3) = none ∧ (net 2 3 4 {} {} []).fromAbove 0 = true ∧ (net 2 3 4 {} {} []).isRing 0 = true
    ∧ (net 2 3 4 {} {} []).fromAbove 1 = false ∧ (((net 2 3 4 { ctlIn := [le 40 10] } {} []).advance 0).takeMsg 0 10).isSome = true := by
  (repeat' apply And.intro) <;> decide +kernel

theorem witness_LinkEventsRun :
    ((net 2 1 0 { st := .training } {} [off, off]).port 0).st = .training ∧ ((net 2 1 0 { st := .training } {} [off, off]).port 0).stepAt + ms 10 ≤ 0 + ms 10
    ∧ ((net 2 1 0 {} {} []).port 0).st ≠ .training ∧ 0 + ms 100 ≤ ((net 2 1 0 { st := .training } {} [off, off]).port 0).stepAt + ms 100 ∧ 5000 < 5001 ∧ 5000 ≤ 5000
    ∧ ((net 2 1 0 { st := .training } {} [off, off]).lane (2 * 0)).outBy = false ∧ ((net 2 1 0 { st := .training } {} [off, off]).lane (2 * 0 + 1)).outBy = false
    ∧ ((net 2 1 0 {} {} []).port 0).up = false ∧ ((net 2 1 0 { st := .two } {} [on, on]).port 0).up = true ∧ (net 1 2 0 { st := .two } {} [on, on]).mayRecords 0 = false
    ∧ ((net 2 1 0 { st := .two, kept := [{}] } {} [on, on]).port 0).kept ≠ [] ∧ ((net 2 1 0 { st := .two, kept := [{}] } {} [on, on]).port 0).ackAt + us 20 ≤ 0 + us 20
    ∧ ((net 2 1 0 { st := .one, hiSince := some 0, shed := 2 } {} [on, off]).port 0).hiSince = some 0 ∧ 0 + us 10 ≤ 0 + us 10 ∧ (2 : Nat) < 3
    ∧ ((net 2 1 0 { st := .one, loSince := some 0, shed := 2 } {} [on, off]).port 0).hiSince = none ∧ ((net 2 1 0 { st := .one, loSince := some 0, shed := 2 } {} [on, off]).port 0).loSince = some 0
    ∧ 0 + ms 10 ≤ 0 + ms 10 ∧ 1 < ((net 2 1 0 { st := .one, loSince := some 0, shed := 2 } {} [on, off]).port 0).shed ∧ (net 2 1 0 {} {} []).holdUp = true := by
  (repeat' apply And.intro) <;> decide +kernel

/-- A message as received: its number, its fields from byte 4 on, and its arrival. -/
def msg (m : Nat) (f : Bytes) : Bytes := fit 32 (le 4 m ++ f) ++ le 8 0
/-- A member whose upward port holds a message. -/
def got (m : Nat) (f : Bytes) : State := net 2 1 0 { st := .two, ctlIn := [msg m f] } {} [on, on]
/-- A root whose port 0 holds a message. -/
def gotR (m : Nat) (f : Bytes) : State := net 1 2 0 { st := .two, ctlIn := [msg m f] } {} [on, on]
theorem witness_DomainMessagesRun :
    (∀ m ∈ [1, 2, 3, 4, 5, 6, 7, 8, 9, 10], ((up 4).advance 0).takeMsg 0 m = none ∧ (((got m []).advance 0).takeMsg 0 m).isSome = true)
    ∧ (got 5 (le 4 1 ++ le 2 1 ++ le 2 1 ++ le 8 1)).fromAbove 0 = true ∧ (got 5 []).drover.domPlan = none ∧ (got 5 []).drover.pendPlan = none
    ∧ (got 5 []).deviceTime.toNat < (BitVec.ofNat 64 (num (msg 5 (le 4 1 ++ le 2 1 ++ le 2 1 ++ le 8 1)) 12 8)).toNat
    ∧ (BitVec.ofNat 64 (num (msg 5 []) 12 8)).toNat ≤ (got 5 []).deviceTime.toNat
    ∧ num (msg 2 (le 10 0 ++ le 2 1)) 14 2 = (got 2 []).domain ∧ (got 2 []).drover.join = .search
    ∧ num (msg 4 (le 2 7)) 4 2 = (got 4 []).devId ∧ byteAt (msg 4 (le 2 7)) 6 = 0
    ∧ ({ got 4 (le 2 7) with drover := { (got 4 (le 2 7)).drover with join := .joining } } : State).drover.join = .joining ∧ (gotR 4 []).fromAbove 0 = false
    ∧ byteAt (msg 9 (le 2 0x100)) 5 = 1 ∧ ((got 9 (le 2 0x100)).lane ((got 9 []).partnerLane 0 (byteAt (msg 9 (le 2 0x100)) 4))).state = 0
    ∧ ((got 9 (le 2 0x107)).lane 2).state ≠ 0 ∧ (got 6 []).upstream 0 = false ∧ (gotR 7 []).upstream 0 = true
    ∧ num (msg 8 []) 4 2 = ((got 8 []).port 0).syncSeq ∧ ((net 0 0 0 {} {} []).fromAbove 0 = false ∧ (net 0 0 0 {} {} []).upstream 0 = false)
    ∧ (got 3 []).role = 2 ∧ (got 3 []).upPort = some 0 ∧ (0 : Nat) ≠ 1 ∧ (net 0 0 0 {} {} []).role ≠ 1 ∧ (net 0 0 0 {} {} []).role ≠ 2
    ∧ (gotR 3 []).role = 1 ∧ (gotR 3 []).member 5 = none ∧ (gotR 3 []).admitResult 0 5 1 9 2 1 = 0 ∧ (gotR 3 []).admitResult 0 7 1 9 2 1 = 1
    ∧ (gotR 3 []).admitResult 0 5 1 10 2 1 = 2 ∧ (gotR 3 []).admitResult 0 5 1 9 2 2 = 3 ∧ (gotR 3 []).admitResult 0 5 1 9 0 1 = 4 := by
  (repeat' apply And.intro) <;> decide +kernel

/-- A member in a join state. -/
def joinS (j : JoinSt) : State := { got 9 [] with drover := { (got 9 []).drover with join := j } }
theorem witness_DomainAndTimeTimersRun :
    ((got 9 []).port 0).helloAt + ms 100 ≤ 0 + ms 100 ∧ ((net 2 1 0 {} {} []).port 0).up = false ∧ ((gotR 9 []).port 0).up = true ∧ (gotR 9 []).upstream 0 = true
    ∧ ((gotR 9 []).port 0).syncAt + ms 1 ≤ 0 + ms 1 ∧ (got 9 []).role ≠ 1 ∧ (gotR 9 []).role = 1 ∧ (gotR 9 []).code ≠ 7 ∧ (gotR 9 []).drover.topoAt + ms 1 ≤ 0 + ms 1
    ∧ (gotR 9 []).drover.pendPlan = none ∧ (gotR 9 []).drover.domPlan = none ∧ (got 9 []).role = 2 ∧ (joinS .joined).drover.join = .joined ∧ (joinS .joining).drover.join = .joining
    ∧ (joinS .search).drover.join = .search ∧ (joinS .joined).role = 2 ∧ (joinS .joined).drover.topoAt + ms 10 ≤ 0 + ms 10
    ∧ (joinS .joining).drover.joinAt + ms 10 ≤ 0 + ms 10 ∧ (joinS .joined).drover.joinAt + sec 1 ≤ 0 + sec 1
    ∧ ({ gotR 9 [] with drover := { (gotR 9 []).drover with members := [{ id := 5, lastReport := 0 }] } } : State).member 5 = some { id := 5, lastReport := 0 }
    ∧ 0 + sec 5 ≤ 0 + sec 5 ∧ (up 4).waiting .pps = none ∧ (up 4).dev.timeSource ≠ 1 ∧ ({ up 4 with dev := { (up 4).dev with timeSource := 1 } } : State).dev.timeSource = 1
    ∧ (cs 4 { ce 0x0106 0 0 (2 ^ 64) with wait := .pps }).waiting .pps = some { ce 0x0106 0 0 (2 ^ 64) with wait := .pps } ∧ 0 + sec 2 ≤ 0 + sec 2
    ∧ (up 4).time.ppsLost = false ∧ (up 4).time.lastPps.getD (up 4).time.srcAt + ms 1500 ≤ 0 + ms 1500
    ∧ ({ up 4 with dev := { (up 4).dev with timeSource := 3 } } : State).dev.timeSource = 3 ∧ (up 4).time.lastHostSet + sec 60 ≤ 0 + sec 60 ∧ (up 4).dev.timeSource ≠ 3
    ∧ (up 4).time.slewEnd = none ∧ ({ up 4 with time := { State.reset.time with slewEnd := some 0 } } : State).time.slewEnd = some 0
    ∧ ((((cs 4 { ce 0x0106 0 0 (2 ^ 64) with wait := .pps }).advance 0).stepTime 5).finish 1 (reply 0)).dev.timeSource ≠ 1 := by
  (repeat' apply And.intro) <;> decide +kernel

/-! Housekeeping. -/

/-- A housekeeping block in use whose channel 0 is enabled. -/
def hkS : State := { up 4 with hk := { State.reset.hk with applied := true, cfg := le 64 0 ++ List.replicate 512 1 ++ le 1216 0 } }
theorem witness_HousekeepingEventsRun :
    (up 1).isIn [0, 1] = true ∧ (up 2).isIn [0, 1] = false ∧ (up 4).hk.level = 0 ∧ (up 4).isIn [2, 3, 4, 5, 6, 7] = true
    ∧ ({ up 4 with hk := { State.reset.hk with level := 3, belowSince := [none, none, some 0] } } : State).hk.belowSince.getD (3 - 1) none = some 0 ∧ 0 + ms 100 ≤ 0 + ms 100
    ∧ (up 8).code = 8 ∧ (up 8).hk.tripAt + ms 2 ≤ 0 + ms 2 ∧ (up 4).code ≠ 8
    ∧ ({ up 8 with hk := { State.reset.hk with coolSince := some 0 } } : State).hk.coolSince = some 0 ∧ 0 + sec 1 ≤ 0 + sec 1
    ∧ hkS.hk.applied = true ∧ 0 = hkS.hk.visit ∧ hkS.hkEn 0 = true ∧ (up 4).hk.applied = false ∧ hkS.hk.inVisit = 0 ∧ hkS.hk.calAt + sec 60 ≤ 0 + sec 60
    ∧ 0 + (sec 60 - 1) < hkS.hk.calAt + sec 60 := by
  (repeat' apply And.intro) <;> decide +kernel

/-! Functional statements. -/

theorem witness_CommandChecks :
    (cs0 3 (stg 0x0201 64)).cmds.inflight.find? (fun x => x.sub == 1 && x.op == 0x0201) = some (stg 0x0201 64)
    ∧ startable (cs0 3 (stg 0x0201 64)).cmds.inflight (stg 0x0201 64) = true ∧ (cs0 3 (stg 0x0201 64)).precheck (stg 0x0201 64) = 0x0103
    ∧ (cs0 3 (ce 0x0B01 0 0 0)).precheck (ce 0x0B01 0 0 0) = 0x0150 ∧ (cs0 3 (ce 0x0B0F 0 0 0)).precheck (ce 0x0B0F 0 0 0) = 0x0101
    ∧ (cs0 3 (ce 0x0102 8 0 0)).precheck (ce 0x0102 8 0 0) = 0x0102 ∧ (cs0 3 (ce 0x0306 0 0 0)).precheck (ce 0x0306 0 0 0) = 0x0200 := by decide +kernel
theorem witness_RebootIsBarrier :
    ce 0x0105 0 0 0 ∈ [{ ce 0x0101 0 0 0 with sub := 0 }, ce 0x0105 0 0 0] ∧ (ce 0x0105 0 0 0).op = 0x0105 ∧ ({ ce 0x0101 0 0 0 with sub := 0 } : InFlight).sub < (ce 0x0105 0 0 0).sub
    ∧ (ce 0x0105 0 0 0).sub < ({ ce 0x0101 0 0 0 with sub := 2 } : InFlight).sub := by decide +kernel
theorem witness_PrivilegedNeedsSession :
    (opInfo 0x0A22).isSome = true ∧ (ce 0x0A22 0 0 0).op ∈ [0x0A04, 0x0A22, 0x0A24, 0x0B01, 0x0B02] ∧ (up 4).priv.opened = false
    ∧ (ce 0x0A21 0 0 0).op ∉ [0x0A04, 0x0A22, 0x0A24, 0x0B01, 0x0B02] := by decide +kernel
theorem witness_GleanCommandsNeedConverters :
    startable (cs 3 (ce 0x0503 0 0 0)).cmds.inflight (ce 0x0503 0 0 0) = true
    ∧ ({ cs 3 (ce 0x0503 0 0 0) with dev := { (up 3).dev with word := 4 } } : State).precheck (ce 0x0503 0 0 0) = 0 ∧ (cs 3 (ce 0x0503 0 0 0)).code ∉ [4, 5, 6]
    ∧ (cs 3 (ce 0x0503 0 0 0)).cmds.inflight.find? (fun x => x.sub == 1 && x.op == 0x0503) = some (ce 0x0503 0 0 0)
    ∧ startable (cs 7 (ce 0x0504 0 0 0)).cmds.inflight (ce 0x0504 0 0 0) = true
    ∧ ({ cs 7 (ce 0x0504 0 0 0) with dev := { (up 7).dev with word := 6 } } : State).precheck (ce 0x0504 0 0 0) = 0 ∧ (cs 7 (ce 0x0504 0 0 0)).code ∉ [4, 5, 6]
    ∧ (cs 7 (ce 0x0504 0 0 0)).cmds.inflight.find? (fun x => x.sub == 1 && x.op == 0x0504) = some (ce 0x0504 0 0 0) := by decide +kernel
theorem witness_PostedWritesStayInPage : 0 < ((linked 3).func 0).mps ∧ (linked 3).canWrite 0 = true ∧ (linked 3).deferred 0 = []
    ∧ (splitWrites 128 300 4000 (List.replicate 300 1)).map (fun x => (x.1, x.2.length)) = [(4000, 96), (4096, 128), (4224, 76)] := by decide +kernel
theorem witness_ScratchReadsBack : Memory.wf [(3, 1), (7, 2)] = true ∧ 6 < 7 ∧ 7 + 2 ≤ 9
    ∧ Memory.writeN [(3, 1), (7, 2)] 7 [0, 5] = [(3, 1), (8, 5)] := by decide +kernel
theorem witness_RecordHeaderReadsBack : (15 : Nat) < 16 ∧ 65535 < 65536 ∧ 2 ^ 64 - 1 < 2 ^ 64 ∧ 65504 % 16 = 0 ∧ 65504 ≤ 65504 := by decide
theorem witness_JumpAheadIsStepping : (1 : BitVec 31) ≠ 0 ∧ 2 ^ 31 - 1 < 2 ^ 31 ∧ 1023 < 1024 ∧ 65534 < 65535 ∧ 31 < 32 ∧ genJump 37 5 = genSteps 37 5 := by decide +kernel
theorem witness_FramesKeepTheStream : ((net 2 1 0 { kept := List.replicate 256 {} } {} []).port 0).kept.length ≤ 256 ∧ (List.replicate 624 (0 : Byte)).length ≤ 624 := by decide +kernel
theorem witness_GainMovesOneStep : ({ gain := 7 } : HkChan).gain ≤ 7 ∧ 9 * 8388608 ≤ (-7549748 : Int).natAbs * 10 + 8 ∧ 9 * 8388608 ≤ (-7549750 : Int).natAbs * 10
    ∧ (3355443 : Int).natAbs * 10 < 4 * 8388608 ∧ ({ gain := 6, lowRun := 1 } : HkChan).lowRun = 1 ∧ ({ gain := 6, lowRun := 1 } : HkChan).gain < 7
    ∧ ({ gain := 6 } : HkChan).lowRun ≠ 1 := by decide +kernel
theorem witness_NothingRunsWhileDown : (up 0).holdUp = false ∧ (up 1).holdUp = false ∧ (up 2).holdUp = false ∧ (up 8).holdUp = false := by decide +kernel

/-! Further witnesses: the clauses whose hypotheses read the state after the requests of the engine cycles that are over, and boundary values of the rest. -/

/-- The state in which the Gleaner's commands run at once: the requests of the engine cycles before are taken. -/
def asked (s : State) : State := (s.advance 0).arbitrate false
/-- REBOOT, orderly, that waits. -/
def rebE (arg : Nat) : InFlight := { ce 0x0105 0 0 arg with wait := .reboot, arg := arg }

theorem witness_DeviceAndTimeCommandsRun_reboot :
    (cs 3 (rebE 0)).waiting .reboot = some (rebE 0) ∧ (rebE 0).arg = 0 ∧ (cs 3 (rebE 1)).waiting .reboot = some (rebE 1) ∧ (rebE 1).arg = 1
    ∧ (cs 3 (rebE 1)).stream.opened = false ∧ (cs 3 (rebE 1)).recd.st = .idle
    ∧ ({ cs 3 (rebE 1) with stream := { State.reset.stream with opened := true } } : State).stream.opened = true
    ∧ ({ up 3 with dev := { (up 3).dev with rebootAt := some 0 } } : State).dev.rebootAt = some 0
    ∧ 0 ≤ (up 3).now ∧ ({ up 3 with dev := { (up 3).dev with rebootAt := some 1 } } : State).dev.rebootAt = some 1 ∧ (up 3).now < 1
    ∧ Starts (cs 3 (ce 0x0105 0 0 1)) 0x0105 1 none (ce 0x0105 0 0 1) [] ∧ (ce 0x0105 0 0 1).p 0 0 1 = 1 := by
  unfold Starts; (repeat' apply And.intro) <;> decide +kernel
theorem witness_GleanerCommandsRun :
    Starts (asked (cs 3 (ce 0x0502 0 0 0))) 0x0502 1 none (ce 0x0502 0 0 0) [] ∧ Starts (asked (cs 4 (ce 0x0503 0 0 0x0011F))) 0x0503 1 none (ce 0x0503 0 0 0x0011F) []
    ∧ Starts (asked (cs 4 (ce 0x0504 0 0 0xF01FF001F))) 0x0504 1 none (ce 0x0504 0 0 0xF01FF001F) []
    ∧ startable (asked (cs 3 (ce 0x0503 0 0 0))).cmds.inflight (ce 0x0503 0 0 0) = true
    ∧ ({ asked (cs 3 (ce 0x0503 0 0 0)) with dev := { (asked (cs 3 (ce 0x0503 0 0 0))).dev with word := 4 } } : State).precheck (ce 0x0503 0 0 0) = 0
    ∧ (asked (cs 3 (ce 0x0503 0 0 0))).code ∉ [4, 5, 6]
    ∧ (asked (cs 3 (ce 0x0503 0 0 0))).cmds.inflight.find? (fun x => x.sub == 1 && x.op == 0x0503) = some (ce 0x0503 0 0 0)
    ∧ ({ asked (cs 7 (ce 0x0504 0 0 0)) with dev := { (asked (cs 7 (ce 0x0504 0 0 0))).dev with word := 6 } } : State).precheck (ce 0x0504 0 0 0) = 0
    ∧ startable (asked (cs 7 (ce 0x0504 0 0 0))).cmds.inflight (ce 0x0504 0 0 0) = true ∧ (asked (cs 7 (ce 0x0504 0 0 0))).code ∉ [4, 5, 6]
    ∧ (asked (cs 7 (ce 0x0504 0 0 0))).cmds.inflight.find? (fun x => x.sub == 1 && x.op == 0x0504) = some (ce 0x0504 0 0 0) := by
  unfold Starts; (repeat' apply And.intro) <;> decide +kernel
theorem witness_OpticalCommandsRun_request :
    ({ gw := 31, cap := { ch := 5, prof := 0, profB := [], src := 2, tTrig := some 0 }, noCh := false, sub := some 1 } : GwReq).sub = some 1
    ∧ ∃ t o why, (up 4).request 31 { ch := 5, prof := 0, profB := [], src := 2, tTrig := some 0 } false = (t, o, why) := ⟨rfl, _, _, _, rfl⟩
theorem witness_SessionAndFirmwareCommandsRun_more :
    (begun (cs 3 (ce 0x0C12 0 0 0)) 0 0x0C12 1).priv.opened = true ∧ (begun (cs0 3 (ce 0x0C12 0 0 0)) 0 0x0C12 1).priv.opened = false
    ∧ (cs 3 { ce 0x0C02 0 0 0 with wait := .flash, arg := ms 10 }).waiting .flash = some { ce 0x0C02 0 0 0 with wait := .flash, arg := ms 10 } := by
  (repeat' apply And.intro) <;> decide +kernel
theorem witness_RegisterAccessesRun_more :
    (up 3).reached 0 = false ∧ (up 3).reached 1 = false ∧ (up 3).reached 2 = false ∧ (linked 3).reached (if 1 = 0 then 0 else 2) = true
    ∧ ((linked 3).advance 0).priv.opened = false ∧ (({ linked 3 with priv := { opened := true } } : State).advance 0).priv.opened = true
    ∧ 255 < 256 ∧ 4095 < 4096 ∧ 63 < 64 ∧ 511 < 512 ∧ (linked 3).writeReserved 0 0x58 8 1 = false ∧ (linked 3).writeReserved 2 0 3 1 = false := by
  (repeat' apply And.intro) <;> decide +kernel
theorem witness_RecordingAndSiloEventsRun_more :
    (((sring 9 { held := [[1]] }).srings.get 9).heldAlerts ++ ((sring 9 { held := [[1]] }).srings.get 9).held)[0]? = some [1]
    ∧ (recW .none false).recd.smartAt + sec 10 ≤ 0 + sec 10 ∧ (recW .none false).recd.st = .running ∧ (recW .none false).recd.commitAt + ms 100 ≤ 0 + ms 100 := by
  (repeat' apply And.intro) <;> decide +kernel
theorem witness_BootRuns_stages : ∀ n ∈ [1, 2, 3, 4, 5, 6, 7, 8, 9, 0x0A, 0x0B], (booting n true).dev.stage = BitVec.ofNat 8 n := by decide +kernel
theorem witness_HostLinkAndStreamTimersRun_ring : (31, ({ batch := [[1]] } : StreamRing)) ∈ (sring 31 { batch := [[1]] }).srings.cells := by decide +kernel
theorem witness_ArmAndAxisEventsRun_arm :
    (up 4).pins.armKept = none
    ∧ ({ up 4 with pins := { State.reset.pins with armKept := some (true, none, true), armFell := 0 } } : State).pins.armKept = some (true, none, true)
    ∧ 0 + (ns 5 - 1) < ({ up 4 with pins := { State.reset.pins with armKept := some (true, none, true), armFell := 0 } } : State).pins.armFell + ns 5
    ∧ ({ up 4 with pins := { State.reset.pins with armKept := some (true, none, true), armFell := 0 } } : State).pins.armFell + ns 5 ≤ 0 + ns 5 := by
  (repeat' apply And.intro) <;> decide +kernel
theorem witness_ShotGatesInOrder_latest :
    (shotS (oneShot .scheduled) {}).nextShot 0 = some (oneShot .scheduled, (oneShot .scheduled).shots.headD {})
    ∧ ((shotS (oneShot .scheduled) {}).advance (ns 30)).nextShot 0 = some (oneShot .scheduled, (oneShot .scheduled).shots.headD {})
    ∧ ((shotS (oneShot .scheduled) {}).advance (ns 30 + 1)).nextShot 0 = none := by
  (repeat' apply And.intro) <;> decide +kernel
theorem witness_ThresherEventsRun_pace :
    0 + (ns 1 - 1) < (({ chS {} with thresh := { State.reset.thresh with slices := State.reset.thresh.slices.upd 31 fun k => { k with takeFrom := ns 1 } } } : State).thresh.slices.get
      31).takeFrom
    ∧ ((chS { candq := [candS] }).thresh.slices.get 31).takeFrom ≤ 0 + 0 ∧ ((chS { candq := [candS] }).advance 0).oldestCand 31 = some (5, candS)
    ∧ 0 + 0 < ((chS { pairq := [pairS], engFrom := 1 }).ch 5).engFrom ∧ ((chS { pairq := [pairS] }).ch 5).engFrom ≤ 0 + 0 := by
  (repeat' apply And.intro) <;> decide +kernel
theorem witness_SheafEventsRun_dying : ((chS {}).ch 5).dying = 0 ∧ ((chS { dying := 1 }).ch 5).dying ≠ 0 := by decide +kernel
theorem witness_GleanerEventsRun_asked :
    ((asked (gwS {})).gw.get 31).running = none ∧ ((asked (gwS { running := some (capS true) })).gw.get 31).running = some (capS true)
    ∧ (asked (gwS { running := some (capS true) })).place 31 (capS true) = some (0, 0, 3) := by
  (repeat' apply And.intro) <;> decide +kernel
theorem witness_RepairEventsRun_banks :
    (5 ∉ (engS []).repair.banks ∧ (engS []).repair.bankCopy = none ∧ (engS []).repair.bankQ = [] ∧ (engS []).repair.spareBanks ≠ 0)
    ∧ (({ engS [] with repair := { State.reset.repair with bankCopy := some (3, 0) } } : State).repair.bankQ.length + 1
      < ({ engS [] with repair := { State.reset.repair with bankCopy := some (3, 0) } } : State).repair.spareBanks)
    ∧ (3 : Nat) ≠ 5 ∧ ({ engS [] with repair := { State.reset.repair with spareBanks := 0 } } : State).repair.spareBanks
      ≤ ({ engS [] with repair := { State.reset.repair with spareBanks := 0 } } : State).repair.bankQ.length + 0 := by
  (repeat' apply And.intro) <;> decide +kernel
theorem witness_HandoverAndSessionTimersRun_more : 1 = (pairS2 true).standby ∧ (1 : Nat) < 2 ∧ ¬ (2 : Nat) < 2 := by decide +kernel
theorem witness_LaneAndRingEventsRun_gone :
    ((net 2 1 0 { st := .two } {} [on, on]).advance 0).laneGone 0 true 0 = true ∧ ((net 2 1 0 { st := .two } {} [on, on]).advance 0).laneGone 1 false (us 1) = true
    ∧ ((net 2 1 0 { st := .two } {} [on, on]).advance 0).laneGone 1 false (us 1 - 1) = false := by
  (repeat' apply And.intro) <;> decide +kernel
theorem witness_LinkEventsRun_training :
    trainM.stamps = [0, 1280000, 0, 1280000] ∧ trainM.lanes.length = 2 ∧ linkDelay 0 1280000 0 1280000 = 5000
    ∧ 5000 < linkDelay 0 1280001 0 1280000 ∧ trainGood trainM = true ∧ trainGood { trainM with skew := 8001 } = false ∧ trainGood { trainM with tags := 7 } = false
    ∧ ((net 2 1 0 { st := .training } {} [off, off]).port 0).stepAt + trainM.took.sum ≤ 0 + 0 := by
  (repeat' apply And.intro) <;> decide +kernel
theorem witness_DomainMessagesRun_lane :
    byteAt (msg 9 (le 2 0)) 5 = 0 ∧ byteAt (msg 9 (le 2 0x200)) 5 = 2 ∧ byteAt (msg 9 (le 2 0x300)) 5 = 3
    ∧ ((net 2 1 0 { st := .one, ctlIn := [msg 9 (le 2 0)] } {} [{ off with relocked := true }, on]).advance 0).takeMsg 0 9 ≠ none
    ∧ ((net 2 1 0 { st := .one, ctlIn := [msg 9 (le 2 0)] } {} [{ off with relocked := true }, on]).lane
        ((net 2 1 0 { st := .one, ctlIn := [msg 9 (le 2 0)] } {} [{ off with relocked := true }, on]).partnerLane 0 (byteAt (msg 9 (le 2 0)) 4))).relocked = true
    ∧ ((net 2 1 0 { st := .one, ctlIn := [msg 9 (le 2 0)] } {} [{ off with relocked := true }, on]).port 0).rejoin = none := by
  (repeat' apply And.intro) <;> decide +kernel
theorem witness_LinkDelay : (0 : Nat) ≤ 2 ^ 63 - 1 ∧ 2 ^ 63 - 1 < 2 ^ 63 := by decide
theorem witness_HousekeepingEventsRun_restart : (up 4).code ≠ 8 ∧ (up 8).code = 8 ∧ (up 8).hk.coolSince = none := by decide +kernel
theorem witness_LaneCodeReadsBack : (3 : Nat) < 4 ∧ (∀ v ∈ [0, 1023], v < 1024) ∧ [1, 2].length % 2 = 0 ∧ (List.replicate 640 (0 : Byte)).length = 640
    ∧ laneIn true 3 ((laneOut 3 [0, 1023]).map fun q => 3 - q) = [0, 1023] := by
  (repeat' apply And.intro) <;> decide +kernel
theorem witness_RegistersAtReset : (Pad.fire 31).observeOnly = true ∧ Pad.faultN.isOpenDrain = true
    ∧ ({ State.reset with pins := { State.reset.pins with faultN := false } } : State).padFunction .faultN = .low ∧ ({} : Jtag).ir ≠ .highz := by decide +kernel
theorem witness_StreamOpenRegister : State.reset.stream.opened = false
    ∧ ({ up 5 with stream := { State.reset.stream with opened := true } } : State).stream.opened = true := by decide +kernel

/-! Worked examples and tables of the spec, and single commands from reset. -/

-- R300: the check value of CRC-32C.
theorem test_crc32c : crc32c [0x31, 0x32, 0x33, 0x34, 0x35, 0x36, 0x37, 0x38, 0x39] = 0xE3069283 := by decide +kernel
-- The check value of SHA-384 on "abc", from FIPS 180-4 (log 14).
theorem test_sha384 : beVal (sha384 [0x61, 0x62, 0x63]) = 0xcb00753f45a35e8bb5a03d699ac65007272c32ab0eded1631a8b605a43ff5bed8086072ba1e7cc2358baeca134c825a7 := by decide +kernel
-- The worked example under R308: the sixteen bytes of the clear-day return.
theorem test_return_record : returnRecord 200000 0 288 14 15 18 37 0 199
    = [0x40, 0x0D, 0x03, 0x00, 0x20, 0x01, 0x0E, 0x00, 0x0F, 0x12, 0x25, 0x00, 0xC7, 0x00, 0x00, 0x00] := by decide +kernel
-- The worked example under R148: 320 events in 10 us are reported as 3,419 and ask for k = 2; 8 events ask for k = 1.
theorem test_ambient : rate16 (estimate 320 (us 10)) = 3419 ∧ lowestK (estimate 320 (us 10)) 4000000 3 1 = 2 ∧ lowestK (estimate 8 (us 10)) 4000000 3 1 = 1 := by decide +kernel
-- The worked example of the block guard: 41.0 V lies in band 7 and 45 V in band 8 (R71).
theorem test_bands : bandOf 41000 = 7 ∧ bandOf 45000 = 8 := by decide
-- The worked example under R345: 320 bytes are free, so 128 fit, and then 240 do not.
theorem test_ring_room : ({ sizeLog2 := 20, prod := 5242816, cons := 4194560 } : StreamRing).room = 320
    ∧ ({ sizeLog2 := 20, prod := 5242944, cons := 4194560 } : StreamRing).room = 192 := by decide
-- The stream capacities of the rate table at the two links of the worked examples.
theorem test_capacity : capMB 4 8 = 12600 ∧ capMB 3 4 = 3150 := by decide
-- The worked example of 00_scope: an -SV of stepping B1.
theorem test_identity : ({ State.reset with ident := { State.reset.ident with variant := 2, stepping := 0x11 } } : State).readBar0 0 = 0x51201120
    ∧ ({ State.reset with ident := { State.reset.ident with variant := 2, stepping := 0x11 } } : State).readBar0 4 = 0xAEDFEEDF := by decide +kernel
-- The worked example under R498: between 1,434 at 60 degrees and 1,496 at 95 degrees, 71.3 degrees gives 1,454.
theorem test_interpolation : ({ State.reset with cal := { State.reset.cal with sets := [[0], [0], [0], le 4 1434, le 4 1496, [0]] } } : State).calAt ⟨0, 4, true⟩ (713 / 10) = 1454 := by decide +kernel
-- An empty queue idles (log 3); a command in front runs and leaves the queue.
theorem test_idle : step State.reset = .next State.reset := rfl
theorem test_front : (match step { State.reset with pending := [.nonceExpiry 5, .timeLo 1 4] } with | .next t => t.pending == [.timeLo 1 4] && t.now == 5 | _ => false) = true := by decide +kernel
-- R12: a write that sets a reserved bit has an undefined effect; it stops by name, and the same write with the bit clear runs.
theorem test_reserved_write : (match exec (.streamRingControlWrite 0 0 0x20000000) (sring 0 {}) with | .fault _ => true | _ => false) = true
    ∧ (match exec (.streamRingControlWrite 0 0 0x14000014) (sring 0 {}) with | .next t => (t.srings.get 0).sizeLog2 == 20 | _ => false) = true := by decide +kernel
-- SCRATCH reads back what was written, and writing what an unlisted byte reads as leaves nothing listed (log 12).
theorem test_scratch : Memory.read (Memory.write 7 0xA5 []) 7 = 0xA5 ∧ Memory.write 7 0 (Memory.write 7 0xA5 []) = [] := by decide

end Sys2Proof.Tests
end

/-! The photon estimate (R135): the levels an event's charge exceeds are the lowest ones, so their count gives the highest. -/

namespace Sys2Proof.Machine

/-- Counting the numbers below `n` that meet a condition which passes from each number to the smaller ones:
the count is the first number that fails, so a number lies below the count exactly when it meets the condition. -/
theorem lt_length_filter_range_iff {p : Nat → Bool} (hp : ∀ i j, i ≤ j → p j = true → p i = true) (n i : Nat) :
    i < ((List.range n).filter p).length ↔ i < n ∧ p i = true := by
  induction n with
  | zero => simp
  | succ n ih =>
    rw [List.range_succ, List.filter_append, List.length_append]
    cases hn : p n with
    | false =>
      have hne : p i = true → i ≠ n := by rintro hi rfl; simp [hn] at hi
      simp only [hn, List.filter_cons_of_neg, List.filter_nil, List.length_nil, Bool.false_eq_true,
        not_false_eq_true, Nat.add_zero, ih]
      exact and_congr_left fun hi => by have := hne hi; omega
    | true =>
      have hall : (List.range n).filter p = List.range n :=
        List.filter_eq_self.2 fun j hj => hp j n (List.mem_range.1 hj).le hn
      simp only [hall, hn, List.filter_cons_of_pos, List.filter_nil, List.length_range, List.length_singleton]
      exact ⟨fun hi => ⟨hi, hp i n (Nat.lt_succ_iff.1 hi) hn⟩, And.left⟩

/-- A charge that exceeds the level of one `m` exceeds the levels of all smaller ones, since Q1 is positive (R135). -/
theorem level_exceeded_of_le {q q1 : Int} (h1 : 0 < q1) (i j : Nat) (hij : i ≤ j)
    (hj : decide (2 * q > (2 * (j : Int) + 3) * q1) = true) : decide (2 * q > (2 * (i : Int) + 3) * q1) = true := by
  have hlevel : (2 * (i : Int) + 3) * q1 ≤ (2 * (j : Int) + 3) * q1 :=
    mul_le_mul_of_nonneg_right (by omega) h1.le
  exact decide_eq_true (hlevel.trans_lt (of_decide_eq_true hj))

/-- The model filters the images of 0 to 5 in `Int`; the count is that of the indices themselves. -/
theorem photons_eq_count {q q1 : Int} (h1 : 0 < q1) :
    photons q q1 = 1 + ((List.range 6).filter fun i : Nat => decide (2 * q > (2 * (i : Int) + 3) * q1)).length := by
  rw [photons, if_neg h1.not_ge]
  have hmap : (do let a ← List.range 6; pure (a : Int)) = (List.range 6).map Nat.cast := rfl
  rw [hmap, List.filter_map, List.length_map]
  rfl

/-- What `photons` answers (R135): it reaches `m` exactly when there is such a level and the charge exceeds it. -/
theorem le_photons_iff {q q1 : Int} (h1 : 0 < q1) {m : Nat} (hm : 2 ≤ m) :
    m ≤ photons q q1 ↔ m ≤ 7 ∧ (2 * (m : Int) - 1) * q1 < 2 * q := by
  obtain ⟨i, rfl⟩ := Nat.exists_eq_add_of_le' hm
  have hlevel : 2 * ((i + 2 : Nat) : Int) - 1 = 2 * (i : Int) + 3 := by omega
  have hcount := lt_length_filter_range_iff (level_exceeded_of_le (q := q) h1) 6 i
  rw [decide_eq_true_iff] at hcount
  rw [photons_eq_count h1, hlevel]
  omega

theorem one_le_photons (q q1 : Int) : 1 ≤ photons q q1 := by
  unfold photons
  split
  · exact le_rfl
  · exact Nat.le_add_right 1 _

/-- Settles O31: each clause reads `le_photons_iff` in one direction; 7 bounds the estimate since there is no level of 8. -/
theorem photonEstimateIsHighestLevel : Obligations.PhotonEstimateIsHighestLevel := by
  unfold Obligations.PhotonEstimateIsHighestLevel
  intro q q1 h1
  refine ⟨⟨one_le_photons q q1, ?_⟩, fun m hm hle => ((le_photons_iff h1 hm).1 hle).2, fun m hm h7 hlt => ?_⟩
  · by_contra hgt
    have h8 := (le_photons_iff (q := q) (m := 8) h1 (by decide)).1 (by omega)
    exact absurd h8.1 (by decide)
  · by_contra hexceeds
    exact hlt.not_ge ((le_photons_iff h1 hm).2 ⟨h7, not_le.1 hexceeds⟩)

end Sys2Proof.Machine

/-! Returns in descending order of weight (R216, R226): judging takes the kept peaks in that order, and acceptance, the
selection rule and MAX_RET only leave peaks out. -/

namespace Sys2Proof.Machine

section Sorting
variable {α : Type} {lt : α → α → Bool}

theorem insSorted_perm (x : α) (l : List α) : (insSorted lt x l).Perm (x :: l) := by
  induction l with
  | nil => exact .refl _
  | cons y ys ih =>
    rw [insSorted]
    split
    · exact .refl _
    · exact (ih.cons y).trans (.swap x y ys)

/-- Insertion keeps a list in the order `r` when the comparison decides, for any two elements, one of the two directions of `r`. -/
theorem insSorted_pairwise {r : α → α → Prop} (htrans : ∀ a b c, r a b → r b c → r a c) (hlt : ∀ a b, lt a b = true → r a b)
    (hge : ∀ a b, ¬ lt a b = true → r b a) (x : α) {l : List α} (h : l.Pairwise r) : (insSorted lt x l).Pairwise r := by
  induction l with
  | nil => exact List.pairwise_singleton r x
  | cons y ys ih =>
    obtain ⟨hy, hys⟩ := List.pairwise_cons.1 h
    rw [insSorted]
    split
    next hxy =>
      have hx := hlt x y hxy
      exact h.cons (List.forall_mem_cons.2 ⟨hx, fun z hz => htrans x y z hx (hy z hz)⟩)
    next hxy =>
      refine (ih hys).cons fun z hz => ?_
      obtain rfl | hz := List.mem_cons.1 ((insSorted_perm x ys).subset hz)
      · exact hge z y hxy
      · exact hy z hz

theorem sortBy_concat (l : List α) (x : α) : sortBy lt (l ++ [x]) = insSorted lt x (sortBy lt l) := by
  simp [sortBy, List.foldl_append]

theorem sortBy_perm (l : List α) : (sortBy lt l).Perm l := by
  induction l using List.reverseRecOn with
  | nil => exact .refl _
  | append_singleton l x ih =>
    rw [sortBy_concat]
    exact (insSorted_perm x _).trans ((ih.cons x).trans (List.perm_append_singleton x l).symm)

theorem sortBy_pairwise {r : α → α → Prop} (htrans : ∀ a b c, r a b → r b c → r a c) (hlt : ∀ a b, lt a b = true → r a b)
    (hge : ∀ a b, ¬ lt a b = true → r b a) (l : List α) : (sortBy lt l).Pairwise r := by
  induction l using List.reverseRecOn with
  | nil => exact .nil
  | append_singleton l x ih =>
    rw [sortBy_concat]
    exact insSorted_pairwise htrans hlt hge x ih

end Sorting

theorem judgeOrder_descends (l : List Peak) : (judgeOrder l).Pairwise fun a b => b.wm ≤ a.wm := by
  refine sortBy_pairwise (fun a b c hab hbc => hbc.trans hab) (fun a b h => ?_) (fun a b h => ?_) l <;>
    simp only [Bool.or_eq_true, Bool.and_eq_true, decide_eq_true_iff] at h <;> omega

/-- What acceptance answers (R173, R175): the peaks accepted so far, then some of those still to judge in their order, each with
enough shots and within the span. -/
theorem acceptPeaks_eq_append (m : Nat) (span : Rat) (l acc : List Peak) (seen : List Nat) (n : Nat) :
    ∃ t, (acceptPeaks m span l acc seen n).1 = acc ++ t ∧ t.Sublist l ∧ ∀ p ∈ t, m ≤ p.s ∧ p.tc ≤ span := by
  induction l generalizing acc seen n with
  | nil => exact ⟨[], (List.append_nil acc).symm, .slnil, by simp⟩
  | cons p rest ih =>
    have hskip (n' : Nat) : ∃ t, (acceptPeaks m span rest acc seen n').1 = acc ++ t ∧ t.Sublist (p :: rest)
        ∧ ∀ q ∈ t, m ≤ q.s ∧ q.tc ≤ span := by
      obtain ⟨t, heq, hsub, hmeet⟩ := ih acc seen n'
      exact ⟨t, heq, hsub.cons p, hmeet⟩
    simp only [acceptPeaks]
    split
    case isTrue => exact hskip n
    case isFalse hmeets =>
      split
      case isTrue => exact hskip (n + 1)
      case isFalse =>
        obtain ⟨t, heq, hsub, hmeet⟩ := ih (acc ++ [p]) (seen ++ p.cw.map (·.1)) n
        have hp : m ≤ p.s ∧ p.tc ≤ span := by simpa using hmeets
        exact ⟨p :: t, by rw [heq, List.append_assoc, List.singleton_append], hsub.cons_cons p, List.forall_mem_cons.2 ⟨hp, hmeet⟩⟩

/-- What is reported (R224, R226): the selection rule leaves accepted peaks out, and MAX_RET and the program's limit take the first. -/
theorem reported_eq_take (prog maxRet : Nat) (acc : List Peak) :
    ∃ sel : List Peak, sel.Sublist acc ∧ reported prog maxRet acc = sel.take (min maxRet (returnLimit prog)) := by
  simp only [reported]
  split
  · exact ⟨_, List.filter_sublist, rfl⟩
  · exact ⟨acc, .refl acc, rfl⟩

theorem reported_sublist (prog maxRet : Nat) (acc : List Peak) : (reported prog maxRet acc).Sublist acc := by
  obtain ⟨sel, hsel, heq⟩ := reported_eq_take prog maxRet acc
  exact heq ▸ (List.take_sublist _ sel).trans hsel

theorem length_reported_le (prog maxRet : Nat) (acc : List Peak) : (reported prog maxRet acc).length ≤ min maxRet (returnLimit prog) := by
  obtain ⟨sel, -, heq⟩ := reported_eq_take prog maxRet acc
  exact heq ▸ List.length_take_le _ sel

/-- Settles O56: what is reported is a sublist of the accepted peaks, and those are a sublist of the peaks in judging order. -/
theorem returnsDescendInWeight : Obligations.ReturnsDescendInWeight := by
  unfold Obligations.ReturnsDescendInWeight
  intro prog maxRet m span l
  obtain ⟨t, heq, hsub, hmeet⟩ := acceptPeaks_eq_append m span (judgeOrder l) [] [] 0
  rw [heq, List.nil_append]
  have hrep : (reported prog maxRet t).Sublist t := reported_sublist prog maxRet t
  exact ⟨(judgeOrder_descends l).sublist (hrep.trans hsub), length_reported_le prog maxRet t,
    fun p hp => ⟨(sortBy_perm l).subset (hsub.subset (hrep.subset hp)), hmeet p (hrep.subset hp)⟩⟩

end Sys2Proof.Machine

/-! GLEAN_TEST and GLEAN_FORCE in a state that does not allow them (R263): the checks of R362 other than the device state's do not
read the device state word, so where that one check fails, its status is the command's. -/

namespace Sys2Proof.Machine

/-- A command that fails one of its checks 1 to 7 only completes with the status of that check (R362). -/
theorem State.gcs_of_precheck_ne_zero {t : State} {op sub : Nat} {e : InFlight} {payload : Option Bytes} {body : Body}
    (hfind : t.cmds.inflight.find? (fun x => x.sub == sub && x.op == op) = some e) (hstart : startable t.cmds.inflight e = true)
    (hfail : t.precheck e ≠ 0) : t.gcs op sub payload body = t.finish sub (reply (t.precheck e)) := by
  simp [State.gcs, hfind, hstart, hfail]

theorem stateStatus_ne_zero (code : Nat) : stateStatus code ≠ 0 := by
  unfold stateStatus
  split_ifs <;> decide

/-- A command whose checks all pass under another device state word, in a state its opcode does not allow: the last check is the one
that fails (R362). -/
theorem State.precheck_eq_stateStatus {t : State} {e : InFlight} {o : OpInfo} {w : Word} (hop : opInfo e.op = some o)
    (hpass : ({ t with dev := { t.dev with word := w } } : State).precheck e = 0) (hstate : t.code ∉ o.states) :
    t.precheck e = stateStatus o.code := by
  simp only [State.precheck, hop] at hpass ⊢
  split_ifs at hpass with hreserved hmailbox hlength haligned hprivilege hrom
  case pos => exact absurd hpass (stateStatus_ne_zero o.code)
  case neg =>
    have hother : (!o.states.contains t.code) = true := by simpa using hstate
    rw [if_neg hreserved, if_neg hmailbox, if_neg hlength, if_neg haligned, if_neg hprivilege, if_neg hrom, if_pos hother]

/-- GLEAN_TEST and GLEAN_FORCE are commands of ARMED, RANGING and DEGRADED, and fail with GLEAN_STATE in any other state (R263). -/
theorem opInfo_glean {op : Nat} (hop : op = 0x0503 ∨ op = 0x0504) :
    ∃ o, opInfo op = some o ∧ o.states = [4, 5, 6] ∧ stateStatus o.code = 0x0212 := by
  rcases hop with rfl | rfl
  · exact ⟨_, rfl, rfl, rfl⟩
  · exact ⟨_, rfl, rfl, rfl⟩

/-- Either command, where only the device state stands against it, completes with GLEAN_STATE and runs no body (R263). -/
theorem State.gcs_glean_refused {t : State} {op sub : Nat} {e : InFlight} {w : Word} {payload : Option Bytes} {body : Body}
    (hop : op = 0x0503 ∨ op = 0x0504) (hfind : t.cmds.inflight.find? (fun x => x.sub == sub && x.op == op) = some e)
    (hstart : startable t.cmds.inflight e = true)
    (hpass : ({ t with dev := { t.dev with word := w } } : State).precheck e = 0) (hstate : t.code ∉ [4, 5, 6]) :
    t.gcs op sub payload body = t.finish sub (reply 0x0212) := by
  obtain ⟨-, heop⟩ : e.sub = sub ∧ e.op = op := by simpa using List.find?_some hfind
  obtain ⟨o, ho, hstates, hstatus⟩ := opInfo_glean hop
  have hcheck : t.precheck e = 0x0212 :=
    (State.precheck_eq_stateStatus (heop ▸ ho) hpass (hstates ▸ hstate)).trans hstatus
  rw [State.gcs_of_precheck_ne_zero hfind hstart (by rw [hcheck]; decide), hcheck]

/-- Settles O51: both commands are `gcs` of their opcode once the requests of the engine cycles before are taken. -/
theorem gleanCommandsNeedConverters : Obligations.GleanCommandsNeedConverters := by
  unfold Obligations.GleanCommandsNeedConverters
  rintro s t dt sub e w rfl hstart hpass hstate
  have hrefused {op : Nat} (body : Body) (hop : op = 0x0503 ∨ op = 0x0504)
      (hfind : ((s.advance dt).arbitrate false).cmds.inflight.find? (fun x => x.sub == sub && x.op == op) = some e) :
      run dt s (fun u => (u.arbitrate false).gcs op sub none body)
        = .next (endStep dt s (((s.advance dt).arbitrate false).finish sub (reply 0x0212))) := by
    rw [run, State.gcs_glean_refused hop hfind hstart hpass hstate]
  exact ⟨hrefused bodyGleanTest (.inl rfl), hrefused bodyGleanForce (.inr rfl)⟩

end Sys2Proof.Machine

/-! The common header of a record (R298, R300): numbers written as bytes read back, wherever they stand in a byte string. -/

namespace Sys2Proof.Machine

@[simp] theorem length_le (n v : Nat) : (le n v).length = n := by
  induction n generalizing v with
  | zero => rfl
  | succ n ih => rw [le, List.length_cons, ih]

/-- `n` bytes hold a number modulo 256 ^ n. -/
theorem leVal_le (n v : Nat) : leVal (le n v) = v % 256 ^ n := by
  induction n generalizing v with
  | zero => exact (Nat.mod_one v).symm
  | succ n ih => rw [le, leVal, ih, Nat.pow_succ', Nat.mod_mul, BitVec.toNat_ofNat]

/-- The bytes of a number are those of its low part, then those of its high part. -/
theorem le_add (m n v : Nat) : le (m + n) v = le m v ++ le n (v / 256 ^ m) := by
  induction m generalizing v with
  | zero => simp [le]
  | succ m ih => rw [Nat.succ_add, le, le, ih, Nat.div_div_eq_div_mul, ← Nat.pow_succ', List.cons_append]

theorem slice_append_append (a b c : Bytes) : slice (a ++ (b ++ c)) a.length b.length = b := by
  simp [slice]

@[simp] theorem length_slice (b : Bytes) (i n : Nat) : (slice b i n).length = n := by
  simp [slice]

theorem byteAt_eq_num (b : Bytes) (i : Nat) : byteAt b i = num b i 1 := by
  obtain ⟨x, hx⟩ := List.length_eq_one_iff.1 (length_slice b i 1)
  simp [byteAt, num, hx, leVal]

/-- A read of `n` bytes that lies within the `k` bytes of a number, `i` bytes from their start. -/
theorem num_append_le_append_part {a c : Bytes} {i j k n v : Nat} (hj : a.length + i = j) (hin : i + n ≤ k) :
    num (a ++ (le k v ++ c)) j n = v / 256 ^ i % 256 ^ n := by
  obtain ⟨m, rfl⟩ := Nat.exists_eq_add_of_le hin
  have hsplit : a ++ (le (i + n + m) v ++ c)
      = (a ++ le i v) ++ (le n (v / 256 ^ i) ++ (le m (v / 256 ^ (i + n)) ++ c)) := by
    simp only [le_add, List.append_assoc]
  have hslice := slice_append_append (a ++ le i v) (le n (v / 256 ^ i)) (le m (v / 256 ^ (i + n)) ++ c)
  rw [List.length_append, length_le, length_le, hj] at hslice
  rw [hsplit, num, hslice, leVal_le]

/-- A read of all the bytes of a number. -/
theorem num_append_le_append {a c : Bytes} {j n v : Nat} (hj : a.length = j) (hv : v < 256 ^ n) :
    num (a ++ (le n v ++ c)) j n = v := by
  rw [num_append_le_append_part (i := 0) hj (Nat.zero_add n).le, Nat.pow_zero, Nat.div_one, Nat.mod_eq_of_lt hv]

/-- The first word of a record (R298): TYPE, LEN16 and DEV. -/
def headerWord (type dev : Nat) (body : Bytes) : Nat := pack [(0, type), (4, (16 + body.length) / 16), (16, dev)]

/-- What a record's CRC is taken over (R300): the record without the CRC itself. -/
def crcInput (type dev time : Nat) (body : Bytes) : Bytes := le 4 (headerWord type dev body) ++ (le 8 time ++ body)

/-- The parts of a record in their order (R298). -/
theorem mkRecord_eq (type dev time : Nat) (body : Bytes) : mkRecord type dev time body
    = le 4 (headerWord type dev body) ++ (le 4 (crc32c (crcInput type dev time body)).toNat ++ (le 8 time ++ body)) :=
  List.append_assoc ..

theorem length_mkRecord (type dev time : Nat) (body : Bytes) : (mkRecord type dev time body).length = 16 + body.length := by
  simp only [mkRecord_eq, List.length_append, length_le]
  omega

theorem drop_mkRecord (type dev time : Nat) (body : Bytes) : (mkRecord type dev time body).drop 16 = body := by
  simp [mkRecord_eq, List.drop_append, List.drop_eq_nil_of_le]

/-- Bytes 0 to 3 and 8 to the end of a record are what its CRC is taken over (R300). -/
theorem take_append_drop_mkRecord (type dev time : Nat) (body : Bytes) :
    (mkRecord type dev time body).take 4 ++ (mkRecord type dev time body).drop 8 = crcInput type dev time body := by
  simp [mkRecord_eq, crcInput, List.drop_append]

/-- A read within the first word of a record. -/
theorem num_mkRecord_headerWord {type dev time i n : Nat} {body : Bytes} (hin : i + n ≤ 4) :
    num (mkRecord type dev time body) i n = headerWord type dev body / 256 ^ i % 256 ^ n := by
  rw [mkRecord_eq]
  exact num_append_le_append_part (a := []) (Nat.zero_add i) hin

theorem num_mkRecord_crc (type dev time : Nat) (body : Bytes) :
    num (mkRecord type dev time body) 4 4 = (crc32c (crcInput type dev time body)).toNat := by
  rw [mkRecord_eq, num_append_le_append (length_le ..) (BitVec.isLt _)]

theorem recTime_mkRecord {type dev time : Nat} {body : Bytes} (htime : time < 2 ^ 64) :
    recTime (mkRecord type dev time body) = time := by
  rw [recTime, mkRecord_eq, ← List.append_assoc, num_append_le_append (by simp) htime]

/-- The fields of the first word do not overlap, and LEN16 fits its 12 bits up to a record of 65,520 bytes (R298). -/
theorem headerWord_fields {type dev : Nat} {body : Bytes} (htype : type < 16) (hdev : dev < 65536)
    (hlen : body.length ≤ 65504) :
    headerWord type dev body < 256 ^ 4 ∧ headerWord type dev body % 16 = type
    ∧ headerWord type dev body / 2 ^ 4 % 2 ^ 12 = (16 + body.length) / 16 ∧ headerWord type dev body / 2 ^ 16 = dev := by
  simp only [headerWord, pack]
  omega

theorem recType_mkRecord {type dev time : Nat} {body : Bytes} (htype : type < 16) (hdev : dev < 65536)
    (hlen : body.length ≤ 65504) : recType (mkRecord type dev time body) = type := by
  obtain ⟨-, hfield, -, -⟩ := headerWord_fields htype hdev hlen
  rw [recType, byteAt_eq_num, num_mkRecord_headerWord (by decide)]
  omega

theorem recDev_mkRecord {type dev time : Nat} {body : Bytes} (htype : type < 16) (hdev : dev < 65536)
    (hlen : body.length ≤ 65504) : recDev (mkRecord type dev time body) = dev := by
  obtain ⟨-, -, -, hfield⟩ := headerWord_fields htype hdev hlen
  rw [recDev, num_mkRecord_headerWord (by decide)]
  omega

/-- LEN16 counts the record's units of 16 bytes, the header's one among them (R298). -/
theorem len16_mkRecord {type dev time : Nat} {body : Bytes} (htype : type < 16) (hdev : dev < 65536)
    (hlen : body.length ≤ 65504) : fieldOf (mkRecord type dev time body) 0 4 12 = (16 + body.length) / 16 := by
  obtain ⟨hword, -, hfield, -⟩ := headerWord_fields htype hdev hlen
  rw [fieldOf, num_mkRecord_headerWord (by decide), Nat.pow_zero, Nat.div_one, Nat.mod_eq_of_lt hword]
  exact hfield

/-- The check value of CRC-32C (R300). -/
theorem crc32c_checkValue : crc32c [0x31, 0x32, 0x33, 0x34, 0x35, 0x36, 0x37, 0x38, 0x39] = 0xE3069283 := by decide +kernel

/-- Settles O54: each field is a read within the bytes its number was written to, and the rest is the layout of the record. -/
theorem recordHeaderReadsBack : Obligations.RecordHeaderReadsBack := by
  unfold Obligations.RecordHeaderReadsBack
  refine ⟨crc32c_checkValue, fun type dev time body htype hdev htime hunits hlen => ?_⟩
  have hlength : (mkRecord type dev time body).length = 16 * fieldOf (mkRecord type dev time body) 0 4 12 := by
    rw [length_mkRecord, len16_mkRecord htype hdev hlen]
    omega
  refine ⟨recType_mkRecord htype hdev hlen, recDev_mkRecord htype hdev hlen, recTime_mkRecord htime, hlength,
    drop_mkRecord type dev time body, ?_⟩
  rw [take_append_drop_mkRecord, num_mkRecord_crc]

end Sys2Proof.Machine

/-! STREAM_OPEN (R347): the register at 0x2000 of PF1 BAR0 stands above the stream rings, whose writes end below it, and below the
MSI-X table. -/

namespace Sys2Proof.Machine

/-- PF1 BAR0 reads whether the stream is open at 0x2000, as the number 0 or 1 of a flag: bits 31:1 are 0 (R347). -/
@[simp] theorem State.readReg_streamOpen (s : State) : s.readReg 2 0x2000 = b2n s.stream.opened := by
  simp [State.readReg, State.readPf1]

theorem State.write32_pf1 (s : State) (ofs v : Nat) : s.write32 2 ofs v = s.writePf1 ofs v := rfl

/-- Past the stream rings only the MSI-X table of PF1 BAR0 takes a write (R346, R347, R352). -/
theorem State.write32_pf1_readOnly (s : State) {ofs : Nat} (v : Nat) (hrings : 0x2000 ≤ ofs)
    (hmsix : ofs < 0x80000 ∨ 0x80400 ≤ ofs) : s.write32 2 ofs v = s := by
  have htable : ¬((decide (0x80000 ≤ ofs) && decide (ofs < 0x80400)) = true) := by
    simp only [Bool.and_eq_true, decide_eq_true_eq]
    omega
  rw [State.write32_pf1, State.writePf1, if_neg htable, if_pos hrings]

/-- The stream is closed at reset (R322, R347). -/
theorem State.stream_opened_reset : State.reset.stream.opened = false := rfl

/-- Settles O47: the read is the flag of the open stream, and the write leaves the whole state as it was. -/
theorem streamOpenRegister : Obligations.StreamOpenRegister := by
  unfold Obligations.StreamOpenRegister
  refine ⟨?_, fun s => ⟨fun hopen => ?_, fun hclosed => ?_, fun v => ?_⟩⟩
  · rw [State.readReg_streamOpen, State.stream_opened_reset, b2n, if_neg Bool.false_ne_true]
  · rw [State.readReg_streamOpen, hopen, b2n, if_pos rfl]
  · rw [State.readReg_streamOpen, hclosed, b2n, if_neg Bool.false_ne_true]
  · rw [State.write32_pf1_readOnly s v le_rfl (.inl (by decide))]

end Sys2Proof.Machine

/-! Barriers (R361, R371): a command that may start has no barrier before it, and a barrier that may start has nothing before it. -/

namespace Sys2Proof.Machine

theorem InFlight.barrier_of_reboot {e : InFlight} (hop : e.op = 0x0105) : e.barrier = true := by
  rw [InFlight.barrier, hop, beq_self_eq_true, Bool.or_true]

/-- What the start of a command says about barriers (R361, R371). -/
theorem barriers_of_startable {l : List InFlight} {e : InFlight} (h : startable l e = true) :
    (∀ y ∈ l, y.sub < e.sub → y.barrier = false) ∧ (e.barrier = true → ∀ y ∈ l, e.sub ≤ y.sub) := by
  rw [startable, Bool.and_eq_true, Bool.and_eq_true] at h
  obtain ⟨⟨-, hnone⟩, hfirst⟩ := h
  have hclear : ∀ y ∈ l, e.sub ≤ y.sub ∨ y.barrier = false := by simpa using hnone
  exact ⟨fun y hy hsub => (hclear y hy).resolve_left (Nat.not_le.2 hsub), fun hbar => by simpa [hbar] using hfirst⟩

theorem not_startable_of_earlier {l : List InFlight} {e x : InFlight} (hbar : e.barrier = true) (hx : x ∈ l)
    (hsub : x.sub < e.sub) : startable l e = false :=
  Bool.eq_false_iff.2 fun hstart => absurd ((barriers_of_startable hstart).2 hbar x hx) (Nat.not_le.2 hsub)

theorem not_startable_of_earlier_barrier {l : List InFlight} {e x : InFlight} (he : e ∈ l) (hbar : e.barrier = true)
    (hsub : e.sub < x.sub) : startable l x = false :=
  Bool.eq_false_iff.2 fun hstart => absurd hbar (Bool.eq_false_iff.1 ((barriers_of_startable hstart).1 e he hsub))

/-- Settles O49: REBOOT counts as a barrier, and a barrier neither passes an earlier command nor is passed by a later one. -/
theorem rebootIsBarrier : Obligations.RebootIsBarrier := by
  unfold Obligations.RebootIsBarrier
  intro l e x he hop
  have hbar : e.barrier = true := InFlight.barrier_of_reboot hop
  exact ⟨hbar, not_startable_of_earlier hbar, not_startable_of_earlier_barrier he hbar⟩

end Sys2Proof.Machine

/-! What every step keeps: the queue, the identity, the fuses (R5, R534, R538). -/

namespace Sys2Proof.Machine

/-- Settles O1. -/
theorem stepRunsFrontCommand : Obligations.StepRunsFrontCommand := by
  unfold Obligations.StepRunsFrontCommand
  refine ⟨fun s c rest hqueue => ?_, fun s hqueue => ?_⟩
  · rw [step, hqueue]
  · rw [step, hqueue]

/-- Settles O2: whatever the effect was, `endStep` puts queue and identity back and moves the clock on. -/
theorem execKeepsQueueAndIdentity : Obligations.ExecKeepsQueueAndIdentity := by
  unfold Obligations.ExecKeepsQueueAndIdentity
  intro c s t h
  obtain ⟨dt, u, rfl⟩ := exec_ends c s t h
  exact ⟨endStep_pending dt s u, endStep_ident dt s u, (endStep_now dt s u).symm ▸ Nat.le_add_right s.now dt⟩

/-- The fuses after a step are those before it, with some blown: an empty queue idles, and every command ends with `endStep`. -/
theorem otp_of_step_next {s t : State} (h : step s = .next t) : t = s ∨ ∃ o : Otp, t.otp = s.otp.burn o := by
  rw [step] at h
  split at h
  case h_1 => exact .inl (Host.Outcome.next.inj h).symm
  case h_2 c rest _ =>
    obtain ⟨dt, u, rfl⟩ := exec_ends c _ t h
    exact .inr ⟨u.otp, endStep_otp dt _ u⟩

/-- A programmed slot keeps its hash (R534). -/
theorem getD_burnHash_of_ne_nil {old : List Bytes} (new : List Bytes) {k : Nat} (hk : k < 4) (h : old.getD k [] ≠ []) :
    (burnHash old new).getD k [] = old.getD k [] := by
  have hset : (old.getD k []).isEmpty = false := by simpa using h
  rw [burnHash, List.getD_eq_getElem _ _ (by simpa using hk)]
  simp only [List.getElem_map, List.getElem_range, hset, Bool.false_eq_true, if_false]

theorem getLsbD_or_of_left {w : Nat} {x : BitVec w} (y : BitVec w) {k : Nat} (h : x.getLsbD k = true) : (x ||| y).getLsbD k = true := by
  rw [BitVec.getLsbD_or, h, Bool.true_or]

/-- Settles O3: the fuses after a step are the old ones or `burn` of them, and `burn` only blows fuses. -/
theorem fusesOnlyBlown : Obligations.FusesOnlyBlown := by
  unfold Obligations.FusesOnlyBlown
  intro s t hs h
  obtain rfl | ⟨o, ho⟩ := otp_of_step_next h
  · exact ⟨hs, le_rfl, le_rfl, id, fun _ => id, fun _ => id, fun _ => id, fun _ _ _ => rfl, fun _ _ _ => rfl, fun _ _ _ => rfl⟩
  · obtain ⟨hfw, hsched⟩ := hs
    rw [FusesOk, ho]
    refine ⟨⟨Nat.min_le_left .., Nat.min_le_left ..⟩, le_min hfw (Nat.le_max_left ..), le_min hsched (Nat.le_max_left ..), fun hlock => ?_,
      fun v hv => ?_, fun k => getLsbD_or_of_left o.schedRev, fun k => getLsbD_or_of_left o.sessRev,
      fun k => getD_burnHash_of_ne_nil o.fwHash, fun k => getD_burnHash_of_ne_nil o.schedHash, fun k => getD_burnHash_of_ne_nil o.sessHash⟩
    · rw [Otp.burn, hlock, Bool.true_or]
    · rw [Otp.burn, hv]

/-- Settles O4: the counters are 0, and the state word and its complement are the numbers that the reset state is written with. -/
theorem resetMeetsInvariants : Obligations.ResetMeetsInvariants := by
  unfold Obligations.ResetMeetsInvariants
  exact ⟨⟨Nat.zero_le 64, Nat.zero_le 64⟩, by rw [StateWordOk]; decide⟩

/-- The write of a reserved bit stops (R12). -/
theorem runW_reserved {dt : Nat} {s : State} {bad : Bool} {f : State → State} (h : bad = true) : runW dt s bad f = .fault .reservedBitWritten := by
  rw [runW, if_pos h]

/-- A register that the write reaches, and a value with a reserved bit set. -/
theorem reserved_of_reached {s : State} {bar v m : Nat} (hr : s.reached bar = true) (hv : v &&& m ≠ 0) :
    (s.reached bar && v &&& m != 0) = true := by
  rw [hr, Bool.true_and, bne_iff_ne]
  exact hv

/-- Settles O6: each of the six rows is a `runW` whose guard is the hypothesis. -/
theorem reservedBitWriteStops : Obligations.ReservedBitWriteStops := by
  unfold Obligations.ReservedBitWriteStops
  exact ⟨fun _ _ _ hr hv => runW_reserved (reserved_of_reached hr hv),
    fun _ _ _ _ hr hv => ⟨runW_reserved (reserved_of_reached hr hv), runW_reserved (reserved_of_reached hr hv)⟩,
    fun _ _ _ _ hr hv => runW_reserved (reserved_of_reached hr hv), fun _ _ _ _ hr hv => runW_reserved (reserved_of_reached hr hv),
    fun _ _ _ _ _ _ hbad => runW_reserved hbad⟩

/-! A state in which nothing is due (R548; log 22): each stage of settling leaves it alone. -/

/-- A capture as `State.retime` leaves it. -/
def State.retimed (s : State) (c : Capture) : Capture :=
  if c.src = 1 && c.tTrig.any (fun t => decide (t > s.now)) then { c with time := s.timeAt (c.tTrig.getD 0) } else c

/-- A converter as `State.retime` leaves it. -/
def GwState.retimed (g : GwState) (s : State) : GwState := { g with running := g.running.map s.retimed, waiting := g.waiting.map s.retimed }

theorem State.retime_eq (s : State) :
    s.retime = { s with gw := { s.gw with cells := s.gw.cells.map fun x => (x.1, x.2.retimed s) } } := rfl

section QuietState
variable {u : State}

/-- No capture request waits, so none is taken (R254). -/
theorem State.arbitrate_of_glq_nil (h : u.glq = []) (all : Bool) : u.arbitrate all = u := by
  rw [State.arbitrate, if_pos (by rw [h]; rfl)]

theorem State.checkWord_of_wordOk (h : StateWordOk u) : u.checkWord = u := by
  rw [StateWordOk] at h
  rw [State.checkWord, if_pos (by rw [h, beq_self_eq_true, Bool.true_or])]

/-- A capture's time is formed again only while its trigger instant is still to come (R301). -/
theorem State.retimed_of_past {c : Capture} (h : c.src = 1 → ∀ t, c.tTrig = some t → t ≤ u.now) : u.retimed c = c := by
  refine if_neg fun hdue => ?_
  obtain ⟨hsrc, hlate⟩ : c.src = 1 ∧ c.tTrig.any (fun t => decide (u.now < t)) = true := by simpa using hdue
  obtain ⟨t, ht, hlt⟩ := (Option.any_eq_true ..).1 hlate
  exact absurd (h hsrc t ht) (Nat.not_le.2 (of_decide_eq_true hlt))

theorem State.retime_of_past
    (h : ∀ x ∈ u.gw.cells, ∀ c ∈ x.2.running.toList ++ x.2.waiting, c.src = 1 → ∀ t, c.tTrig = some t → t ≤ u.now) : u.retime = u := by
  have hconv {x : Nat × GwState} (hx : x ∈ u.gw.cells) : (x.1, x.2.retimed u) = x := by
    have hrun : x.2.running.map u.retimed = x.2.running := by
      refine (Option.map_congr fun c hc => ?_).trans Option.map_id'
      exact State.retimed_of_past (h x hx c (by simp [Option.mem_def.1 hc]))
    have hwait : x.2.waiting.map u.retimed = x.2.waiting := by
      refine (List.map_congr_left fun c hc => ?_).trans (List.map_id' x.2.waiting)
      exact State.retimed_of_past (h x hx c (List.mem_append_right _ hc))
    rw [GwState.retimed, hrun, hwait]
  have hcells : u.gw.cells.map (fun x => (x.1, x.2.retimed u)) = u.gw.cells :=
    (List.map_congr_left fun x hx => hconv hx).trans (List.map_id' u.gw.cells)
  rw [State.retime_eq, hcells]

/-- No FATAL is to be taken up (R515). -/
theorem State.settleFatals_of_none (h : u.err.fatalDue = []) : u.settleFatals = u := by
  have herr : { u.err with fatalDue := [] } = u.err := by rw [← h]
  rw [State.settleFatals, h, herr, List.foldl_nil]

/-- REASONS are as the conditions have them, and the state agrees with them (R291, R374). -/
theorem State.settleReasons_of_settled (h : u.reasonsNow = u.dev.reasons) (h5 : u.code = 5 → u.dev.reasons = 0)
    (h6 : u.code = 6 → u.dev.reasons ≠ 0) : u.settleReasons = u := by
  have hranging : ¬ (decide (u.code = 5) && u.dev.reasons != 0) = true := by simpa using h5
  have hdegraded : ¬ (decide (u.code = 6) && decide (u.dev.reasons = 0)) = true := by simpa using h6
  rw [State.settleReasons, h]
  exact (if_neg hranging).trans (if_neg hdegraded)

theorem State.tryClose_of_closing_none (h : u.stream.closing = none) : u.tryClose = u := by rw [State.tryClose, h]

/-- No status record is owed (R322). -/
theorem State.statusIfChanged_of_none (h : u.stream.opened = true → u.whyNow = 0) : u.statusIfChanged = u := by
  refine if_neg fun howed => ?_
  obtain ⟨hopen, hwhy⟩ : u.stream.opened = true ∧ u.whyNow ≠ 0 := by simpa using howed
  exact hwhy (h hopen)

theorem State.tryDrain_of_waiting_none (h : u.waiting .flash = none) : u.tryDrain = u := by rw [State.tryDrain, h]

theorem State.tryReboot_of_waiting_none (h : u.waiting .reboot = none) : u.tryReboot = u := by rw [State.tryReboot, h]

/-- The reset of a REBOOT is not due yet (R526). -/
theorem State.rebootDue_of_later (h : ∀ t, u.dev.rebootAt = some t → u.now < t) : u.rebootDue = u := by
  rw [State.rebootDue]
  cases hat : u.dev.rebootAt with
  | none => rfl
  | some t => exact if_neg (by simpa using h t hat)

/-- Settling leaves a state alone in which nothing is due. -/
theorem State.settle_of_quiet (h : Quiet u) : u.settle = u := by
  obtain ⟨hglq, hword, hpast, hfatal, hreasons, h5, h6, hclosing, hflash, hreboot, hlater, hstatus⟩ := h
  rw [State.settle, State.arbitrate_of_glq_nil hglq, State.checkWord_of_wordOk hword, State.retime_of_past hpast,
    State.settleFatals_of_none hfatal, State.settleReasons_of_settled hreasons h5 h6, State.tryClose_of_closing_none hclosing,
    State.statusIfChanged_of_none hstatus, State.tryDrain_of_waiting_none hflash, State.tryReboot_of_waiting_none hreboot,
    State.rebootDue_of_later hlater]

end QuietState

/-- Settles O5. -/
theorem settleOnQuietState : Obligations.SettleOnQuietState := by
  unfold Obligations.SettleOnQuietState
  intro dt s u hquiet
  have hsettle : u.settle = u := State.settle_of_quiet hquiet
  exact ⟨hsettle, by rw [endStep, hsettle]⟩

end Sys2Proof.Machine

/-! The code generator (R49, R50): one step is linear over GF(2), so the images of the 31 unit states give every power of it. -/

namespace Sys2Proof.Machine

theorem getLsbD_genStep (x : BitVec 31) (i : Nat) :
    (genStep x).getLsbD i = if i = 0 then x.getLsbD 30 ^^ x.getLsbD 27 else decide (i < 31) && x.getLsbD (i - 1) := by
  have hbit (b : Bool) : (BitVec.ofNat 31 (b2n b)).getLsbD i = (decide (i = 0) && b) := by
    cases b with
    | false => simp [b2n]
    | true =>
      have htest : Nat.testBit 1 i = decide (0 = i) := Nat.testBit_two_pow (n := 0)
      rw [b2n, if_pos rfl, BitVec.getLsbD_ofNat, htest]
      by_cases hi : i = 0 <;> simp [hi, eq_comm]
  rw [genStep, BitVec.getLsbD_or, BitVec.getLsbD_shiftLeft, hbit]
  by_cases hi : i = 0 <;> simp [hi]

theorem genStep_xor (x y : BitVec 31) : genStep (x ^^^ y) = genStep x ^^^ genStep y := by
  apply BitVec.eq_of_getLsbD_eq
  intro i hi
  simp only [getLsbD_genStep, BitVec.getLsbD_xor]
  split
  · cases x.getLsbD 30 <;> cases x.getLsbD 27 <;> simp
  · simp [hi]

/-- A step loses no state but zero: the upper 30 bits of the new state are bits of the old one, and with them known its
lowest bit gives the bit that was shifted out. -/
theorem genStep_ne_zero {x : BitVec 31} (hx : x ≠ 0) : genStep x ≠ 0 := by
  intro hstep
  have hzero (i : Nat) : (genStep x).getLsbD i = false := by rw [hstep]; exact BitVec.getLsbD_zero
  have hlow (i : Nat) (hi : i < 30) : x.getLsbD i = false := by
    have h := hzero (i + 1)
    rw [getLsbD_genStep, if_neg (Nat.succ_ne_zero i), Nat.add_sub_cancel] at h
    simpa [show i + 1 < 31 by omega] using h
  have htop : x.getLsbD 30 = false := by
    have h := hzero 0
    rwa [getLsbD_genStep, if_pos rfl, hlow 27 (by decide), Bool.xor_false] at h
  refine hx (BitVec.eq_of_getLsbD_eq fun i hi => ?_)
  rw [show (0 : BitVec 31).getLsbD i = false from BitVec.getLsbD_zero]
  obtain hi | rfl : i < 30 ∨ i = 30 := by omega
  · exact hlow i hi
  · exact htop

/-- A map of generator states is linear over GF(2). -/
def Linear (f : BitVec 31 → BitVec 31) : Prop := ∀ x y, f (x ^^^ y) = f x ^^^ f y

theorem Linear.zero {f : BitVec 31 → BitVec 31} (hf : Linear f) : f 0 = 0 := by
  have h := hf 0 0
  rwa [BitVec.xor_self, BitVec.xor_self] at h

theorem Linear.comp {f g : BitVec 31 → BitVec 31} (hf : Linear f) (hg : Linear g) : Linear (f ∘ g) := fun x y => by
  rw [Function.comp_apply, hg, hf]
  rfl

/-- The images of the unit states, as `linApply` takes them. -/
def imagesOf (f : BitVec 31 → BitVec 31) : List (BitVec 31) := (List.range 31).map fun i => f (BitVec.ofNat 31 (2 ^ i))

theorem genMap_eq_imagesOf : genMap = imagesOf genStep := rfl

/-- The bits of `x` from bit `k` on: bit `k` and those above it. -/
theorem highBits_eq_xor (x : BitVec 31) {k : Nat} (hk : k < 31) :
    x >>> k <<< k = (if x.getLsbD k then BitVec.ofNat 31 (2 ^ k) else 0) ^^^ x >>> (k + 1) <<< (k + 1) := by
  apply BitVec.eq_of_getLsbD_eq
  intro i hi
  have hunit : (if x.getLsbD k then BitVec.ofNat 31 (2 ^ k) else 0).getLsbD i = (decide (k = i) && x.getLsbD k) := by
    cases x.getLsbD k with
    | false => simp
    | true => rw [if_pos rfl, BitVec.getLsbD_ofNat, Nat.testBit_two_pow, decide_eq_true hi, Bool.true_and, Bool.and_true]
  simp only [BitVec.getLsbD_xor, hunit, BitVec.getLsbD_shiftLeft, BitVec.getLsbD_ushiftRight, hi, decide_true, Bool.true_and]
  obtain hlt | rfl | hgt := Nat.lt_trichotomy i k
  · simp [hlt, Nat.lt_succ_of_lt hlt, hlt.ne']
  · simp
  · simp [Nat.not_lt.2 hgt.le, Nat.not_lt.2 (Nat.succ_le_of_lt hgt), hgt.ne, Nat.add_sub_cancel' hgt.le, Nat.add_sub_cancel' (Nat.succ_le_of_lt hgt)]

/-- The images from bit `k` on give the image of the bits of `x` from bit `k` on. -/
theorem linApply_range' {f : BitVec 31 → BitVec 31} (hf : Linear f) (x : BitVec 31) (n k : Nat) (hk : k + n = 31) :
    linApply ((List.range' k n).map fun i => f (BitVec.ofNat 31 (2 ^ i))) k x = f (x >>> k <<< k) := by
  induction n generalizing k with
  | zero =>
    obtain rfl : k = 31 := hk
    have hnone : x >>> 31 <<< 31 = 0 := by
      apply BitVec.eq_of_getLsbD_eq
      intro i hi
      simp [hi]
    rw [hnone, hf.zero]
    rfl
  | succ n ih =>
    rw [List.range'_succ, List.map_cons, linApply, ih (k + 1) (by omega), highBits_eq_xor x (k := k) (by omega), hf]
    cases x.getLsbD k with
    | false => exact congrArg (· ^^^ f (x >>> (k + 1) <<< (k + 1))) hf.zero.symm
    | true => rfl

/-- The images of the unit states give the whole map. -/
theorem linApply_imagesOf {f : BitVec 31 → BitVec 31} (hf : Linear f) (x : BitVec 31) : linApply (imagesOf f) 0 x = f x := by
  rw [imagesOf, List.range_eq_range', linApply_range' hf x 31 0 rfl]
  simp

/-- Squaring the map: its images once more under the map. -/
theorem imagesOf_map {f : BitVec 31 → BitVec 31} (hf : Linear f) : (imagesOf f).map (linApply (imagesOf f) 0) = imagesOf (f ∘ f) := by
  simp only [imagesOf, List.map_map]
  exact List.map_congr_left fun i _ => linApply_imagesOf hf (f (BitVec.ofNat 31 (2 ^ i)))

/-- Jump-ahead by the low `n` bits of `p` with the map of `f` applies `f` as often as `p` says (R50). -/
theorem jumpBits_imagesOf {f : BitVec 31 → BitVec 31} (hf : Linear f) (n p : Nat) (x : BitVec 31) (hp : p < 2 ^ n) :
    jumpBits n p (imagesOf f) x = f^[p] x := by
  induction n generalizing f p x with
  | zero =>
    obtain rfl : p = 0 := by omega
    rfl
  | succ n ih =>
    have hdouble : (f ∘ f)^[p / 2] = f^[2 * (p / 2)] := (Function.iterate_mul f 2 (p / 2)).symm
    have hfirst : (if p % 2 = 1 then linApply (imagesOf f) 0 x else x) = f^[p % 2] x := by
      rw [linApply_imagesOf hf]
      obtain h | h := Nat.mod_two_eq_zero_or_one p <;> rw [h] <;> rfl
    rw [jumpBits, imagesOf_map hf, ih (hf.comp hf) (p / 2) _ (by omega), hfirst, hdouble, ← Function.iterate_add_apply, Nat.div_add_mod]

theorem genSteps_eq_iterate (n : Nat) (x : BitVec 31) : genSteps n x = genStep^[n] x := by
  induction n generalizing x with
  | zero => rfl
  | succ n ih => rw [genSteps, ih, Function.iterate_succ_apply]

theorem genJump_eq_genSteps {p : Nat} (x : BitVec 31) (hp : p < 2 ^ 31) : genJump p x = genSteps p x := by
  rw [genJump, genMap_eq_imagesOf, jumpBits_imagesOf genStep_xor 31 p x hp, genSteps_eq_iterate]

/-- Settles O55: a step is linear and loses no state, and the distances of all strings of all devices lie below 2^31. -/
theorem jumpAheadIsStepping : Obligations.JumpAheadIsStepping := by
  unfold Obligations.JumpAheadIsStepping
  refine ⟨fun x => genStep_ne_zero, fun p x => genJump_eq_genSteps x, fun base stride d i hstride hd hi => ?_⟩
  have hdist : (d * 32 + i) * stride ≤ 2097119 * 1023 := Nat.mul_le_mul (by omega) (by omega)
  exact genJump_eq_genSteps base (by omega)

end Sys2Proof.Machine

/-! The line code of a lane (R401 to R403): each of its maps reads back what the map before it carries. -/

namespace Sys2Proof.Machine

/-! Lanes: Gray map, precoder, striping (R402). -/

theorem grayOf_lt (d : Nat) : grayOf d < 4 := by
  unfold grayOf
  split <;> decide

theorem grayInv_grayOf {d : Nat} (hd : d < 4) : grayInv (grayOf d) = d := by
  match d, hd with
  | 0, _ => rfl
  | 1, _ => rfl
  | 2, _ => rfl
  | 3, _ => rfl

@[simp] theorem length_symGray (v : Nat) : (symGray v).length = 5 := by simp [symGray]

theorem lt_of_mem_symGray {v g : Nat} (hg : g ∈ symGray v) : g < 4 := by
  obtain ⟨i, -, rfl⟩ := List.mem_map.1 hg
  exact grayOf_lt _

/-- A symbol of 10 bits is its five pairs of bits. -/
theorem graySym_symGray {v : Nat} (hv : v < 1024) : graySym (symGray v) = v := by
  have hpair (i : Nat) : grayInv (grayOf (v / 4 ^ i % 4)) = v / 4 ^ i % 4 := grayInv_grayOf (Nat.mod_lt _ (by decide))
  have hgrays : symGray v = [grayOf (v / 4 ^ 0 % 4), grayOf (v / 4 ^ 1 % 4), grayOf (v / 4 ^ 2 % 4), grayOf (v / 4 ^ 3 % 4), grayOf (v / 4 ^ 4 % 4)] := rfl
  simp only [hgrays, graySym, List.foldr_cons, List.foldr_nil, hpair]
  omega

theorem graySyms_flatMap_symGray {l : List Nat} (hl : ∀ v ∈ l, v < 1024) : graySyms l.length (l.flatMap symGray) = l := by
  induction l with
  | nil => rfl
  | cons v l ih =>
    obtain ⟨hv, hl⟩ := List.forall_mem_cons.1 hl
    rw [List.flatMap_cons, List.length_cons, graySyms, List.take_left' (length_symGray v), List.drop_left' (length_symGray v),
      graySym_symGray hv, ih hl]

@[simp] theorem length_precode (p : Nat) (l : List Nat) : (precode p l).length = l.length := by
  induction l generalizing p with
  | nil => rfl
  | cons g l ih => rw [precode, List.length_cons, ih, List.length_cons]

theorem lt_of_mem_precode {p q : Nat} {l : List Nat} (hq : q ∈ precode p l) : q < 4 := by
  induction l generalizing p with
  | nil => exact nomatch hq
  | cons g l ih =>
    obtain rfl | hq := List.mem_cons.1 hq
    · exact Nat.mod_lt _ (by decide)
    · exact ih hq

/-- The receiver adds what the transmitter took off (R402). -/
theorem unprecode_precode (p : Nat) {l : List Nat} (hl : ∀ g ∈ l, g < 4) : unprecode p (precode p l) = l := by
  induction l generalizing p with
  | nil => rfl
  | cons g l ih =>
    obtain ⟨hg, hl⟩ := List.forall_mem_cons.1 hl
    rw [precode, unprecode, ih _ hl, show ((g + 4 - p % 4) % 4 + p) % 4 = g by omega]

theorem length_laneOut (p : Nat) (l : List Nat) : (laneOut p l).length = 5 * l.length := by
  simp [laneOut, List.length_flatMap, Nat.mul_comm]

theorem lt_of_mem_laneOut {p q : Nat} {l : List Nat} (hq : q ∈ laneOut p l) : q < 4 := lt_of_mem_precode hq

/-- An inverted pair turns every level about, and the receiver turns it back (R401). -/
theorem map_uninvert (inv : Bool) {l : List Nat} (hl : ∀ q ∈ l, q < 4) :
    (l.map fun q => if inv = true then 3 - q else q).map (fun q => if inv then 3 - q % 4 else q % 4) = l := by
  rw [List.map_map]
  refine (List.map_congr_left fun q hq => ?_).trans (List.map_id' l)
  have h4 := hl q hq
  cases inv with
  | false => exact Nat.mod_eq_of_lt h4
  | true =>
    have h3 : 3 - (3 - q) % 4 = q := by omega
    exact h3

theorem laneIn_laneOut (inv : Bool) (p : Nat) {l : List Nat} (hl : ∀ v ∈ l, v < 1024) :
    laneIn inv p ((laneOut p l).map fun q => if inv = true then 3 - q else q) = l := by
  have hgrays : ∀ g ∈ l.flatMap symGray, g < 4 := fun g hg => by
    obtain ⟨v, -, hv⟩ := List.mem_flatMap.1 hg
    exact lt_of_mem_symGray hv
  simp only [laneIn, map_uninvert inv fun q => lt_of_mem_laneOut, length_laneOut, Nat.mul_div_cancel_left l.length (by decide : 0 < 5)]
  rw [laneOut, unprecode_precode p hgrays, graySyms_flatMap_symGray hl]

/-- Which lane a symbol goes to does not change when its number grows by two. -/
theorem laneSymbols_add_two (k n : Nat) (l : List Nat) :
    ((l.zipIdx (n + 2)).filter fun x => x.2 % 2 == k).map (·.1) = ((l.zipIdx n).filter fun x => x.2 % 2 == k).map (·.1) := by
  induction l generalizing n with
  | nil => rfl
  | cons a l ih =>
    rw [List.zipIdx_cons, List.zipIdx_cons, List.filter_cons, List.filter_cons, Nat.add_right_comm n 2 1, Nat.add_mod_right]
    split
    · rw [List.map_cons, List.map_cons, ih]
    · exact ih (n + 1)

theorem stripe_cons_cons_lower (a b : Nat) (l : List Nat) : stripe 2 0 (a :: b :: l) = a :: stripe 2 0 l :=
  congrArg (a :: ·) (laneSymbols_add_two 0 0 l)

theorem stripe_cons_cons_upper (a b : Nat) (l : List Nat) : stripe 2 1 (a :: b :: l) = b :: stripe 2 1 l :=
  congrArg (b :: ·) (laneSymbols_add_two 1 0 l)

theorem unstripe_stripe {l : List Nat} (hl : l.length % 2 = 0) : unstripe (stripe 2 0 l) (stripe 2 1 l) = l := by
  match l, hl with
  | [], _ => rfl
  | a :: b :: l, hl =>
    have hrest : l.length % 2 = 0 := by
      rw [List.length_cons, List.length_cons] at hl
      omega
    rw [stripe_cons_cons_lower, stripe_cons_cons_upper, unstripe, unstripe_stripe hrest]

/-! RS(544,514): what a codeword needs to read back is that its parity is the packed remainder, and so that the remainder fits
its 30 symbols (R402). -/

/-- The bit that doubling carries out of the ten is the one that the modulus takes off again. -/
theorem gfX_lt {b : Nat} (hb : b < 1024) : gfX b < 1024 := by
  rw [gfX]
  split
  · next hhigh =>
    refine Nat.lt_pow_two_of_testBit (n := 10) _ fun i hi => ?_
    obtain rfl | hi := hi.eq_or_lt
    · have hcarry : (2 * b).testBit 10 = true := by
        rw [Nat.testBit_eq_decide_div_mod_eq, decide_eq_true_eq]
        omega
      exact (Nat.testBit_xor ..).trans (by rw [hcarry]; rfl)
    · have hle : 2 ^ 11 ≤ 2 ^ i := Nat.pow_le_pow_right (by decide) hi
      refine (Nat.testBit_xor ..).trans ?_
      rw [Nat.testBit_lt_two_pow (by omega), Nat.testBit_lt_two_pow (by omega), Bool.xor_false]
  · omega

theorem gfMulGo_lt (n a : Nat) {b : Nat} (hb : b < 1024) : gfMulGo n a b < 1024 := by
  induction n generalizing a b with
  | zero => exact Nat.zero_lt_succ _
  | succ n ih =>
    rw [gfMulGo]
    split
    · exact Nat.xor_lt_two_pow (n := 10) hb (ih _ (gfX_lt hb))
    · exact ih _ (gfX_lt hb)

theorem length_mulRoot (p : List Nat) (r : Nat) : (mulRoot p r).length = p.length + 1 := by simp [mulRoot]

theorem packSyms_concat (l : List Nat) (c : Nat) : packSyms (l ++ [c]) = packSyms l * 1024 + c := by simp [packSyms, List.foldl_append]

theorem unpackSyms_succ (n v : Nat) : unpackSyms (n + 1) v = unpackSyms n (v / 1024) ++ [v % 1024] := by
  have hshift (i : Nat) : v / 1024 ^ (i + 1) = v / 1024 / 1024 ^ i := by rw [Nat.div_div_eq_div_mul, Nat.pow_succ']
  simp only [unpackSyms, List.range_succ_eq_map, List.map_cons, List.map_map, List.reverse_cons, Nat.pow_zero, Nat.div_one]
  congr 2
  exact List.map_congr_left fun i _ => congrArg (· % 1024) (hshift i)

/-- The symbols of a packed number give it again, as far as they reach. -/
theorem packSyms_unpackSyms (n v : Nat) : packSyms (unpackSyms n v) = v % 1024 ^ n := by
  induction n generalizing v with
  | zero => exact (Nat.mod_one v).symm
  | succ n ih => rw [unpackSyms_succ, packSyms_concat, ih, Nat.pow_succ', Nat.mod_mul, Nat.mul_comm, Nat.add_comm]

@[simp] theorem length_unpackSyms (n v : Nat) : (unpackSyms n v).length = n := by simp [unpackSyms]

theorem lt_of_mem_unpackSyms {n v c : Nat} (hc : c ∈ unpackSyms n v) : c < 1024 := by
  obtain ⟨i, -, rfl⟩ := List.mem_map.1 (List.mem_reverse.1 hc)
  exact Nat.mod_lt _ (by decide)

theorem packSyms_lt {l : List Nat} (hl : ∀ c ∈ l, c < 1024) : packSyms l < 1024 ^ l.length := by
  induction l using List.reverseRecOn with
  | nil => exact Nat.one_pos
  | append_singleton l c ih =>
    have hrest := ih fun x hx => hl x (List.mem_append_left _ hx)
    have hlast := hl c (by simp)
    rw [packSyms_concat, List.length_append, List.length_singleton, Nat.pow_succ]
    omega

theorem mulRoot_lt {p : List Nat} (hp : ∀ c ∈ p, c < 1024) (r : Nat) : ∀ c ∈ mulRoot p r, c < 1024 := by
  intro c hc
  rw [mulRoot, ← List.map_uncurry_zip_eq_zipWith] at hc
  obtain ⟨⟨x, y⟩, hxy, rfl⟩ := List.mem_map.1 hc
  obtain ⟨hx, hy⟩ := List.of_mem_zip hxy
  have hx : x < 1024 := by
    obtain hx | hx := List.mem_append.1 hx
    · exact hp x hx
    · rw [List.mem_singleton.1 hx]; decide
  have hy : y < 1024 := by
    obtain rfl | hy := List.mem_cons.1 hy
    · decide
    · obtain ⟨z, hz, rfl⟩ := List.mem_map.1 hy
      exact gfMulGo_lt 10 r (hp z hz)
  exact Nat.xor_lt_two_pow (n := 10) hx hy

/-- The generator has 31 coefficients, each an element of the field (R402). -/
theorem rsGen_wf : rsGen.length = 31 ∧ ∀ c ∈ rsGen, c < 1024 := by
  have hroots (l : List Nat) : ∀ p : List Nat, (∀ c ∈ p, c < 1024) →
      (l.foldl (fun p j => mulRoot p (gfAlpha j)) p).length = p.length + l.length
        ∧ ∀ c ∈ l.foldl (fun p j => mulRoot p (gfAlpha j)) p, c < 1024 := by
    induction l with
    | nil => exact fun p hp => ⟨rfl, hp⟩
    | cons j l ih =>
      intro p hp
      obtain ⟨hlen, hlt⟩ := ih (mulRoot p (gfAlpha j)) (mulRoot_lt hp _)
      exact ⟨by rw [List.foldl_cons, hlen, length_mulRoot, List.length_cons]; omega, hlt⟩
  have h := hroots (List.range 30) [1] (by decide)
  rwa [List.length_range] at h

/-- Each row of the division is a packed remainder of 30 symbols. -/
theorem lt_of_mem_rsRows {v : Nat} (hv : v ∈ rsRows) : v < 1024 ^ 30 := by
  obtain ⟨k, -, rfl⟩ := List.mem_map.1 hv
  obtain ⟨hlen, hlt⟩ := rsGen_wf
  have hrow := packSyms_lt (l := (rsGen.drop 1).map fun c => gfMul (gfAlpha k) c) fun c hc => by
    obtain ⟨x, hx, rfl⟩ := List.mem_map.1 hc
    exact gfMulGo_lt 10 _ (hlt x (List.mem_of_mem_drop hx))
  rwa [List.length_map, List.length_drop, hlen] at hrow

theorem pow_1024 (n : Nat) : 1024 ^ n = 2 ^ (10 * n) := (Nat.pow_mul 2 10 n).symm

/-- Rows are added to a remainder of `n` symbols without leaving them. -/
theorem foldl_rows_lt {n : Nat} (f : Nat) {l : List (Nat × Nat)} (hl : ∀ x ∈ l, x.1 < 1024 ^ n) {v : Nat} (hv : v < 1024 ^ n) :
    l.foldl (fun v x => if bit f x.2 then Nat.xor v x.1 else v) v < 1024 ^ n := by
  induction l generalizing v with
  | nil => exact hv
  | cons x l ih =>
    obtain ⟨hx, hl⟩ := List.forall_mem_cons.1 hl
    refine ih hl ?_
    dsimp only
    split
    · rw [pow_1024] at hv hx ⊢
      exact Nat.xor_lt_two_pow hv hx
    · exact hv

/-- A step of the division keeps the remainder within 30 symbols. -/
theorem rsStep_lt {rows : List Nat} (hrows : ∀ v ∈ rows, v < 1024 ^ 30) (rem sym : Nat) : rsStep rows rem sym < 1024 ^ 30 := by
  have hlow : rem % 2 ^ 290 * 1024 < 1024 ^ 30 := by
    have hmod : rem % 2 ^ 290 < 1024 ^ 29 := pow_1024 29 ▸ Nat.mod_lt rem (Nat.two_pow_pos 290)
    omega
  rw [rsStep]
  exact foldl_rows_lt _ (fun x hx => hrows x.1 (List.fst_mem_of_mem_zipIdx hx)) hlow

theorem rsRem_lt (l : List Nat) : rsRem l < 1024 ^ 30 := by
  rw [rsRem]
  induction l using List.reverseRecOn with
  | nil => exact Nat.pow_pos (by decide)
  | append_singleton l c _ =>
    rw [List.foldl_append]
    exact rsStep_lt (fun v => lt_of_mem_rsRows) _ c

/-- A codeword that was made from its message reads back without an error (R402). -/
theorem rsDecode_rsEncode {msg : List Nat} (hmsg : msg.length = 514) : rsDecode (rsEncode msg) = some (rsEncode msg, []) := by
  have hlen : (rsEncode msg).length = 544 := by rw [rsEncode, List.length_append, length_unpackSyms, hmsg]
  have hparity : packSyms ((rsEncode msg).drop 514) = rsRem ((rsEncode msg).take 514) := by
    rw [rsEncode, List.drop_left' hmsg, List.take_left' hmsg, packSyms_unpackSyms, Nat.mod_eq_of_lt (rsRem_lt msg)]
  rw [rsDecode, if_neg (by rw [hlen]; decide), if_pos hparity]

/-! Frames in codewords: five bytes to four symbols (R403). -/

@[simp] theorem length_symsOf (n v : Nat) : (symsOf n v).length = n := by
  induction n generalizing v with
  | zero => rfl
  | succ n ih => rw [symsOf, List.length_cons, ih]

theorem lt_of_mem_symsOf {n v c : Nat} (hc : c ∈ symsOf n v) : c < 1024 := by
  induction n generalizing v with
  | zero => exact nomatch hc
  | succ n ih =>
    obtain rfl | hc := List.mem_cons.1 hc
    · exact Nat.mod_lt _ (by decide)
    · exact ih hc

theorem foldr_symsOf (n v : Nat) : (symsOf n v).foldr (fun c v => c + 1024 * v) 0 = v % 1024 ^ n := by
  induction n generalizing v with
  | zero => exact (Nat.mod_one v).symm
  | succ n ih => rw [symsOf, List.foldr_cons, ih, Nat.pow_succ', Nat.mod_mul]

theorem length_bytesToSyms (n : Nat) (b : Bytes) : (bytesToSyms n b).length = 4 * n := by
  induction n generalizing b with
  | zero => rfl
  | succ n ih => rw [bytesToSyms, List.length_append, length_symsOf, ih]; omega

theorem lt_of_mem_bytesToSyms {n c : Nat} {b : Bytes} (hc : c ∈ bytesToSyms n b) : c < 1024 := by
  induction n generalizing b with
  | zero => exact nomatch hc
  | succ n ih =>
    obtain hc | hc := List.mem_append.1 hc
    · exact lt_of_mem_symsOf hc
    · exact ih hc

/-- The number that bytes spell gives the bytes again. -/
theorem le_leVal (b : Bytes) : le b.length (leVal b) = b := by
  induction b with
  | nil => rfl
  | cons x b ih =>
    have hlow : BitVec.ofNat 8 (x.toNat + 256 * leVal b) = x := by
      apply BitVec.eq_of_toNat_eq
      rw [BitVec.toNat_ofNat]
      omega
    have hhigh : (x.toNat + 256 * leVal b) / 256 = leVal b := by omega
    rw [List.length_cons, leVal, le, hlow, hhigh, ih]

theorem leVal_lt (b : Bytes) : leVal b < 256 ^ b.length := by
  induction b with
  | nil => exact Nat.one_pos
  | cons x b ih =>
    have hx := x.isLt
    rw [leVal, List.length_cons, Nat.pow_succ']
    omega

theorem slice_zero_of_le {b : Bytes} {n : Nat} (h : n ≤ b.length) : slice b 0 n = b.take n := by
  simp [slice, Nat.min_eq_left h]

/-- Five bytes to four symbols and back, `n` times. -/
theorem symsToBytes_bytesToSyms {n : Nat} {b : Bytes} (hb : b.length = 5 * n) : symsToBytes n (bytesToSyms n b) = b := by
  induction n generalizing b with
  | zero => exact (List.length_eq_zero_iff.1 hb).symm
  | succ n ih =>
    have htake : (b.take 5).length = 5 := by rw [List.length_take]; omega
    have hlt : leVal (b.take 5) < 1024 ^ 4 := by simpa [htake] using leVal_lt (b.take 5)
    have hfive : le 5 (leVal (b.take 5)) = b.take 5 := by simpa only [htake] using le_leVal (b.take 5)
    rw [bytesToSyms, symsToBytes, List.take_left' (length_symsOf 4 _), List.drop_left' (length_symsOf 4 _), foldr_symsOf, num,
      slice_zero_of_le (by omega), Nat.mod_eq_of_lt hlt, hfive, ih (by rw [List.length_drop]; omega), List.take_append_drop]

theorem fit_of_length {b : Bytes} {n : Nat} (h : b.length = n) : fit n b = b := by
  rw [fit, slice_zero_of_le h.ge, ← h, List.take_length]

/-- The message of a frame: the tag's two symbols, then those of its bytes (R403). -/
theorem frameWord_eq {f : Bytes} (hf : f.length = 640) : frameWord f = rsEncode (symsOf 2 frameTag ++ bytesToSyms 128 f) := by
  rw [frameWord, fit_of_length hf]

theorem length_frameMessage (f : Bytes) : (symsOf 2 frameTag ++ bytesToSyms 128 f).length = 514 := by
  rw [List.length_append, length_symsOf, length_bytesToSyms]

theorem lt_of_mem_frameWord {f : Bytes} (hf : f.length = 640) {v : Nat} (hv : v ∈ frameWord f) : v < 1024 := by
  rw [frameWord_eq hf, rsEncode] at hv
  obtain hv | hv := List.mem_append.1 hv
  · obtain hv | hv := List.mem_append.1 hv
    · exact lt_of_mem_symsOf hv
    · exact lt_of_mem_bytesToSyms hv
  · exact lt_of_mem_unpackSyms hv

theorem wordFrame_frameWord {f : Bytes} (hf : f.length = 640) : wordFrame (frameWord f) = some f := by
  have htag : (frameWord f).take 2 = symsOf 2 frameTag := by
    rw [frameWord_eq hf, rsEncode, List.append_assoc, List.take_left' (length_symsOf 2 _)]
  have hbody : ((frameWord f).drop 2).take 512 = bytesToSyms 128 f := by
    rw [frameWord_eq hf, rsEncode, List.append_assoc, List.drop_left' (length_symsOf 2 _), List.take_left' (length_bytesToSyms 128 f)]
  rw [wordFrame, htag, hbody, if_pos (beq_self_eq_true _), symsToBytes_bytesToSyms hf]

/-- Settles O58: lanes by Gray map and precoder, halves by striping, frames by the codeword's tag and bytes. -/
theorem laneCodeReadsBack : Obligations.LaneCodeReadsBack := by
  unfold Obligations.LaneCodeReadsBack
  refine ⟨fun inv p l _ hl => laneIn_laneOut inv p hl, fun l => unstripe_stripe, fun l => ⟨length_laneOut 0 l, fun q => lt_of_mem_laneOut⟩,
    fun f hf => ⟨?_, fun v => lt_of_mem_frameWord hf, ?_, wordFrame_frameWord hf⟩⟩
  · rw [frameWord_eq hf, rsEncode, List.length_append, length_frameMessage, length_unpackSyms]
  · rw [frameWord_eq hf, rsDecode_rsEncode (length_frameMessage f)]

end Sys2Proof.Machine

/-! The checks that every command meets before its own (R362, R378, R388). -/

namespace Sys2Proof.Machine

/-- One check of a chain: it passes when its condition fails and the rest of the chain passes. -/
theorem ite_eq_zero_iff {c : Prop} [Decidable c] {n x : Nat} (hn : n ≠ 0) : (if c then n else x) = 0 ↔ ¬ c ∧ x = 0 := by
  split
  · next hc => exact ⟨fun h => absurd h hn, fun h => absurd hc h.1⟩
  · next hc => exact ⟨fun h => ⟨hc, h⟩, And.right⟩

theorem ite_eq_zero_zero_iff {c : Prop} [Decidable c] {n : Nat} (hn : n ≠ 0) : (if c then n else 0) = 0 ↔ ¬ c :=
  (ite_eq_zero_iff hn).trans (and_iff_left rfl)

theorem State.precheck_of_unknown {s : State} {e : InFlight} (h : opInfo e.op = none) : s.precheck e ≠ 0 := by
  simp only [State.precheck, h]
  split <;> decide

/-- What the checks 1 to 7 of R362 ask of a command whose opcode exists. -/
theorem State.precheck_eq_zero_iff_of_opInfo {s : State} {e : InFlight} {o : OpInfo} (h : opInfo e.op = some o) :
    s.precheck e = 0 ↔ num e.desc 4 4 < 8 ∧ num e.desc 0x20 32 &&& o.mask = num e.desc 0x20 32
      ∧ (e.mbx = true → num e.desc 4 4 % 4 = 0) ∧ lengthOk o e = true ∧ num e.desc 0x10 8 % 64 = 0 ∧ num e.desc 0x18 8 % 64 = 0
      ∧ (o.priv = true → s.priv.opened = true) ∧ (s.cmds.romOnly = true → o.code ∈ romOps) ∧ s.code ∈ o.states := by
  simp only [State.precheck, h]
  rw [ite_eq_zero_iff (by decide), ite_eq_zero_iff (by decide), ite_eq_zero_iff (by decide), ite_eq_zero_iff (by decide),
    ite_eq_zero_iff (by decide), ite_eq_zero_iff (by decide), ite_eq_zero_zero_iff (stateStatus_ne_zero o.code)]
  simp [and_assoc]

theorem State.precheck_eq_zero_iff {s : State} {e : InFlight} : s.precheck e = 0 ↔ ∃ o, opInfo e.op = some o ∧ num e.desc 4 4 < 8
    ∧ num e.desc 0x20 32 &&& o.mask = num e.desc 0x20 32 ∧ (e.mbx = true → num e.desc 4 4 % 4 = 0) ∧ lengthOk o e = true
    ∧ num e.desc 0x10 8 % 64 = 0 ∧ num e.desc 0x18 8 % 64 = 0 ∧ (o.priv = true → s.priv.opened = true)
    ∧ (s.cmds.romOnly = true → o.code ∈ romOps) ∧ s.code ∈ o.states := by
  cases h : opInfo e.op with
  | none => exact ⟨fun hpass => absurd hpass (State.precheck_of_unknown h), fun ⟨_, ho, _⟩ => nomatch ho⟩
  | some o =>
    rw [State.precheck_eq_zero_iff_of_opInfo h]
    exact ⟨fun hpass => ⟨o, rfl, hpass⟩, fun ⟨_, ho, hpass⟩ => Option.some.inj ho ▸ hpass⟩

/-- The passing of time changes nothing that the checks read. -/
@[simp] theorem State.advance_precheck (s : State) (dt : Nat) (e : InFlight) : (s.advance dt).precheck e = s.precheck e := by
  obtain ⟨units, clk, re, c, l, h⟩ := s.advance_only dt
  rw [h]
  rfl

/-- Settles O48. -/
theorem commandChecks : Obligations.CommandChecks := by
  unfold Obligations.CommandChecks
  refine ⟨fun s e => State.precheck_eq_zero_iff, fun s dt op sub e payload body hfind hstart hfail => ?_⟩
  rw [← s.advance_precheck dt e] at hfail ⊢
  rw [← s.advance_cmds dt] at hfind hstart
  exact State.gcs_of_precheck_ne_zero hfind hstart hfail

/-! Privileged opcodes and the privileged page (R354, R388). -/

theorem priv_iff_of_opInfo {code : Nat} {o : OpInfo} (h : opInfo code = some o) :
    o.priv = true ↔ code ∈ [0x0A04, 0x0A22, 0x0A24, 0x0B01, 0x0B02] := by
  have htable : ∀ o ∈ opsA ++ opsB, (o.priv = true ↔ o.code ∈ [0x0A04, 0x0A22, 0x0A24, 0x0B01, 0x0B02]) := by decide
  have hcode : o.code = code := by simpa using List.find?_some h
  exact hcode ▸ htable o (List.mem_of_find?_eq_some h)

/-- The session is asked about for a privileged opcode alone (R388). -/
theorem State.precheck_session {s : State} {e : InFlight} (b : Bool) (h : e.op ∉ [0x0A04, 0x0A22, 0x0A24, 0x0B01, 0x0B02]) :
    ({ s with priv := { s.priv with opened := b } } : State).precheck e = s.precheck e := by
  cases ho : opInfo e.op with
  | none => simp only [State.precheck, ho]
  | some o =>
    have hpriv : o.priv = false := Bool.eq_false_iff.2 fun hp => h ((priv_iff_of_opInfo ho).1 hp)
    simp only [State.precheck, ho, hpriv, Bool.false_and]
    rfl

/-- On the privileged page without a session an access is counted as denied, and nothing else (R354). -/
theorem State.privAccess_of_closed {s : State} (f : State → State) (h : s.priv.opened = false) : s.privAccess f = s.deny := by
  rw [State.privAccess, h, if_neg Bool.false_ne_true]

section PrivilegedPage
variable {s : State} {ofs : Nat}

theorem State.write32_privPage (v : Nat) (hclosed : s.priv.opened = false) (hlo : 0x100004 ≤ ofs) (hhi : ofs < 0x200000) :
    s.write32 0 ofs v = s.deny := by
  have hpage : (decide (0x100000 ≤ ofs) && decide (ofs < 0x200000)) = true := by
    rw [decide_eq_true (by omega : 0x100000 ≤ ofs), decide_eq_true hhi, Bool.true_and]
  change s.writeBar0 ofs v = s.deny
  unfold State.writeBar0
  rw [if_neg (by omega), if_pos hpage, State.privAccess_of_closed _ hclosed]

theorem State.readReg_privPage (hclosed : s.priv.opened = false) (hlo : 0x100004 ≤ ofs) (hhi : ofs < 0x200000) : s.readReg 0 ofs = 0 := by
  have hpage : (decide (0x100000 ≤ ofs) && decide (ofs < 0x200000)) = true := by
    rw [decide_eq_true (by omega : 0x100000 ≤ ofs), decide_eq_true hhi, Bool.true_and]
  simp only [State.readReg]
  rw [if_neg (by omega), if_pos hpage, hclosed, if_neg Bool.false_ne_true]

theorem State.readEffect_privPage (hclosed : s.priv.opened = false) (hlo : 0x100004 ≤ ofs) (hhi : ofs < 0x200000) :
    s.readEffect 0 ofs = s.deny := by
  rw [State.readEffect, if_neg (by simp; omega), if_neg (by simp; omega), if_neg (by simp; omega), if_pos (by simp; omega),
    State.privAccess_of_closed _ hclosed]

theorem State.readValue_privPage (hclosed : s.priv.opened = false) (hlo : 0x100004 ≤ ofs) (hhi : ofs < 0x200000) : s.readValue 0 ofs = 0 := by
  rw [State.readValue, if_neg (by simp; omega), if_neg (by simp; omega), State.readReg_privPage hclosed hlo hhi]

end PrivilegedPage

/-- Settles O50. -/
theorem privilegedNeedsSession : Obligations.PrivilegedNeedsSession := by
  unfold Obligations.PrivilegedNeedsSession
  refine ⟨fun code o => priv_iff_of_opInfo, fun s e hop hclosed hpass => ?_, fun s e b => State.precheck_session b,
    fun s ofs v hclosed hlo hhi => ⟨State.write32_privPage v hclosed hlo hhi, State.readReg_privPage hclosed hlo hhi,
      State.readEffect_privPage hclosed hlo hhi, State.readValue_privPage hclosed hlo hhi⟩⟩
  obtain ⟨o, ho, -, -, -, -, -, -, hsession, -⟩ := State.precheck_eq_zero_iff.1 hpass
  exact absurd (hsession ((priv_iff_of_opInfo ho).2 hop)) (Bool.eq_false_iff.1 hclosed)

/-! Posted writes (R331). -/

theorem splitWrites_nil (mps fuel a : Nat) : splitWrites mps fuel a [] = [] := by
  cases fuel <;> rfl

theorem splitWrites_succ (mps fuel a : Nat) {b : Bytes} (hb : b ≠ []) : splitWrites mps (fuel + 1) a b
    = (a, b.take (min mps (4096 - a % 4096))) :: splitWrites mps fuel (a + min mps (4096 - a % 4096)) (b.drop (min mps (4096 - a % 4096))) := by
  rw [splitWrites, if_neg (by simpa using hb)]

section PostedWrites
variable {mps : Nat} (hmps : 0 < mps)
include hmps

theorem splitWrites_flatMap {fuel : Nat} (a : Nat) {b : Bytes} (hfuel : b.length ≤ fuel) :
    ((splitWrites mps fuel a b).flatMap fun x => x.2) = b := by
  induction fuel generalizing a b with
  | zero => exact (List.length_eq_zero_iff.1 (Nat.le_zero.1 hfuel)).symm
  | succ fuel ih =>
    by_cases hb : b = []
    · rw [hb, splitWrites_nil]; rfl
    · have hpos := List.length_pos_iff.2 hb
      rw [splitWrites_succ mps fuel a hb, List.flatMap_cons, ih _ (by rw [List.length_drop]; omega), List.take_append_drop]

theorem splitWrites_fits (fuel a : Nat) (b : Bytes) :
    ∀ x ∈ splitWrites mps fuel a b, x.2 ≠ [] ∧ x.2.length ≤ mps ∧ x.1 % 4096 + x.2.length ≤ 4096 := by
  induction fuel generalizing a b with
  | zero => exact fun x hx => nomatch hx
  | succ fuel ih =>
    by_cases hb : b = []
    · rw [hb, splitWrites_nil]
      exact fun x hx => nomatch hx
    · rw [splitWrites_succ mps fuel a hb, List.forall_mem_cons]
      have hlen := List.length_take_le (min mps (4096 - a % 4096)) b
      refine ⟨⟨fun htake => ?_, by dsimp only; omega, by dsimp only; omega⟩, ih _ _⟩
      obtain hzero | hnil := List.take_eq_nil_iff.1 htake
      · omega
      · exact hb hnil

/-- Each write goes to where the ones before it end. -/
theorem splitWrites_address {fuel : Nat} (a : Nat) (b : Bytes) {i : Nat} {x : Nat × Bytes} (hi : (splitWrites mps fuel a b)[i]? = some x)
    (hfuel : b.length ≤ fuel) : x.1 = a + (((splitWrites mps fuel a b).take i).flatMap fun y => y.2).length := by
  induction fuel generalizing a b i with
  | zero => exact nomatch hi
  | succ fuel ih =>
    by_cases hb : b = []
    · rw [hb, splitWrites_nil] at hi
      exact nomatch hi
    · rw [splitWrites_succ mps fuel a hb] at hi ⊢
      have hpos := List.length_pos_iff.2 hb
      cases i with
      | zero =>
        rw [List.getElem?_cons_zero, Option.some.injEq] at hi
        rw [← hi]
        rfl
      | succ i =>
        rw [List.getElem?_cons_succ] at hi
        rw [ih _ _ hi (by rw [List.length_drop]; omega), List.take_succ_cons, List.flatMap_cons, List.length_append, List.length_take]
        by_cases hlast : b.length ≤ min mps (4096 - a % 4096)
        · rw [List.drop_eq_nil_of_le hlast, splitWrites_nil] at hi
          exact nomatch hi
        · rw [Nat.min_eq_left (Nat.le_of_not_le hlast), Nat.add_assoc]

end PostedWrites

/-- A function that can issue requests, with nothing held back, sends a request at once (R331). -/
theorem State.issue_of_canWrite {s : State} {fn : Nat} (e : Emit) (hcan : s.canWrite fn = true) (hdefer : s.deferred fn = []) :
    s.issue fn e = { s with out := e :: s.out } := by
  rw [State.issue, hcan, hdefer]
  rfl

theorem State.out_foldl_issue {s : State} {fn : Nat} (l : List (Nat × Bytes)) (hcan : s.canWrite fn = true) (hdefer : s.deferred fn = []) :
    (l.foldl (fun t (x : Nat × Bytes) => t.issue fn ⟨.write, fn, x.1, x.2⟩) s).out
      = (l.map fun x => (⟨.write, fn, x.1, x.2⟩ : Emit)).reverse ++ s.out := by
  induction l generalizing s with
  | nil => rfl
  | cons x l ih =>
    rw [List.foldl_cons, State.issue_of_canWrite _ hcan hdefer, ih (s := { s with out := ⟨.write, fn, x.1, x.2⟩ :: s.out }) hcan hdefer,
      List.map_cons, List.reverse_cons, List.append_assoc]
    rfl

/-- Settles O52. -/
theorem postedWritesStayInPage : Obligations.PostedWritesStayInPage := by
  unfold Obligations.PostedWritesStayInPage
  refine ⟨fun mps a b hmps => ⟨splitWrites_flatMap hmps a le_rfl, splitWrites_fits hmps b.length a b,
    fun i x hi => splitWrites_address hmps a b hi le_rfl⟩, fun s fn a b hcan hdefer => ?_⟩
  rw [State.hostWrite, State.count_out, State.out_foldl_issue _ hcan hdefer]

/-! SCRATCH (R438, R445; log 12). -/

/-- A byte below every listed one reads as unlisted. -/
theorem Memory.read_of_wfFrom {lo : Nat} {m : List Host.Cell} (h : Memory.wfFrom (some lo) m = true) {x : Nat} (hx : x ≤ lo) :
    Memory.read m x = Memory.unlisted := by
  induction m generalizing lo with
  | nil => rfl
  | cons c m ih =>
    obtain ⟨i, b⟩ := c
    simp only [Memory.wfFrom, Option.all_some, Bool.and_eq_true, decide_eq_true_eq] at h
    obtain ⟨⟨hlt, -⟩, hrest⟩ := h
    rw [Memory.read, if_neg (by omega), ih hrest (by omega)]

/-- A write of one byte changes the byte at its address alone. -/
theorem Memory.read_write {lo : Option Nat} {m : List Host.Cell} (h : Memory.wfFrom lo m = true) (a : Nat) (b : Byte) (x : Nat) :
    Memory.read (Memory.write a b m) x = if a = x then b else Memory.read m x := by
  induction m generalizing lo with
  | nil =>
    rw [Memory.write]
    split
    case isTrue hb => rw [hb]; split <;> rfl
    case isFalse => rfl
  | cons c m ih =>
    obtain ⟨i, d⟩ := c
    simp only [Memory.wfFrom, Bool.and_eq_true] at h
    obtain ⟨-, hrest⟩ := h
    have hbelow {y : Nat} (hy : y ≤ i) : Memory.read m y = Memory.unlisted := Memory.read_of_wfFrom hrest hy
    obtain rfl | hx := eq_or_ne a x
    · rw [if_pos rfl, Memory.write]
      split_ifs with hia hb hlt hb
      · rw [hb, hbelow hia.ge]
      · rw [Memory.read, if_pos rfl]
      · rw [hb, Memory.read, if_neg hia, hbelow hlt.le]
      · rw [Memory.read, if_pos rfl]
      · rw [Memory.read, if_neg hia, ih hrest, if_pos rfl]
    · have hkeep : Memory.read (Memory.write a b m) x = Memory.read m x := (ih hrest).trans (if_neg hx)
      rw [if_neg hx, Memory.write]
      split_ifs with hia hb hlt hb
      · rw [Memory.read, if_neg (hia ▸ hx)]
      · rw [Memory.read, Memory.read, if_neg hx, if_neg (hia ▸ hx)]
      · rfl
      · rw [Memory.read, if_neg hx]
      · rw [Memory.read, Memory.read, hkeep]

/-- A write of several bytes leaves every other byte alone. -/
theorem Memory.read_writeN_of_outside {m : List Host.Cell} (h : Memory.wf m = true) (a : Nat) (l : Bytes) {x : Nat}
    (hx : x < a ∨ a + l.length ≤ x) : Memory.read (Memory.writeN m a l) x = Memory.read m x := by
  induction l generalizing m a with
  | nil => rfl
  | cons b l ih =>
    rw [List.length_cons] at hx
    rw [Memory.writeN, ih (Memory.wf_write m a b h) (a + 1) (by omega), Memory.read_write h, if_neg (by omega)]

theorem Memory.readN_writeN {m : List Host.Cell} (h : Memory.wf m = true) (a : Nat) (l : Bytes) :
    Memory.readN (Memory.writeN m a l) a l.length = l := by
  induction l generalizing m a with
  | nil => rfl
  | cons b l ih =>
    have hwf := Memory.wf_write m a b h
    rw [List.length_cons, Memory.readN, Memory.writeN, ih hwf, Memory.read_writeN_of_outside hwf (a + 1) l (.inl a.lt_succ_self),
      Memory.read_write h, if_pos rfl]

/-- Settles O53. -/
theorem scratchReadsBack : Obligations.ScratchReadsBack := by
  unfold Obligations.ScratchReadsBack
  exact fun m a l h => ⟨Memory.wf_writeN m a l h, Memory.readN_writeN h a l, fun x => Memory.read_writeN_of_outside h a l⟩

/-! The gain of a housekeeping channel (R474). -/

section Gain
variable {c : HkChan} {code : Int} {sat settled : Bool}

theorem gainAfter_fixed : gainAfter false c code sat settled = c := by
  rw [gainAfter, Bool.not_false, if_pos rfl]

/-- On overload or 90 % of full scale the gain goes one step down, from code 0 none. -/
theorem gain_gainAfter_of_big (h : sat = true ∨ 9 * 8388608 ≤ code.natAbs * 10) : (gainAfter true c code sat settled).gain = c.gain - 1 := by
  have hbig : (sat || decide (code.natAbs * 10 ≥ 9 * 8388608)) = true := by simpa using h
  rw [gainAfter, hbig, Bool.not_true, if_neg Bool.false_ne_true, if_pos rfl]
  split
  · next hzero => rw [hzero]
  · rfl

/-- Below 90 % the gain goes one step up on the second settled result below 40 %, and else stays. -/
theorem gain_gainAfter_of_not_big (hsat : sat = false) (hbig : code.natAbs * 10 < 9 * 8388608) :
    (gainAfter true c code sat settled).gain
      = if code.natAbs * 10 < 4 * 8388608 ∧ settled = true ∧ c.lowRun = 1 ∧ c.gain < 7 then c.gain + 1 else c.gain := by
  have hnot : (sat || decide (code.natAbs * 10 ≥ 9 * 8388608)) = false := by simpa [hsat] using hbig
  rw [gainAfter, hnot, Bool.not_true, if_neg Bool.false_ne_true, if_neg Bool.false_ne_true]
  by_cases hlow : code.natAbs * 10 < 4 * 8388608
  case neg => cases settled <;> simp [hlow]
  case pos =>
    cases settled with
    | false => simp
    | true =>
      by_cases hstep : c.lowRun = 1 ∧ c.gain < 7
      · simp [hlow, hstep]
      · simp [hlow, hstep]

end Gain

/-- Settles O59. -/
theorem gainMovesOneStep : Obligations.GainMovesOneStep := by
  unfold Obligations.GainMovesOneStep
  intro c code sat settled hgain
  refine ⟨gainAfter_fixed, ?_, gain_gainAfter_of_big, fun hsat hlow hsettled hrun hup => ?_, fun hsat hbig hstay => ?_⟩
  · by_cases h : sat = true ∨ 9 * 8388608 ≤ code.natAbs * 10
    · rw [gain_gainAfter_of_big h]
      omega
    · obtain ⟨hsat, hbig⟩ := not_or.1 h
      rw [gain_gainAfter_of_not_big (Bool.eq_false_iff.2 hsat) (Nat.not_le.1 hbig)]
      split <;> omega
  · rw [gain_gainAfter_of_not_big hsat (by omega), if_pos ⟨hlow, hsettled, hrun, hup⟩]
  · rw [gain_gainAfter_of_not_big hsat hbig, if_neg fun ⟨hlow, hsettled, hrun, _⟩ => hstay ⟨hlow, hsettled, hrun⟩]

end Sys2Proof.Machine

/-! Blocks while the device is down (R547). -/

namespace Sys2Proof.Machine

/-- Settles O60: every event of a block runs only where `State.holdUp` holds; those of the Gleaner and the messages of a port do so behind `runGw` and
`onMsg`. -/
theorem nothingRunsWhileDown : Obligations.NothingRunsWhileDown := by
  unfold Obligations.NothingRunsWhileDown
  intro s dt hdown
  have idle (f : State → State) : runUp dt s f = .next (endStep dt s (s.advance dt)) := runUp_down dt s f hdown
  simp only [exec, runGw, onMsg, execHello, execPlan, execTopo, execJoin, execAdmitMsg, execSync, execDreq, execDresp, execLane, execBreakMsg,
    execCaptureWindowClose, execCaptureReadoutDone, execGainSaturationSwitch, execGainRangeStep, execSliceRotation, execSliceSwap, execSliceMeanCheck,
    execCalgap, execGleanerStartComplete, execRecoveryComplete, execPhotonEvent]
  and_intros
  all_goals
    intros
    exact idle _

end Sys2Proof.Machine

/-! What a command of the Grazil set does once it has started, and what reads the same as before it. -/

namespace Sys2Proof.Machine

/-- A command that starts and answers at once. -/
theorem runGcs_answers {s t : State} {op sub dt : Nat} {e : InFlight} {b : Bytes} {payload : Option Bytes} {body : Body} {c : Completion}
    (h : Starts s op sub payload e b) (hbody : body e b (begun s dt op sub) = (t, some c)) :
    runGcs dt op sub payload s body = .next (endStep dt s (t.finish sub c)) := by
  rw [runGcs, run, State.gcs_starts h, hbody]

/-- A command that starts and answers later. -/
theorem runGcs_waits {s t : State} {op sub dt : Nat} {e : InFlight} {b : Bytes} {payload : Option Bytes} {body : Body}
    (h : Starts s op sub payload e b) (hbody : body e b (begun s dt op sub) = (t, none)) :
    runGcs dt op sub payload s body = .next (endStep dt s t) := by
  rw [runGcs, run, State.gcs_starts h, hbody]

section Advance
variable (s : State) (dt : Nat)

@[simp] theorem State.advance_code : (s.advance dt).code = s.code := by rw [State.code, State.advance_dev, State.code]
@[simp] theorem State.advance_isIn (l : List Nat) : (s.advance dt).isIn l = s.isIn l := by rw [State.isIn, State.advance_code, State.isIn]
@[simp] theorem State.advance_ranges : (s.advance dt).ranges = s.ranges := s.advance_isIn dt _
@[simp] theorem State.advance_armedUp : (s.advance dt).armedUp = s.armedUp := s.advance_isIn dt _
@[simp] theorem State.advance_holdUp : (s.advance dt).holdUp = s.holdUp := s.advance_isIn dt _
@[simp] theorem State.advance_pf (n i lo w : Nat) : (s.advance dt).pf n i lo w = s.pf n i lo w := by
  rw [State.pf, State.part, State.advance_cfg]; rfl

end Advance

section Begun
variable (s : State) (dt op sub : Nat)

@[simp] theorem begun_code : (begun s dt op sub).code = s.code := by rw [State.code, begun_dev, ← State.code, State.advance_code]
@[simp] theorem begun_isIn (l : List Nat) : (begun s dt op sub).isIn l = s.isIn l := by rw [State.isIn, begun_code, State.isIn]
@[simp] theorem begun_ranges : (begun s dt op sub).ranges = s.ranges := begun_isIn s dt op sub _
@[simp] theorem begun_armedUp : (begun s dt op sub).armedUp = s.armedUp := begun_isIn s dt op sub _
@[simp] theorem begun_pf (n i lo w : Nat) : (begun s dt op sub).pf n i lo w = s.pf n i lo w := by
  rw [State.pf, State.part, begun_cfg, State.advance_cfg]; rfl
@[simp] theorem begun_isAQ : (begun s dt op sub).isAQ = s.isAQ := by
  rw [State.isAQ, begun_ident, State.advance_ident]; rfl
end Begun

end Sys2Proof.Machine

/-! Stage commands (R380, R399). -/

namespace Sys2Proof.Machine

section Stage
variable {s : State} {dt op sub n : Nat} {payload : Option Bytes} {e : InFlight} {b : Bytes}

theorem begun_stagePart : (begun s dt op sub).stagePart n b = restaged s dt op sub n b := by
  rw [State.stagePart, begun_cfg, State.advance_cfg]; rfl

theorem runGcs_bodyStage (h : Starts s op sub payload e b) :
    runGcs dt op sub payload s (bodyStage n) = .next (endStep dt s ((restaged s dt op sub n b).finish sub (reply 0))) :=
  runGcs_answers h (by rw [bodyStage, begun_stagePart])

theorem runGcs_bodyStageLen_of_fits {want : Bytes → Nat} (h : Starts s op sub payload e b) (hlen : b.length = want b) :
    runGcs dt op sub payload s (bodyStageLen n want) = .next (endStep dt s ((restaged s dt op sub n b).finish sub (reply 0))) :=
  runGcs_answers h (by rw [bodyStageLen, if_pos hlen, begun_stagePart])

theorem runGcs_bodyStageLen_of_not_fits {want : Bytes → Nat} (h : Starts s op sub payload e b) (hlen : b.length ≠ want b) :
    runGcs dt op sub payload s (bodyStageLen n want) = .next (endStep dt s ((begun s dt op sub).finish sub (reply 0x0103))) :=
  runGcs_answers h (by rw [bodyStageLen, if_neg hlen])

end Stage

/-- Settles O9. -/
theorem stageCommandsRun : Obligations.StageCommandsRun := by
  unfold Obligations.StageCommandsRun
  intro s dt sub payload e b
  refine ⟨fun h hlen => runGcs_bodyStageLen_of_fits (n := 1) h hlen, fun h hlen => runGcs_bodyStageLen_of_not_fits (n := 1) h hlen,
    fun h hlen => runGcs_bodyStageLen_of_fits (n := 2) h hlen, fun h hlen => runGcs_bodyStageLen_of_not_fits (n := 2) h hlen, runGcs_bodyStage, runGcs_bodyStage,
    runGcs_bodyStage, runGcs_bodyStage, runGcs_bodyStage, runGcs_bodyStage,
    fun h hok => runGcs_answers h ?_, fun h haq hrec => runGcs_answers h ?_, runGcs_bodyStage⟩
  · have hpass : (s.isAQ && num b 0x14 4 != 0) = false := by obtain haq | hrec := hok <;> simp [*]
    simp only [bodySiloStage, begun_isAQ, hpass, Bool.false_eq_true, if_false, begun_stagePart]
  · simp [bodySiloStage, haq, hrec]

end Sys2Proof.Machine

/-! Commands on the device and on device time (R375 to R377, R399, R417, R526). -/

namespace Sys2Proof.Machine

section Device
variable {s : State} {dt sub : Nat} {e : InFlight} {b : Bytes}

theorem deviceInfo_answers (h : Starts s 0x0101 sub none e b) :
    exec (.deviceInfo dt sub) s = .next (endStep dt s ((begun s dt 0x0101 sub).finish sub (reply 0
      (le 4 (fwVersion (s.pair s.fw.active).image) ++ le 4 (fwVersion (s.pair s.standby).image) ++ le 4 s.repair.mcRun ++ le 4 s.policyWord)))) :=
  runGcs_answers (body := bodyDeviceInfo) h (by simp [bodyDeviceInfo, answer, State.pair, State.standby, State.policyWord])

section StateSet
variable (h : Starts s 0x0102 sub none e b)
include h

theorem stateSet_noChange (htarget : e.p 0 0 4 = s.code) (hin : s.isIn [3, 4, 5] = true) :
    exec (.stateSet dt sub) s = .next (endStep dt s ((begun s dt 0x0102 sub).finish sub (reply 0x0001))) := by
  refine runGcs_answers (body := bodyStateSet) h ?_
  have hlist : s.code = 3 ∨ s.code = 4 ∨ s.code = 5 := by simpa [State.isIn] using hin
  simp [bodyStateSet, htarget, hlist]

theorem stateSet_ranging (htarget : e.p 0 0 4 = 5) (harmed : s.code = 4) :
    exec (.stateSet dt sub) s = .next (endStep dt s ((begun s dt 0x0102 sub).mapCmd sub fun x =>
      { x with wait := .ranging, since := s.now + dt, arg := 5 })) :=
  runGcs_waits (body := bodyStateSet) h (by simp [bodyStateSet, htarget, harmed, starts_sub h])

theorem stateSet_armed (htarget : e.p 0 0 4 = 4) (hranges : s.ranges = true) :
    exec (.stateSet dt sub) s = .next (endStep dt s ((begun s dt 0x0102 sub).mapCmd sub fun x =>
      { x with wait := .toState, since := s.now + dt, arg := 4 })) := by
  have hcode : s.code ≠ 4 := fun h4 => by simp [State.ranges, State.isIn, h4] at hranges
  exact runGcs_waits (body := bodyStateSet) h (by simp [bodyStateSet, htarget, hranges, hcode.symm, starts_sub h])

theorem stateSet_hold (htarget : e.p 0 0 4 = 3) (harmed : s.armedUp = true) :
    exec (.stateSet dt sub) s = .next (endStep dt s ((begun s dt 0x0102 sub).mapCmd sub fun x =>
      { x with wait := .toState, since := s.now + dt, arg := 3 })) := by
  have hcode : s.code ≠ 3 := fun h3 => by simp [State.armedUp, State.isIn, h3] at harmed
  exact runGcs_waits (body := bodyStateSet) h (by simp [bodyStateSet, htarget, harmed, hcode.symm, starts_sub h])

theorem stateSet_refused (hbad : (e.p 0 0 4 ≠ 3 ∧ e.p 0 0 4 ≠ 4 ∧ e.p 0 0 4 ≠ 5) ∨ (e.p 0 0 4 = 4 ∧ s.code = 3)
      ∨ (e.p 0 0 4 = 5 ∧ s.code ≠ 4 ∧ s.code ≠ 5)) :
    exec (.stateSet dt sub) s = .next (endStep dt s ((begun s dt 0x0102 sub).finish sub (reply 0x0200))) := by
  refine runGcs_answers (body := bodyStateSet) h ?_
  obtain ⟨h3, h4, h5⟩ | ⟨htarget, hcode⟩ | ⟨htarget, h4, h5⟩ := hbad
  · simp [bodyStateSet, h3, h4, h5]
  · have hranges : s.ranges = false := by simp [State.ranges, State.isIn, hcode]
    simp [bodyStateSet, htarget, hcode, hranges]
  · simp [bodyStateSet, htarget, h4, Ne.symm h5]

end StateSet

theorem recover_leaves_safe {t : State} (h : Starts s 0x0103 sub none e b)
    (ht : t = { begun s dt 0x0103 sub with dev := { s.dev with safeLatch := false, safeNoAuto := false, autoPend := false } }) :
    exec (.recover dt sub) s = .next (endStep dt s
      (((if s.stream.opened = true ∧ s.stream.closing ≠ some 1 then t.firmwarePath else t).enterHold 0).finish sub (reply 0))) :=
  runGcs_answers (body := bodyRecover) h (by simp [bodyRecover, ht])

theorem policySet_stores (h : Starts s 0x0104 sub none e b) :
    exec (.policySet dt sub true) s = .next (endStep dt s ((({ begun s dt 0x0104 sub with
      dev := { s.dev with autoResume := e.p 0 0 1 == 1, autoPend := e.p 0 0 1 == 1 && s.code == 7 && !s.dev.safeNoAuto } } : State).storePolicy).finish sub
        (reply 0 (le 4 (b2n s.dev.autoResume))))) :=
  runGcs_answers (body := bodyPolicySet true) h (by simp [bodyPolicySet])

theorem policySet_flashFails (h : Starts s 0x0104 sub none e b) :
    exec (.policySet dt sub false) s = .next (endStep dt s ((begun s dt 0x0104 sub).finish sub (reply 0x0500))) :=
  runGcs_answers (body := bodyPolicySet false) h (by simp [bodyPolicySet])

theorem reboot_at_once (h : Starts s 0x0105 sub none e b) (hflag : e.p 0 0 1 = 0) :
    exec (.reboot dt sub) s = .next (endStep dt s ((begun s dt 0x0105 sub).mapCmd sub fun x => { x with wait := .reboot, since := s.now + dt, arg := 0 })) :=
  runGcs_waits (body := bodyReboot) h (by simp [bodyReboot, hflag, starts_sub h])

theorem reboot_orderly {t u v : State} (h : Starts s 0x0105 sub none e b) (hflag : e.p 0 0 1 = 1)
    (ht : t = (begun s dt 0x0105 sub).mapCmd sub (fun x => { x with wait := .reboot, since := s.now + dt, arg := 1 }))
    (hu : u = (if s.armedUp then t.enterHold 0 else t)) (hv : v = (if u.recd.st = .running ∨ u.recd.st = .full then u.recStop 3 else u)) :
    exec (.reboot dt sub) s = .next (endStep dt s (if v.cal.sets.isEmpty then v else v.storeCal true)) := by
  have harmed : t.armedUp = s.armedUp := by rw [ht, State.armedUp, State.isIn, State.code, State.mapCmd_dev]; exact begun_armedUp s dt 0x0105 sub
  refine runGcs_waits (body := bodyReboot) h ?_
  simp [bodyReboot, hflag, starts_sub h, ← ht, harmed, ← hu, ← hv]

/-- The wait of a REBOOT is over: it completes, and the reset is due 1 ms later. -/
theorem State.tryReboot_of_over (hwait : s.waiting .reboot = some e)
    (hover : e.arg = 0 ∨ (s.stream.opened = false ∧ (s.recd.st = .idle ∨ s.recd.st = .fault))) :
    s.tryReboot = { s.finish e.sub (reply 0) with dev := { (s.finish e.sub (reply 0)).dev with rebootAt := some (s.now + ms 1) } } := by
  simp only [State.tryReboot, hwait]
  refine if_neg fun hstay => ?_
  obtain harg | ⟨hclosed, hidle | hfault⟩ := hover <;> simp_all

theorem State.tryReboot_of_not_over (hwait : s.waiting .reboot = some e) (horderly : e.arg = 1)
    (hbusy : s.stream.opened = true ∨ (s.recd.st ≠ .idle ∧ s.recd.st ≠ .fault)) : s.tryReboot = s := by
  simp only [State.tryReboot, hwait]
  refine if_pos ?_
  obtain hopen | ⟨hidle, hfault⟩ := hbusy <;> simp [*]

end Device

section Time
variable {s : State} {dt sub : Nat} {e : InFlight} {b : Bytes}

theorem timeSet_steps (h : Starts s 0x0106 sub none e b) (hsource : s.dev.timeSource ≠ 2) (hflag : e.p 8 0 1 ≠ 1) :
    exec (.timeSet dt sub) s = .next (endStep dt s (({ begun s dt 0x0106 sub with
      time := { (s.advance dt).time with units := e.p64 0 * 5120000000000, lastHostSet := s.now + dt } } : State).finish sub
        (reply 0 (le 8 (s.advance dt).deviceTime.toNat ++ le 8 (e.p64 0))))) :=
  runGcs_answers (body := bodyTimeSet) h (by simp [bodyTimeSet, hsource, hflag, State.stepTime, timeSetReply, State.deviceTime])

theorem timeSet_waits (h : Starts s 0x0106 sub none e b) (hsource : s.dev.timeSource ≠ 2) (hflag : e.p 8 0 1 = 1) :
    exec (.timeSet dt sub) s = .next (endStep dt s ((begun s dt 0x0106 sub).mapCmd sub fun x =>
      { x with wait := .pps, since := s.now + dt, arg := e.p64 0 })) :=
  runGcs_waits (body := bodyTimeSet) h (by simp [bodyTimeSet, hsource, hflag, starts_sub h])

theorem timeSet_refused (h : Starts s 0x0106 sub none e b) (hsource : s.dev.timeSource = 2) :
    exec (.timeSet dt sub) s = .next (endStep dt s ((begun s dt 0x0106 sub).finish sub (reply 0x0200))) :=
  runGcs_answers (body := bodyTimeSet) h (by simp [bodyTimeSet, hsource])

theorem timeSlew_runs {rate : Int} (h : Starts s 0x0107 sub none e b) (hrate : rate = signed 32 (e.p 0 0 32)) :
    exec (.timeSlew dt sub) s = .next (endStep dt s (
      if s.dev.timeSource = 2 then (begun s dt 0x0107 sub).finish sub (reply 0x0200)
      else if -100000 ≤ rate ∧ rate ≤ 100000 ∧ 1 ≤ e.p 4 0 32 ∧ e.p 4 0 32 ≤ 60000 then
        ({ begun s dt 0x0107 sub with
          time := { (s.advance dt).time with ppb := rate, slewEnd := some (s.now + dt + ms (e.p 4 0 32)), lastHostSet := s.now + dt } } : State).finish sub (reply 0)
      else (begun s dt 0x0107 sub).finish sub (reply 0x0102))) := by
  split
  case isTrue hsource => exact runGcs_answers (body := bodyTimeSlew) h (by simp [bodyTimeSlew, hsource])
  case isFalse hsource =>
    split
    case isTrue hrange =>
      have hok : ¬ (((rate < -100000 ∨ 100000 < rate) ∨ e.p 4 0 32 = 0) ∨ 60000 < e.p 4 0 32) := by omega
      exact runGcs_answers (body := bodyTimeSlew) h (by simp [bodyTimeSlew, hsource, ← hrate, hok])
    case isFalse hrange =>
      have hbad : ((rate < -100000 ∨ 100000 < rate) ∨ e.p 4 0 32 = 0) ∨ 60000 < e.p 4 0 32 := by omega
      exact runGcs_answers (body := bodyTimeSlew) h (by simp [bodyTimeSlew, hsource, ← hrate, hbad])

theorem timeSource_stores {t : State} (h : Starts s 0x0108 sub none e b) (ht : t = ({ begun s dt 0x0108 sub with
      dev := { s.dev with timeSource := e.p 0 0 2 }
      time := { (s.advance dt).time with lastPps := none, ppsLost := false, srcAt := s.now + dt, lastHostSet := s.now + dt } } : State).storePolicy) :
    exec (.timeSource dt sub true) s
      = .next (endStep dt s ((if e.p 0 0 2 = 2 ∧ s.role ≠ 2 then t.post 0x100C 0 0 [2] else t).finish sub (reply 0))) :=
  runGcs_answers (body := bodyTimeSource true) h (by simp [bodyTimeSource, ht, State.role])

theorem timeSource_flashFails (h : Starts s 0x0108 sub none e b) :
    exec (.timeSource dt sub false) s = .next (endStep dt s ((begun s dt 0x0108 sub).finish sub (reply 0x0500))) :=
  runGcs_answers (body := bodyTimeSource false) h (by simp [bodyTimeSource])

end Time

/-- Settles O7. -/
theorem deviceAndTimeCommandsRun : Obligations.DeviceAndTimeCommandsRun := by
  unfold Obligations.DeviceAndTimeCommandsRun
  refine ⟨⟨fun s dt sub e b => deviceInfo_answers,
      fun s dt sub e b h => ⟨stateSet_noChange h, stateSet_ranging h, stateSet_armed h, stateSet_hold h, stateSet_refused h⟩,
      fun s dt sub e b t => recover_leaves_safe, fun s dt sub e b h => ⟨policySet_stores h, policySet_flashFails h⟩,
      fun s dt sub e b h => ⟨reboot_at_once h, fun t u v => reboot_orderly h⟩,
      fun s e hwait => ⟨State.tryReboot_of_over hwait, State.tryReboot_of_not_over hwait⟩, fun s t hat => ⟨fun hdue => ?_, fun hlater => State.rebootDue_of_later fun r hr => ?_⟩⟩,
    fun s dt sub e b h => ⟨timeSet_steps h, timeSet_waits h, timeSet_refused h⟩, fun s dt sub e b rate => timeSlew_runs,
    fun s dt sub e b t h ht => ⟨timeSource_stores h ht, timeSource_flashFails h⟩⟩
  · rw [State.rebootDue, hat, if_pos (by simpa using hdue)]
  · rwa [← Option.some.inj (hat.symm.trans hr)]
end Sys2Proof.Machine

/-! Commands on the staged set (R379 to R384, R399, R466, R531, R532, R539). -/

namespace Sys2Proof.Machine

section StagedSet
variable {s : State} {dt sub : Nat} {e : InFlight} {b : Bytes}

theorem validate_answers {j : Judgement} (h : Starts s 0x0201 sub none e b) (hj : j = (begun s dt 0x0201 sub).judgeSet (s.link.gen != 0)) :
    exec (.validate dt sub) s = .next (endStep dt s (if j.status = 0
      then ({ begun s dt 0x0201 sub with
        cfg := { s.cfg with lastStatus := 0, validated := true }, link := { s.link with stagedRate := j.rate } } : State).finish sub (reply 0 j.result)
      else ({ begun s dt 0x0201 sub with cfg := { s.cfg with lastStatus := j.status } } : State).finish sub (reply j.status j.result))) := by
  split
  case isTrue hok => exact runGcs_answers (body := bodyValidate) h (by simp [bodyValidate, State.validateSet, ← hj, hok])
  case isFalse hbad => exact runGcs_answers (body := bodyValidate) h (by simp [bodyValidate, State.validateSet, ← hj, hbad])

theorem stageDiscard_runs (h : Starts s 0x0203 sub none e b) :
    exec (.stageDiscard dt sub) s = .next (endStep dt s (({ begun s dt 0x0203 sub with
      cfg := { s.cfg with staged := s.cfg.active, validated := false } } : State).finish sub (reply 0))) :=
  runGcs_answers (body := bodyStageDiscard) h (by simp [bodyStageDiscard])

theorem stageStatus_answers (h : Starts s 0x0204 sub none e b) :
    exec (.stageStatus dt sub) s = .next (endStep dt s ((begun s dt 0x0204 sub).finish sub (reply 0
      (le 4 (maskOf 10 fun i => s.cfg.staged.get (i + 1) != s.cfg.active.get (i + 1)) ++ le 4 (b2n s.cfg.validated) ++ le 4 s.cfg.lastStatus)))) :=
  runGcs_answers (body := bodyStageStatus) h (by simp [bodyStageStatus, answer])

@[simp] theorem begun_resizes (s : State) (dt op sub : Nat) : (begun s dt op sub).resizes = s.resizes := by
  rw [State.resizes, begun_cfg, State.advance_cfg]; rfl

/-- The checks of R382 and R466 in their order, then the effect. -/
theorem bodyApply_eq {t : State} : bodyApply e b t =
    if t.cfg.validated = false then (t, some (reply 0x0160))
    else if t.cfg.staged = t.cfg.active then (t, some (reply 0x0001))
    else if t.code ≠ 3 ∧ e.p 0 0 1 = 1 ∧ ([1, 2, 10].any fun n => t.cfg.staged.get n != t.cfg.active.get n) = true then (t, some (reply 0x0161))
    else if t.resizes = true ∧ ¬(t.code = 3 ∧ t.recd.st = .idle) then (t, some (reply 0x0200))
    else if t.code = 3 then
      if t.stream.closing = none then (t.applyInHold, some t.applyInHold.applyReply)
      else (t.mapCmd e.sub fun x => { x with wait := .applyFurrow, since := t.now, committed := true }, none)
    else if e.p 0 0 1 = 1 then (t.mapCmd e.sub fun x => { x with wait := .applyCell, since := t.now, committed := true }, none)
    else (t.mapCmd e.sub fun x => { x with wait := .applyFurrow, since := t.now, committed := true }, none) := by
  have hcells : t.code ≠ 3 ∧ e.p 0 0 1 = 1 ∧ ([1, 2, 10].any fun n => t.cfg.staged.get n != t.cfg.active.get n) = true
      ↔ (t.code != 3 && e.p 0 0 1 == 1 && (t.cfg.staged.get 1 != t.cfg.active.get 1 || t.cfg.staged.get 2 != t.cfg.active.get 2
        || t.cfg.staged.get 10 != t.cfg.active.get 10)) = true := by simp [and_assoc, or_assoc]
  have hsizes : t.resizes = true ∧ ¬(t.code = 3 ∧ t.recd.st = .idle) ↔ (t.resizes && !(t.code == 3 && t.recd.st == .idle)) = true := by
    simp [imp_iff_not_or]
  simp only [hcells, hsizes]
  unfold bodyApply
  cases t.cfg.validated
  case false => rfl
  case true =>
    simp only [beq_iff_eq, Bool.not_true, Bool.false_eq_true, if_false, Bool.true_eq_false]
    cases t.stream.closing <;> by_cases hcell : e.p 0 0 1 = 1 <;> simp [hcell]

theorem apply_runs {t : State} (h : Starts s 0x0202 sub none e b) (ht : t = begun s dt 0x0202 sub) :
    exec (.apply dt sub) s = .next (endStep dt s (
      if s.cfg.validated = false then t.finish sub (reply 0x0160)
      else if s.cfg.staged = s.cfg.active then t.finish sub (reply 0x0001)
      else if s.code ≠ 3 ∧ e.p 0 0 1 = 1 ∧ ([1, 2, 10].any fun n => s.cfg.staged.get n != s.cfg.active.get n) = true then t.finish sub (reply 0x0161)
      else if s.resizes = true ∧ ¬(s.code = 3 ∧ s.recd.st = .idle) then t.finish sub (reply 0x0200)
      else if s.code = 3 then
        if s.stream.closing = none then t.applyInHold.finish sub t.applyInHold.applyReply
        else t.mapCmd sub fun x => { x with wait := .applyFurrow, since := s.now + dt, committed := true }
      else if e.p 0 0 1 = 1 then t.mapCmd sub fun x => { x with wait := .applyCell, since := s.now + dt, committed := true }
      else t.mapCmd sub fun x => { x with wait := .applyFurrow, since := s.now + dt, committed := true })) := by
  subst ht
  change run dt s (fun t => t.gcs 0x0202 sub none bodyApply) = _
  rw [run, State.gcs_starts h, bodyApply_eq]
  simp only [begun_cfg, begun_code, begun_recd, begun_stream, begun_resizes, begun_now, State.advance_cfg, State.advance_recd, State.advance_stream,
    State.advance_now, starts_sub h]
  split_ifs <;> rfl

section ConfigStore

@[simp] theorem begun_img (s : State) (dt op sub i : Nat) : (begun s dt op sub).img i = s.img i := by
  rw [State.img, begun_flash, State.advance_flash, State.img]

@[simp] theorem begun_imgOk (s : State) (dt op sub : Nat) (b : Bytes) : (begun s dt op sub).imgOk b = s.imgOk b := by
  rw [State.imgOk, State.imgArea, begun_flash, State.advance_flash]; rfl

@[simp] theorem begun_imgPick (s : State) (dt op sub : Nat) : (begun s dt op sub).imgPick = s.imgPick := by
  simp only [State.imgPick, begun_img, begun_imgOk]

theorem configStore_runs {i g : Nat} {ok : Bool} (h : Starts s 0x0205 sub none e b) (hi : i = s.imgPick.elim 0 (fun k => 1 - k))
    (hg : g = (if s.imgOk (s.img (1 - i)) then imgGen (s.img (1 - i)) + 1 else 1)) :
    exec (.configStore dt sub ok) s = .next (endStep dt s (
      if s.dev.applied = false then (begun s dt 0x0205 sub).finish sub (reply 0x0200)
      else if (imgOf s.cfg.active g).length > s.imgArea then (begun s dt 0x0205 sub).finish sub (reply 0x0326)
      else if ok = false then ({ begun s dt 0x0205 sub with flash := { s.flash with img := s.flash.img.set i [] } } : State).finish sub (reply 0x0500)
      else (({ begun s dt 0x0205 sub with
        flash := { s.flash with img := s.flash.img.set i (imgOf s.cfg.active g) }
        otp := { s.otp with schedCtr := max s.otp.schedCtr (min (hSecVer s.sched) 64) } } : State).storePolicy).finish sub (reply 0 (le 4 i)))) := by
  change run dt s (fun t => t.gcs 0x0205 sub none (bodyConfigStore ok)) = _
  rw [run, State.gcs_starts h]
  have hbody : bodyConfigStore ok e b (begun s dt 0x0205 sub) =
      if s.dev.applied = false then (begun s dt 0x0205 sub, some (reply 0x0200))
      else if (imgOf s.cfg.active g).length > s.imgArea then (begun s dt 0x0205 sub, some (reply 0x0326))
      else if ok = false then ({ begun s dt 0x0205 sub with flash := { s.flash with img := s.flash.img.set i [] } }, some (reply 0x0500))
      else (({ begun s dt 0x0205 sub with
        flash := { s.flash with img := s.flash.img.set i (imgOf s.cfg.active g) }
        otp := { s.otp with schedCtr := max s.otp.schedCtr (min (hSecVer s.sched) 64) } } : State).storePolicy, some (reply 0 (le 4 i))) := by
    have harea : (begun s dt 0x0205 sub).imgArea = s.imgArea := by rw [State.imgArea, begun_flash, State.advance_flash, State.imgArea]
    have hsched : (begun s dt 0x0205 sub).sched = s.sched := by rw [State.sched, begun_cfg, State.advance_cfg, State.sched]
    subst hi hg
    simp only [bodyConfigStore, begun_imgPick, begun_imgOk, begun_img, harea, hsched, begun_cfg, begun_dev, begun_flash, begun_otp, State.advance_cfg,
      State.advance_dev, State.advance_flash, State.advance_otp]
    cases s.imgPick <;> cases s.dev.applied <;> cases ok <;> rfl
  rw [hbody]
  split_ifs <;> rfl

end ConfigStore

end StagedSet

/-- Settles O8. -/
theorem stagedSetCommandsRun : Obligations.StagedSetCommandsRun := by
  unfold Obligations.StagedSetCommandsRun
  exact ⟨⟨fun s dt sub e b j => validate_answers, fun s dt sub e b => stageDiscard_runs, fun s dt sub e b => stageStatus_answers⟩,
    fun s dt sub e b t => apply_runs, fun s dt sub e b i g ok => configStore_runs⟩

end Sys2Proof.Machine

/-! Status queries (R364, R399). -/

namespace Sys2Proof.Machine

/-- The start of a command changes the commands in flight and the use of the session alone. -/
theorem begunAt_only (t : State) (op sub : Nat) : ∃ c p, begunAt t op sub = { t with cmds := c, priv := p } := by
  unfold begunAt
  dsimp only
  split <;> exact ⟨_, _, rfl⟩

/-- A query that starts answers from the state in which it starts; the start itself changes nothing that it reads. -/
theorem State.gcs_answer {t : State} {op sub : Nat} {e : InFlight} {b : Bytes} {payload : Option Bytes} {f : InFlight → State → Completion}
    {reading : Completion} (h : Starts t op sub payload e b) (hf : ∀ c p, f e { t with cmds := c, priv := p } = reading) :
    t.gcs op sub payload (answer f) = (begunAt t op sub).finish sub reading := by
  obtain ⟨c, p, hbegun⟩ := begunAt_only t op sub
  rw [State.gcs_starts_at h, answer, ← hf c p, ← hbegun]

theorem runGcs_answer {s : State} {dt op sub : Nat} {e : InFlight} {b : Bytes} {payload : Option Bytes} {f : InFlight → State → Completion}
    {reading : Completion} (h : Starts s op sub payload e b) (hf : ∀ c p, f e { s.advance dt with cmds := c, priv := p } = reading) :
    runGcs dt op sub payload s (answer f) = .next (endStep dt s ((begun s dt op sub).finish sub reading)) := by
  rw [runGcs, run, State.gcs_answer (starts_advance dt h) hf, begun]

/-- Settles O10. -/
theorem opticalQueriesAnswer : Obligations.OpticalQueriesAnswer := by
  unfold Obligations.OpticalQueriesAnswer
  intro s t dt sub e b ht
  subst ht
  obtain ⟨units, clk, re, cnt, l, hadv⟩ := s.advance_only dt
  refine ⟨fun h => runGcs_answer h fun c p => ?sched, fun h => runGcs_answer h fun c p => ?budget, fun h => runGcs_answer h fun c p => ?thresh,
    fun h => runGcs_answer h fun c p => ?alerts, fun h => runGcs_answer h fun c p => ?reduce, fun h => runGcs_answer h fun c p => ?drive,
    fun h => runGcs_answer h fun c p => ?rx, fun u hu h => ?glean⟩
  case budget =>
    rewrite [hadv]
    refine congrArg (fun l => replyWith (response 0x0303 [] l)) (List.map_congr_left fun i _ => ?_)
    refine congrArg₂ (· ++ ·) (congrArg₂ (· ++ ·) rfl (congrArg (fun f => List.flatMap f (s.str i).guard) (funext fun w => ?_))) rfl
    cases w.release <;> rfl
  case glean =>
    subst hu
    refine congrArg (fun t => Host.Outcome.next (endStep dt s t)) (State.gcs_answer h fun c p => ?_)
    rfl
  all_goals
    rewrite [hadv]
    rfl

end Sys2Proof.Machine

/-! Status queries of the host, memory, Drover, firmware and redundancy side (R364, R390, R399, R421). -/

namespace Sys2Proof.Machine

/-- Reading the counts of lanes in loopback changes the lanes and takes free values, and nothing else. -/
theorem State.readLoops_only (t : State) : ∃ free lanes, t.readLoops = { t with free := free, drover := { t.drover with lanes := lanes } } := by
  refine List.foldlRecOn (motive := fun u => ∃ free lanes, u = { t with free := free, drover := { t.drover with lanes := lanes } }) _ _
    ⟨t.free, t.drover.lanes, rfl⟩ ?_
  rintro u ⟨free, lanes, rfl⟩ l -
  dsimp only
  split <;> exact ⟨_, _, rfl⟩

section Queries
variable {s : State} {dt sub : Nat} {e : InFlight} {b : Bytes}

theorem recStatus_answers (h : Starts s 0x0807 sub none e b) : exec (.recStatus dt sub) s = .next (endStep dt s (
      if s.isAQ = true then (begun s dt 0x0807 sub).finish sub (reply 0x0302)
      else (if s.recd.lastCommit.isNone then (begun s dt 0x0807 sub).useFree else begun s dt 0x0807 sub).finish sub
        (replyWith (response 0x0807 ([s.recd.st.num, s.recd.ns] ++ two s.recd.nextLba ++ two s.recd.oldest ++ [s.recd.wraps % 2 ^ 32]
          ++ two (s.recd.lastCommit.getD (freeNat s)) ++ two s.recd.bytesIn ++ two s.recd.bytesOut ++ [sat32 s.recd.gapTotal] ++ s.recd.blocks.flatMap two
          ++ [s.recd.warn.toNat, s.recd.temp]) [])))) := by
  have hfree : freeNat (begun s dt 0x0807 sub) = freeNat s := by rw [freeNat, begun_free, State.advance_free, freeNat]
  split
  case isTrue haq => exact runGcs_answers (body := bodyRecStatus) h (by simp [bodyRecStatus, haq])
  case isFalse haq => exact runGcs_answers (body := bodyRecStatus) h (by
    simp only [bodyRecStatus, begun_isAQ, haq, Bool.false_eq_true, if_false, begun_recd, State.advance_recd, hfree])

theorem droverStatus_answers {u : State} (h : Starts s 0x0702 sub none e b) (hu : u = (begun s dt 0x0702 sub).readLoops) :
    exec (.droverStatus dt sub) s = .next (endStep dt s (u.finish sub
      (replyWith (response 0x0702
        ([s.devId, s.domain, s.drover.join.num, s.drover.refusedBy, s.drover.root, s.drover.hops, s.drover.pathNs, s.dev.timeSource, b2n u.timeLocked,
          twos 32 (roundQ u.drover.lastOfs), s.seq.planEpoch, (s.drover.pendPlan.map PlanSt.epoch).getD 0] ++ two ((s.drover.pendPlan.map fun p => p.act.toNat).getD 0))
        ((List.range 4).map fun p => [s.prole p, (s.port p).st.num] ++ [(u.lane (2 * p)).state, (u.lane (2 * p + 1)).state]
          ++ [(roundQ (s.port p).delay).toNat % 2 ^ 32, (s.port p).shed]
          ++ (two (u.lane (2 * p)).bits ++ two (u.lane (2 * p)).errs ++ (two (u.lane (2 * p + 1)).bits ++ two (u.lane (2 * p + 1)).errs))
          ++ (List.range 8).flatMap fun i => two (u.priv.cnt.get (352 + 8 * p + i)).toNat)
        ++ (if s.role ≠ 1 then [] else u.drover.members.flatMap fun m => [m.id, m.hops, m.pathNs, m.ackEpoch] ++ two (u.timeAt m.lastReport).toNat).flatMap
          fun v => le 4 v)))) := by
  refine runGcs_answers (body := bodyDroverStatus) h ?_
  rw [bodyDroverStatus, ← hu]
  obtain ⟨c, p, hbegun⟩ := begunAt_only (s.advance dt) 0x0702 sub
  obtain ⟨units, clk, re, cnt, l, hadv⟩ := s.advance_only dt
  obtain ⟨free, lanes, hread⟩ := (begun s dt 0x0702 sub).readLoops_only
  rw [← hu, begun, hbegun, hadv] at hread
  subst hread
  simp only [bne_iff_ne]
  rfl

section ErrorRead
variable {l : List Nat} {answer : Completion} (h : Starts s 0x0B05 sub none e b) (hl : l = (ringSlots s.err.rd.toNat s.err.wr.toNat).take (e.p 0 0 9))
  (hanswer : answer = replyWith (le 2 0x0B05 ++ le 2 1 ++ le 2 l.length ++ le 2 64 ++ le 4 0 ++ le 4 0 ++ l.flatMap fun i => fit 64 (s.err.slots.get i)))
include h hl hanswer

theorem errorRead_advances (hlo : 1 ≤ e.p 0 0 9) (hhi : e.p 0 0 9 ≤ 256) (hadvance : e.p 0 16 1 = 1) :
    exec (.errorRead dt sub) s = .next (endStep dt s (({ begun s dt 0x0B05 sub with
      err := { s.err with rd := s.err.rd + BitVec.ofNat 8 l.length } } : State).finish sub answer)) := by
  subst hanswer hl
  have hcount : ¬ (e.p 0 0 9 = 0 ∨ 256 < e.p 0 0 9) := by omega
  exact runGcs_answers (body := bodyErrorRead) h (by simp [bodyErrorRead, hcount, hadvance])

theorem errorRead_keeps (hlo : 1 ≤ e.p 0 0 9) (hhi : e.p 0 0 9 ≤ 256) (hadvance : e.p 0 16 1 ≠ 1) :
    exec (.errorRead dt sub) s = .next (endStep dt s ((begun s dt 0x0B05 sub).finish sub answer)) := by
  subst hanswer hl
  have hcount : ¬ (e.p 0 0 9 = 0 ∨ 256 < e.p 0 0 9) := by omega
  exact runGcs_answers (body := bodyErrorRead) h (by simp [bodyErrorRead, hcount, hadvance])

end ErrorRead

theorem errorRead_refused (h : Starts s 0x0B05 sub none e b) (hbad : e.p 0 0 9 = 0 ∨ e.p 0 0 9 > 256) :
    exec (.errorRead dt sub) s = .next (endStep dt s ((begun s dt 0x0B05 sub).finish sub (reply 0x0102))) :=
  runGcs_answers (body := bodyErrorRead) h (by simp [bodyErrorRead, hbad])

end Queries

/-- Settles O11. -/
theorem deviceQueriesAnswer : Obligations.DeviceQueriesAnswer := by
  unfold Obligations.DeviceQueriesAnswer
  refine ⟨fun s t dt sub e b ht => ?_, fun s dt sub e b l answer h hl hanswer =>
    ⟨errorRead_advances h hl hanswer, errorRead_keeps h hl hanswer, errorRead_refused h⟩⟩
  subst ht
  obtain ⟨units, clk, re, cnt, l, hadv⟩ := s.advance_only dt
  refine ⟨fun h => runGcs_answer h fun c p => ?engines, fun h => runGcs_answer h fun c p => ?redundancy, fun h => runGcs_answer h fun c p => ?fw,
    fun h => runGcs_answer h fun c p => ?thermal, fun h => runGcs_answer h fun c p => ?hk, fun h mask hmask => runGcs_answer h fun c p => ?cal,
    fun h => runGcs_answer h fun c p => ?calRead, fun h => runGcs_answer h fun c p => ?ledger, fun h => runGcs_answer h fun c p => ?silo,
    fun h => runGcs_answer h fun c p => ?output, recStatus_answers, fun h u => droverStatus_answers h⟩
  case cal =>
    rewrite [hadv]
    refine congrArg (fun l => replyWith (response 0x0A02 [sat32 s.cal.rejects, s.cal.level, s.cal.gen, b2n s.cal.dirty] l)) (List.map_congr_left fun i _ => ?_)
    rewrite [hmask, hmask]
    rfl
  all_goals
    rewrite [hadv]
    rfl

end Sys2Proof.Machine

/-! Commands of the strings and of the Gleaner (R105, R244, R254, R258, R263). -/

namespace Sys2Proof.Machine

section RunGcsAt
variable {s t u : State} {op sub dt : Nat} {e : InFlight} {b : Bytes} {payload : Option Bytes} {body : Body} {c : Completion} {g : State → State}

/-- A command that starts in the state `u` that an earlier part of its step has led to, and answers at once. -/
theorem run_gcs_answers (hu : u = g (s.advance dt)) (h : Starts u op sub payload e b) (hbody : body e b (begunAt u op sub) = (t, some c)) :
    run dt s (fun x => (g x).gcs op sub payload body) = .next (endStep dt s (t.finish sub c)) := by
  rw [run, ← hu, State.gcs_starts_at h, hbody]

theorem run_gcs_waits (hu : u = g (s.advance dt)) (h : Starts u op sub payload e b) (hbody : body e b (begunAt u op sub) = (t, none)) :
    run dt s (fun x => (g x).gcs op sub payload body) = .next (endStep dt s t) := by
  rw [run, ← hu, State.gcs_starts_at h, hbody]

end RunGcsAt

@[simp] theorem begunAt_str (t : State) (op sub i : Nat) : (begunAt t op sub).str i = t.str i := by rw [State.str, begunAt_strs, State.str]

@[simp] theorem begun_str (s : State) (dt op sub i : Nat) : (begun s dt op sub).str i = s.str i := by
  rw [State.str, begun_strs, State.advance_strs, State.str]

section Optical
variable {s u : State} {dt sub : Nat} {e : InFlight} {b : Bytes}

theorem stringReverify_runs (h : Starts s 0x0306 sub none e b) : exec (.stringReverify dt sub) s = .next (endStep dt s (
    if (s.str (e.p 0 0 5)).mode ≠ .faulted then (begun s dt 0x0306 sub).finish sub (reply 0x0001)
    else if (s.str (e.p 0 0 5)).cause = 8 then (begun s dt 0x0306 sub).finish sub (reply 0x0215)
    else ((begun s dt 0x0306 sub).mapStr (e.p 0 0 5) fun q =>
        { q with mode := .unverified, fromFault := true, cause := 0, hist := [], gateHeld := false }).finish sub (reply 0))) := by
  split_ifs with hmode hcause
  · exact runGcs_answers (body := bodyStringReverify) h (by simp [bodyStringReverify, hmode])
  · exact runGcs_answers (body := bodyStringReverify) h (by simp [bodyStringReverify, not_not.1 hmode, hcause])
  · exact runGcs_answers (body := bodyStringReverify) h (by simp [bodyStringReverify, not_not.1 hmode, hcause])

section Gleaner
variable (hu : u = (s.advance dt).arbitrate false)
include hu

theorem gleanTest_runs (h : Starts u 0x0503 sub none e b) : exec (.gleanTest dt sub) s = .next (endStep dt s (
    if e.p 0 16 2 = 3 then (begunAt u 0x0503 sub).finish sub (reply 0x0102)
    else if e.p 0 8 1 ≠ 1 then ((begunAt u 0x0503 sub).endTest (e.p 0 0 5)).finish sub (reply 0)
    else if (u.gw.get (e.p 0 0 5)).on = false then (begunAt u 0x0503 sub).finish sub (reply 0x0212)
    else (((begunAt u 0x0503 sub).mapGw (e.p 0 0 5) fun g =>
        { g with testPat := some (e.p 0 16 2 + 4 * e.p 4 0 12) }).nextCapture (e.p 0 0 5)).finish sub (reply 0))) := by
  have answers {t : State} {c : Completion} : bodyGleanTest e b (begunAt u 0x0503 sub) = (t, some c) →
      exec (.gleanTest dt sub) s = .next (endStep dt s (t.finish sub c)) := run_gcs_answers (g := fun x => x.arbitrate false) hu h
  split_ifs with hpat hoff hdead
  · exact answers (by simp [bodyGleanTest, hpat])
  · exact answers (by simp [bodyGleanTest, hpat, hoff])
  · exact answers (by simp [bodyGleanTest, hpat, not_not.1 hoff, hdead])
  · exact answers (by simp [bodyGleanTest, hpat, not_not.1 hoff, hdead])

theorem gleanForce_asks {c : Capture} (h : Starts u 0x0504 sub none e b) (hc : c = {
      ch := e.p 0 16 9, prof := e.p 4 0 4, profB := u.profile (e.p 4 0 4), src := 2, tTrig := some (u.sampleNow * 3200), cellNo := u.seq.cellNo
      str := e.p 0 0 5, cell := (((u.str (e.p 0 0 5)).runs.head?).map (·.cell)).getD 0, furrow := u.seq.furrow, dir := u.seq.dir
      time := u.timeAt (u.sampleNow * 3200), tag := e.tag }) :
    exec (.gleanForce dt sub) s = .next (endStep dt s
      (((begunAt u 0x0504 sub).mapCmd sub fun x => { x with wait := .force, since := u.now }).ask (e.p 0 0 5) c false (some sub))) := by
  refine run_gcs_waits (g := fun x => x.arbitrate false) (body := bodyGleanForce) hu h ?_
  obtain ⟨cmds, priv, hbegun⟩ := begunAt_only u 0x0504 sub
  subst hc
  rw [bodyGleanForce, hbegun, starts_sub h]
  rfl

end Gleaner
end Optical

/-- Settles O12. -/
theorem opticalCommandsRun : Obligations.OpticalCommandsRun := by
  unfold Obligations.OpticalCommandsRun
  refine ⟨fun s dt sub e b => stringReverify_runs, fun s u dt sub e b hu => ⟨gleanTest_runs hu, fun h c => gleanForce_asks hu h⟩,
    fun s t r sub o why hsub hreq => ?_⟩
  simp only [State.serveReq, hsub, hreq]

end Sys2Proof.Machine

/-! Commands of the Drover link (R406 to R408, R421, R434). -/

namespace Sys2Proof.Machine

section BegunDrover
variable (s : State) (dt op sub : Nat)

@[simp] theorem begun_lane (l : Nat) : (begun s dt op sub).lane l = s.lane l := by rw [State.lane, begun_drover, State.advance_drover, State.lane]
@[simp] theorem begun_isA0 : (begun s dt op sub).isA0 = s.isA0 := by rw [State.isA0, begun_ident, State.advance_ident, State.isA0]
@[simp] theorem begun_role : (begun s dt op sub).role = s.role := begun_pf s dt op sub _ _ _ _
@[simp] theorem begun_domEpoch : (begun s dt op sub).domEpoch = s.domEpoch := by rw [State.domEpoch, begun_drover, State.advance_drover, State.domEpoch]
@[simp] theorem begun_deviceTime : (begun s dt op sub).deviceTime = (s.advance dt).deviceTime := by rw [State.deviceTime, begun_time, State.deviceTime]

end BegunDrover

section Drover
variable {s : State} {dt sub : Nat} {e : InFlight} {b : Bytes}

theorem planIssue_runs {now : Nat} (h : Starts s 0x0703 sub none e b) (hnow : now = (s.advance dt).deviceTime.toNat) :
    exec (.planIssue dt sub) s = .next (endStep dt s (
      if s.role ≠ 1 then (begun s dt 0x0703 sub).finish sub (reply 0x0200)
      else if 0 < e.p 0 0 32 ∧ e.p 0 0 32 < 2 ^ 31 ∧ 1 ≤ e.p 4 0 16 ∧ e.p 4 0 16 ≤ 1023 ∧ e.p 4 16 16 ≠ 0 ∧ e.p 4 16 16 ≠ s.domEpoch
          ∧ now + 10000000 ≤ e.p64 8 ∧ e.p64 8 ≤ now + 60000000000 then
        ((begun s dt 0x0703 sub).setPendPlan
          { base := BitVec.ofNat 31 (e.p 0 0 32), stride := e.p 4 0 16, epoch := e.p 4 16 16, act := BitVec.ofNat 64 (e.p64 8) }).finish sub (reply 0)
      else (begun s dt 0x0703 sub).finish sub (reply 0x0102))) := by
  have answers {t : State} {c : Completion} : bodyPlanIssue e b (begun s dt 0x0703 sub) = (t, some c) →
      exec (.planIssue dt sub) s = .next (endStep dt s (t.finish sub c)) := runGcs_answers h
  split_ifs with hrole hplan
  · exact answers (by simp [bodyPlanIssue, hrole])
  · have hok : (decide (e.p 0 0 32 = 0) || decide (e.p 0 0 32 ≥ 2 ^ 31) || decide (e.p 4 0 16 < 1) || decide (e.p 4 0 16 > 1023) || decide (e.p 4 16 16 = 0)
        || decide (e.p 4 16 16 = s.domEpoch) || decide (e.p64 8 < now + 10000000) || decide (e.p64 8 > now + 60000000000)) = false := by
      simp; omega
    exact answers (by simp only [bodyPlanIssue, begun_role, not_not.1 hrole, begun_domEpoch, begun_deviceTime, ← hnow, hok]; rfl)
  · have hbad : (decide (e.p 0 0 32 = 0) || decide (e.p 0 0 32 ≥ 2 ^ 31) || decide (e.p 4 0 16 < 1) || decide (e.p 4 0 16 > 1023) || decide (e.p 4 16 16 = 0)
        || decide (e.p 4 16 16 = s.domEpoch) || decide (e.p64 8 < now + 10000000) || decide (e.p64 8 > now + 60000000000)) = true := by
      simp; omega
    exact answers (by simp only [bodyPlanIssue, begun_role, not_not.1 hrole, begun_domEpoch, begun_deviceTime, ← hnow, hbad]; rfl)

theorem laneService_takesOut (h : Starts s 0x0704 sub none e b) (hout : e.p 0 8 1 = 1) :
    exec (.laneService dt sub) s = .next (endStep dt s (((begun s dt 0x0704 sub).takeOut (e.p 0 0 3)).finish sub (reply 0))) :=
  runGcs_answers (body := bodyLaneService) h (by simp [bodyLaneService, hout])

theorem laneService_retrains (h : Starts s 0x0704 sub none e b) (hin : e.p 0 8 1 ≠ 1) :
    exec (.laneService dt sub) s = .next (endStep dt s (((begun s dt 0x0704 sub).retrain (e.p 0 0 3)).finish sub (reply 0))) :=
  runGcs_answers (body := bodyLaneService) h (by simp [bodyLaneService, hin])

theorem loopback_runs {t : State} (h : Starts s 0x0B04 sub none e b) (ht : t = (begun s dt 0x0B04 sub).readLoops.mapLane (e.p 0 0 3) (fun x =>
      { x with state := 3, loop := e.p 0 8 4, outBy := true, relocked := false, bits := 0, errs := 0 })) :
    exec (.loopback dt sub) s = .next (endStep dt s (
      if e.p 0 8 4 > 3 then (begun s dt 0x0B04 sub).finish sub (reply 0x0102)
      else if (s.lane (e.p 0 0 3)).state = 0 then (begun s dt 0x0B04 sub).finish sub (reply 0x0200)
      else if e.p 0 8 4 = 0 then ((begun s dt 0x0B04 sub).readLoops.retrain (e.p 0 0 3)).finish sub (reply 0)
      else if e.p 0 8 4 = 1 then t.finish sub (reply 0)
      else (t.laneMsg (e.p 0 0 3) 3 (e.p 0 8 4) 0).finish sub (reply 0))) := by
  have answers {t : State} {c : Completion} : bodyLoopback e b (begun s dt 0x0B04 sub) = (t, some c) →
      exec (.loopback dt sub) s = .next (endStep dt s (t.finish sub c)) := runGcs_answers h
  split_ifs with hmode hin hend hone
  · exact answers (by simp [bodyLoopback, hmode])
  · exact answers (by simp [bodyLoopback, hmode, hin])
  · exact answers (by simp [bodyLoopback, hin, hend])
  · exact answers (by simp [bodyLoopback, hin, hone, ht])
  · exact answers (by simp [bodyLoopback, hmode, hin, hend, hone, ht])

theorem eyeScan_runs {ph : Nat} {counts blocks : List (List Nat)} (h : Starts s 0x0B03 sub none e b) (hph : ph = 16 * 2 ^ e.p 0 8 4)
    (hblocks : blocks = (List.range 192).map (fun i => (padTo ph 0 (counts.getD i [])).map fun v => v % 2 ^ 32)) :
    exec (.eyeScan dt sub counts) s = .next (endStep dt s ((begun s dt 0x0B03 sub).finish sub (
      if e.p 0 8 4 > 3 then reply 0x0102
      else if s.isA0 = true ∧ (s.lane (e.p 0 0 3)).state = 0 then reply 0x0200
      else replyWith (response 0x0B03 ([e.p 0 0 3, ph, 64, 2097152] ++ (List.range 3).flatMap fun k =>
          [openRun (blocks.getD (64 * k + 32) []) (ph / 2), openRun ((List.range 64).map fun v => (blocks.getD (64 * k + v) []).getD (ph / 2) 0) 32]) blocks)))) := by
  have answers {t : State} {c : Completion} : bodyEyeScan counts e b (begun s dt 0x0B03 sub) = (t, some c) →
      exec (.eyeScan dt sub counts) s = .next (endStep dt s (t.finish sub c)) := runGcs_answers h
  split_ifs with hres hin
  · exact answers (by simp [bodyEyeScan, hres])
  · exact answers (by simp [bodyEyeScan, hres, hin])
  · have hfree : (s.isA0 && (s.lane (e.p 0 0 3)).state == 0) = false := by simpa using hin
    subst hblocks hph
    exact answers (by simp only [bodyEyeScan, if_neg hres, begun_isA0, begun_lane, hfree]; rfl)

end Drover

/-- Settles O13. -/
theorem droverCommandsRun : Obligations.DroverCommandsRun := by
  unfold Obligations.DroverCommandsRun
  exact ⟨fun s dt sub e b now => planIssue_runs, fun s dt sub e b h => ⟨laneService_takesOut h, laneService_retrains h⟩,
    fun s t dt sub e b => loopback_runs, fun s dt sub ph counts blocks e b => eyeScan_runs⟩

end Sys2Proof.Machine

/-! Privileged commands and commands of the calibration (R273, R294, R354, R356, R387, R500, R504, R509). -/

namespace Sys2Proof.Machine

section BegunEngines
variable (s : State) (dt op sub : Nat)

@[simp] theorem begun_eng (n : Nat) : (begun s dt op sub).eng n = s.eng n := by rw [State.eng, begun_repair, State.advance_repair, State.eng]
@[simp] theorem begun_holder (p : Nat) : (begun s dt op sub).holder p = s.holder p := by
  rw [State.holder, begun_repair, State.advance_repair, State.holder]
@[simp] theorem begun_idleSpares (g : Nat) : (begun s dt op sub).idleSpares g = s.idleSpares g := by simp only [State.idleSpares, begun_eng]

/-- The start of a privileged command counts as use of the session (R387). -/
theorem begun_lastUse (hpriv : (opInfo op).any (·.priv) = true) : (begun s dt op sub).priv.lastUse = s.now + dt := by
  rw [begun, begunAt, if_pos hpriv]
  exact State.advance_now s dt

end BegunEngines

section Privileged
variable {s t : State} {dt sub : Nat} {e : InFlight} {b : Bytes}

theorem begunAt_priv_cnt (t : State) (op sub : Nat) : (begunAt t op sub).priv.cnt = t.priv.cnt := by
  unfold begunAt
  dsimp only
  split <;> rfl

theorem snapshot_answers (h : Starts s 0x0B01 sub none e b) (ht : t = begun s dt 0x0B01 sub) :
    exec (.snapshot dt sub) s = .next (endStep dt s (({ t with priv := { t.priv with shd := (s.advance dt).priv.cnt } } : State).finish sub
      (reply 0 (le 8 (s.advance dt).deviceTime.toNat)))) := by
  subst ht
  exact runGcs_answers (body := bodySnapshot) h (by rw [bodySnapshot, State.snapAll, begun_deviceTime, begun, begunAt_priv_cnt])

theorem counterClear_answers (h : Starts s 0x0B02 sub none e b) (ht : t = begun s dt 0x0B02 sub) :
    exec (.counterClear dt sub) s = .next (endStep dt s (({ t with priv := { t.priv with cnt := ⟨0, []⟩ } } : State).finish sub (reply 0))) := by
  subst ht
  exact runGcs_answers (body := bodyCounterClear) h rfl

theorem repairLogClear_answers {first n : Nat} (h : Starts s 0x0A24 sub none e b) (ht : t = begun s dt 0x0A24 sub) (hfirst : first = e.p 0 0 8)
    (hn : n = (if e.p 0 8 9 = 0 then 256 else e.p 0 8 9)) :
    exec (.repairLogClear dt sub) s = .next (endStep dt s (({ t with repair := { s.repair with
      log := (List.range s.repair.log.length).map fun i => if first ≤ i && decide (i < first + n) then ({} : RepairEnt) else s.repair.log.getD i {}
      logFull := false, logBad := s.repair.logBad.filter fun i => !(decide (first ≤ i) && decide (i < first + n)) } } : State).finish sub (reply 0))) := by
  subst ht hfirst hn
  exact runGcs_answers (body := bodyRepairLogClear) h (by simp only [bodyRepairLogClear, begun_repair, State.advance_repair])

theorem engineRetire_runs (h : Starts s 0x0A22 sub none e b) (ht : t = begun s dt 0x0A22 sub) :
    exec (.engineRetire dt sub) s = .next (endStep dt s (
      if (s.eng (s.holder (e.p 0 0 10))).st = .suspect then t.finish sub (reply 0x0214)
      else if s.idleSpares (e.p 0 0 10 / 256) = [] then t.finish sub (reply 0x0310)
      else (t.raiseCause (e.p 0 0 10) 6).finish sub (reply 0))) := by
  subst ht
  split_ifs with hsuspect hnone
  · exact runGcs_answers (body := bodyEngineRetire) h (by simp [bodyEngineRetire, hsuspect])
  · exact runGcs_answers (body := bodyEngineRetire) h (by simp [bodyEngineRetire, hsuspect, hnone])
  · exact runGcs_answers (body := bodyEngineRetire) h (by simp [bodyEngineRetire, hsuspect, hnone])

end Privileged

/-- Settles O14. -/
theorem privilegedCommandsRun : Obligations.PrivilegedCommandsRun := by
  unfold Obligations.PrivilegedCommandsRun
  exact fun s t dt sub e b => ⟨snapshot_answers, counterClear_answers, fun first n => repairLogClear_answers, engineRetire_runs,
    fun hpriv ht => ht ▸ begun_lastUse s dt 0x0B01 sub hpriv⟩

section Calibration
variable {s t : State} {dt sub : Nat} {payload : Option Bytes} {e : InFlight} {b : Bytes}

theorem calRun_runs (h : Starts s 0x0A01 sub none e b) : exec (.calRun dt sub) s = .next (endStep dt s (
    if e.p 0 0 8 ≥ 7 then (begun s dt 0x0A01 sub).finish sub (reply 0x0102)
    else ((begun s dt 0x0A01 sub).each (bitsOf 32 (e.p 4 0 32)) fun i t => t.addPass (e.p 0 0 8) i).finish sub
      (reply 0 (le 4 (bitsOf 32 (e.p 4 0 32)).length)))) := by
  split_ifs with hpass
  · exact runGcs_answers (body := bodyCalRun) h (by simp [bodyCalRun, hpass])
  · exact runGcs_answers (body := bodyCalRun) h (by simp [bodyCalRun, hpass])

theorem calLoad_runs {sets : List Bytes} (h : Starts s 0x0A04 sub payload e b) (ht : t = begun s dt 0x0A04 sub)
    (hsets : sets = (List.range 6).map (fun k => slice b (2 * calLen * k) (2 * calLen))) :
    exec (.calLoad dt sub payload) s = .next (endStep dt s (
      if (sets.any fun x => compl (x.take calLen) != x.drop calLen) = true then t.finish sub (reply 0x0421)
      else if ((List.range 6).all fun k => t.calHeaderOk k (sets.getD k [])) = false ∨ sets.all calBoundsOk = false then t.finish sub (reply 0x0102)
      else (({ t with
        cal := { (s.advance dt).cal with sets := sets, delta := ⟨0, []⟩, slope := ⟨0, []⟩, serdesBase := ⟨0, []⟩, level := 0, dirty := true
                                         loadDue := some (s.now + dt) }
        rx := { s.rx with chans := { s.rx.chans with cells := s.rx.chans.cells.map fun (x : Nat × ChanState) => (x.1, { x.2 with abRun := 0 }) } } }
        : State).reselect).finish sub (reply 0))) := by
  have answers {u : State} {c : Completion} : bodyCalLoad e b t = (u, some c) →
      exec (.calLoad dt sub payload) s = .next (endStep dt s (u.finish sub c)) := fun hbody => runGcs_answers h (ht ▸ hbody)
  split_ifs with hcompl hbad
  · exact answers (by simp only [bodyCalLoad, ← hsets, hcompl, if_true])
  · have hrefuse : (!((List.range 6).all fun k => t.calHeaderOk k (sets.getD k [])) || !(sets.all calBoundsOk)) = true := by simpa using hbad
    exact answers (by simp only [bodyCalLoad, ← hsets, hrefuse, if_neg hcompl, if_true])
  · have hpass : ¬ (!((List.range 6).all fun k => t.calHeaderOk k (sets.getD k [])) || !(sets.all calBoundsOk)) = true := by simpa using hbad
    refine answers ?_
    simp only [bodyCalLoad, ← hsets, if_neg hcompl, if_neg hpass]
    rw [ht, begun_cal, begun_now, State.advance_now, begun_rx, State.advance_rx]

end Calibration

/-- Settles O15. -/
theorem calibrationCommandsRun : Obligations.CalibrationCommandsRun := by
  unfold Obligations.CalibrationCommandsRun
  exact ⟨fun s dt sub e b => calRun_runs, fun s t dt sub payload e b sets => calLoad_runs⟩

end Sys2Proof.Machine

/-! Session commands (R385 to R387) and commands on the firmware (R378, R391, R392, R398, R539). -/

namespace Sys2Proof.Machine

/-- The start of a command and the time before it change the time, the use of the session, the commands in flight and what counts with the time. -/
theorem begun_only (s : State) (dt op sub : Nat) : ∃ units clk re c p, begun s dt op sub = { s with
    now := s.now + dt, time := { s.time with units := units }, seq := { s.seq with rangingClk := clk }, cal := { s.cal with replanT := re }
    cmds := c, priv := p } := by
  obtain ⟨c, p, hbegun⟩ := begunAt_only (s.advance dt) op sub
  obtain ⟨units, clk, re, cnt, l, hadv⟩ := s.advance_only dt
  exact ⟨units, clk, re, c, p, by rw [begun, hbegun, hadv]⟩

section BegunFirmware
variable (s : State) (dt op sub : Nat)

@[simp] theorem begun_sigOk (kind : Nat) (b msg : Bytes) : (begun s dt op sub).sigOk kind b msg = s.sigOk kind b msg := by
  obtain ⟨units, clk, re, c, p, h⟩ := begun_only s dt op sub
  rw [h]
  rfl

@[simp] theorem begun_fwCheck (b : Bytes) : (begun s dt op sub).fwCheck b = s.fwCheck b := by
  rw [State.fwCheck, begun_sigOk, begun_otp, State.advance_otp, State.fwCheck]

@[simp] theorem begun_commitSlot : (begun s dt op sub).commitSlot = s.commitSlot := by
  simp only [State.commitSlot, begun_fwCheck, begun_flash, begun_fw, begun_power, State.advance_flash, State.advance_fw, State.advance_power]

@[simp] theorem begun_pair (i : Nat) : (begun s dt op sub).pair i = s.pair i := by rw [State.pair, begun_fw, State.advance_fw, State.pair]
@[simp] theorem begun_standby : (begun s dt op sub).standby = s.standby := by rw [State.standby, begun_fw, State.advance_fw, State.standby]

end BegunFirmware

section Session
variable {s t : State} {dt sub : Nat} {payload : Option Bytes} {e : InFlight} {b : Bytes}

theorem sessionChallenge_makesNonce (h : Starts s 0x0C10 sub none e b)
    (hopen : s.sess.lockout = none ∨ ∃ a, s.sess.lockout = some a ∧ a + sec 60 ≤ s.now + dt) :
    exec (.sessionChallenge dt sub) s = .next (endStep dt s (({ begun s dt 0x0C10 sub with
      free := s.free + 1, sess := { s.sess with nonce := some (le 16 (freeNat s)), nonceAt := s.now + dt, lockout := none } } : State).finish sub
        (reply 0 (le 16 (freeNat s))))) := by
  have hfree : freeNat (begun s dt 0x0C10 sub) = freeNat s := by rw [freeNat, begun_free, State.advance_free, freeNat]
  refine runGcs_answers (body := bodyChallenge) h ?_
  obtain hnone | ⟨a, hsome, hover⟩ := hopen
  · simp [bodyChallenge, hnone, hfree, State.useFree]
  · simp [bodyChallenge, hsome, Nat.not_lt.2 hover, hfree, State.useFree]

theorem sessionChallenge_lockedOut (h : Starts s 0x0C10 sub none e b) {a : Nat} (hsome : s.sess.lockout = some a) (hearly : s.now + dt < a + sec 60) :
    exec (.sessionChallenge dt sub) s = .next (endStep dt s ((begun s dt 0x0C10 sub).finish sub (reply 0x0418))) :=
  runGcs_answers (body := bodyChallenge) h (by simp [bodyChallenge, hsome, hearly])

/-- The signature over the nonce verifies in time (R386). -/
def opensSession (s : State) (now : Nat) (b : Bytes) : Bool :=
  s.sess.nonce.elim false fun n => decide (now ≤ s.sess.nonceAt + sec 60) && s.sigOk 2 b (sessMsg n s.ident.serial)

theorem sessionOpen_runs {fails : List Nat} (h : Starts s 0x0C11 sub payload e b) (ht : t = begun s dt 0x0C11 sub)
    (hfails : fails = ((s.now + dt) :: s.sess.fails).take 3) :
    exec (.sessionOpen dt sub payload) s = .next (endStep dt s (
      if opensSession s (s.now + dt) b = true then ({ t with
        sess := { s.sess with nonce := none }, priv := { t.priv with opened := true, lastUse := s.now + dt } } : State).finish sub (reply 0)
      else ({ t with sess := { s.sess with
        nonce := none, fails := fails
        lockout := if fails.length = 3 ∧ s.now + dt ≤ fails.getD 2 0 + sec 60 then some (s.now + dt) else s.sess.lockout } } : State).finish sub
          (reply 0x0418))) := by
  subst ht hfails
  have answers {u : State} {c : Completion} : bodySessionOpen e b (begun s dt 0x0C11 sub) = (u, some c) →
      exec (.sessionOpen dt sub payload) s = .next (endStep dt s (u.finish sub c)) := runGcs_answers h
  unfold opensSession
  cases hn : s.sess.nonce with
  | none => exact answers (by simp [bodySessionOpen, hn])
  | some n =>
    rw [Option.elim_some]
    split
    case isTrue hsig =>
      exact answers (by simp only [bodySessionOpen, begun_sess, State.advance_sess, begun_now, State.advance_now, begun_sigOk, begun_ident,
        State.advance_ident, hn, hsig, if_true])
    case isFalse hsig =>
      refine answers ?_
      simp only [bodySessionOpen, begun_sess, State.advance_sess, begun_now, State.advance_now, begun_sigOk, begun_ident, State.advance_ident, hn,
        if_neg hsig]
      simp

theorem sessionClose_closes (h : Starts s 0x0C12 sub none e b) (ht : t = begun s dt 0x0C12 sub) (hopen : t.priv.opened = true) :
    exec (.sessionClose dt sub) s = .next (endStep dt s (({ t with priv := { t.priv with opened := false } } : State).finish sub (reply 0))) := by
  subst ht
  exact runGcs_answers (body := bodySessionClose) h (by rw [bodySessionClose, if_pos hopen])

theorem sessionClose_noChange (h : Starts s 0x0C12 sub none e b) (ht : t = begun s dt 0x0C12 sub) (hclosed : t.priv.opened = false) :
    exec (.sessionClose dt sub) s = .next (endStep dt s (t.finish sub (reply 0x0001))) := by
  subst ht
  exact runGcs_answers (body := bodySessionClose) h (by rw [bodySessionClose, if_neg (by simp [hclosed])])

end Session

section Firmware
variable {s t : State} {dt sub : Nat} {payload : Option Bytes} {e : InFlight} {b img : Bytes}

theorem fwLoad_runs {hwOk : Bool} (h : Starts s 0x0C01 sub payload e b) (ht : t = begun s dt 0x0C01 sub)
    (himg : img = (if e.p 0 0 2 = 0 then b else s.flash.fw.getD (e.p 0 0 2 - 1) [])) :
    exec (.fwLoad dt sub payload hwOk) s = .next (endStep dt s (
      if t.handover.isSome = true then t.finish sub (reply 0x0221)
      else if e.p 0 0 2 = 3 then t.finish sub (reply 0x0102)
      else if (s.pair s.standby).avail = false then t.finish sub (reply 0x0321)
      else if hwOk = false then t.finish sub (reply 0x0500)
      else if s.fwCheck img ≠ 0 then t.finish sub (reply (s.fwCheck img))
      else ({ t.mapPair s.standby (fun p => { p with image := img, loading := false }) with
        fw := { (t.mapPair s.standby (fun p => { p with image := img, loading := false })).fw with standbyOk := true } } : State).finish sub
        (reply 0 (le 4 (fwVersion img) ++ le 4 (fwSecVer img))))) := by
  subst ht
  have answers {u : State} {c : Completion} : bodyFwLoad hwOk e b (begun s dt 0x0C01 sub) = (u, some c) →
      exec (.fwLoad dt sub payload hwOk) s = .next (endStep dt s (u.finish sub c)) := runGcs_answers h
  have himage : (if e.p 0 0 2 = 0 then b else (begun s dt 0x0C01 sub).flash.fw.getD (e.p 0 0 2 - 1) []) = img := by
    rw [begun_flash, State.advance_flash, himg]
  split_ifs with hbusy hsrc havail hhw hcheck
  · exact answers (by simp [bodyFwLoad, hbusy])
  · exact answers (by simp [bodyFwLoad, hbusy, hsrc])
  · exact answers (by simp [bodyFwLoad, hbusy, hsrc, havail])
  · exact answers (by simp [bodyFwLoad, hbusy, hsrc, havail, hhw])
  · exact answers (by simp only [bodyFwLoad, himage]; simp [hbusy, hsrc, havail, hhw, hcheck])
  · exact answers (by simp only [bodyFwLoad, himage]; simp [hbusy, hsrc, havail, hhw, not_not.1 hcheck])

theorem fwHandover_runs {v : State} (h : Starts s 0x0C02 sub none e b) (ht : t = begun s dt 0x0C02 sub) (hv : v = (t.raise 0 8).post 0x1009 0 0 [0]) :
    exec (.fwHandover dt sub) s = .next (endStep dt s (
      if e.p 0 0 8 > 100 then t.finish sub (reply 0x0102)
      else if (s.pair s.standby).image.isEmpty = true then t.finish sub (reply 0x0322)
      else if fwSecVer (s.pair s.standby).image < s.otp.fwCtr then t.finish sub (reply 0x041A)
      else if (s.pair s.standby).avail = false ∨ s.fw.standbyOk = false then t.finish sub (reply 0x0321)
      else if t.handover.isSome = true then t.finish sub (reply 0x0221)
      else (({ v with fw := { v.fw with abandoned := 0 } } : State).mapCmd sub fun x =>
        { x with wait := .flash, since := s.now + dt, arg := ms (if e.p 0 0 8 = 0 then 10 else e.p 0 0 8) }).tryDrain)) := by
  subst ht
  have answers {u : State} {c : Completion} : bodyFwHandover e b (begun s dt 0x0C02 sub) = (u, some c) →
      exec (.fwHandover dt sub) s = .next (endStep dt s (u.finish sub c)) := runGcs_answers h
  generalize hdrain : (if e.p 0 0 8 = 0 then 10 else e.p 0 0 8) = drain
  split_ifs with hlate hnone hold havail hbusy
  · exact answers (by simp [bodyFwHandover, hlate])
  · exact answers (by simp only [bodyFwHandover, begun_pair, begun_standby, if_neg hlate, if_pos hnone])
  · exact answers (by simp [bodyFwHandover, hlate, hnone, hold])
  · exact answers (by simp [bodyFwHandover, hlate, hnone, hold, havail])
  · exact answers (by simp [bodyFwHandover, hlate, hnone, hold, havail, hbusy])
  · refine runGcs_waits (body := bodyFwHandover) h ?_
    simp [bodyFwHandover, hlate, hnone, hold, havail, hbusy, ← hv, starts_sub h, hdrain]

theorem State.tryDrain_of_waiting (hwait : s.waiting .flash = some e) : s.tryDrain = if s.flashLeft e.sub = true then s
    else ({ s with cmds := { s.cmds with paused := true } } : State).mapCmd e.sub fun x => { x with wait := .drain, since := s.now, arg := s.now + x.arg } := by
  simp only [State.tryDrain, hwait]

theorem fwCommit_runs {ok : Bool} {adv : Nat} (h : Starts s 0x0C04 sub none e b)
    (himg : img = (if s.fw.rom then (s.pair s.standby).image else (s.pair s.fw.active).image))
    (hadv : adv = (if e.p 0 0 1 = 1 then max s.otp.fwCtr (min (fwSecVer img) 64) else s.otp.fwCtr)) :
    exec (.fwCommit dt sub ok) s = .next (endStep dt s (
      if img.isEmpty = true then (begun s dt 0x0C04 sub).finish sub (reply 0x0322)
      else if ok = false then ({ begun s dt 0x0C04 sub with
        flash := { s.flash with fw := s.flash.fw.set s.commitSlot [] } } : State).finish sub (reply 0x0500)
      else ({ begun s dt 0x0C04 sub with
        flash := { s.flash with fw := updAt s.flash.fw s.commitSlot fun _ => withGen img (fwGen (s.flash.fw.getD (1 - s.commitSlot) []) + 1) }
        repair := { s.repair with mcNew := num img 0x14 4 }
        otp := { s.otp with fwCtr := adv } } : State).finish sub (reply 0))) := by
  have answers {u : State} {c : Completion} : bodyFwCommit ok e b (begun s dt 0x0C04 sub) = (u, some c) →
      exec (.fwCommit dt sub ok) s = .next (endStep dt s (u.finish sub c)) := runGcs_answers h
  split_ifs with hnone hflash
  · exact answers (by simp only [bodyFwCommit, begun_fw, State.advance_fw, begun_pair, begun_standby, ← himg, hnone, if_true])
  · exact answers (by simp only [bodyFwCommit, begun_fw, State.advance_fw, begun_pair, begun_standby, ← himg, hnone, hflash]; simp)
  · have hok : ok = true := by simpa using hflash
    refine answers ?_
    simp only [bodyFwCommit, begun_fw, State.advance_fw, begun_pair, begun_standby, ← himg, if_neg hnone, hok, Bool.not_true, Bool.false_eq_true, if_false, begun_commitSlot, begun_flash, begun_repair,
      begun_otp, State.advance_flash, State.advance_repair, State.advance_otp, hadv]
    split_ifs <;> rfl

end Firmware

/-- Settles O16. -/
theorem sessionAndFirmwareCommandsRun : Obligations.SessionAndFirmwareCommandsRun := by
  unfold Obligations.SessionAndFirmwareCommandsRun
  refine ⟨⟨fun s dt sub e b h => ⟨sessionChallenge_makesNonce h, fun a => sessionChallenge_lockedOut h⟩,
      fun s t dt sub payload e b good fails h ht hgood hfails => ?_, fun s t dt sub e b h ht => ⟨sessionClose_closes h ht, sessionClose_noChange h ht⟩⟩,
    fun s t dt sub payload hwOk e b img => fwLoad_runs, fun s t v dt sub e b => fwHandover_runs, fun s e => State.tryDrain_of_waiting,
    fun s dt sub ok e b img adv => fwCommit_runs⟩
  have hopens : good = opensSession s (s.now + dt) b := by rw [hgood, opensSession]; cases s.sess.nonce <;> rfl
  rw [hopens]
  exact sessionOpen_runs h ht hfails

end Sys2Proof.Machine

/-! The host's register accesses (R11 to R14, R334 to R354, R360, R366, R367). -/

namespace Sys2Proof.Machine

/-- A value below `2 ^ k` meets no mask of bits from `k` on. -/
theorem and_two_pow_mul_of_lt {v k : Nat} (c : Nat) (hv : v < 2 ^ k) : v &&& 2 ^ k * c = 0 := by
  refine Nat.eq_of_testBit_eq fun i => ?_
  rw [Nat.testBit_and, Nat.zero_testBit]
  obtain hi | hi := Nat.lt_or_ge i k
  · rw [Nat.testBit_two_pow_mul, decide_eq_false (by omega), Bool.false_and, Bool.and_false]
  · rw [Nat.testBit_lt_two_pow (hv.trans_le (Nat.pow_le_pow_right (by decide) hi)), Bool.false_and]

@[simp] theorem State.advance_func (s : State) (dt fn : Nat) : (s.advance dt).func fn = s.func fn := by simp [State.func]
@[simp] theorem State.advance_reached (s : State) (dt bar : Nat) : (s.advance dt).reached bar = s.reached bar := by simp [State.reached]

section Reached
variable {s : State} {dt bar v m : Nat} {f : State → State}

theorem runW_of_unreached (h : s.reached bar = false) (p : Bool) :
    runW dt s (s.reached bar && p) (fun t => if t.reached bar then f t else t) = .next (endStep dt s (s.advance dt)) := by
  rw [runW_clear _ _ _ _ (by rw [h, Bool.false_and])]
  simp [h]

theorem runW_of_reached (h : s.reached bar = true) (hv : v &&& m = 0) :
    runW dt s (s.reached bar && v &&& m != 0) (fun t => if t.reached bar then f t else t) = .next (endStep dt s (f (s.advance dt))) := by
  rw [runW_clear _ _ _ _ (by simp [hv])]
  simp [h]

theorem run_of_unreached (h : s.reached bar = false) :
    run dt s (fun t => if t.reached bar then f t else t) = .next (endStep dt s (s.advance dt)) := by
  simp [run, h]

theorem run_of_reached (h : s.reached bar = true) :
    run dt s (fun t => if t.reached bar then f t else t) = .next (endStep dt s (f (s.advance dt))) := by
  simp [run, h]

theorem run_hostR_of_unreached (h : s.reached bar = false) (ofs len : Nat) :
    run dt s (fun t => t.hostR bar ofs len) = .next (endStep dt s (s.advance dt)) := by
  simp [run, State.hostR, h]

theorem runW_hostW_of_unreached (h : s.reached bar = false) (ofs len : Nat) :
    runW dt s (s.writeReserved bar ofs len v) (fun t => t.hostW bar ofs len v) = .next (endStep dt s (s.advance dt)) := by
  rw [runW_clear _ _ _ _ (by rw [State.writeReserved, h, Bool.false_and])]
  simp [State.hostW, h]

end Reached

/-- An access that does not reach the device changes nothing (R332). -/
theorem unreached_changes_nothing {s a : State} {dt r v vec : Nat} (ha : a = s.advance dt) :
    (s.reached 0 = false → v < 256 → exec (.mbxDb dt v) s = .next (endStep dt s a) ∧ exec (.cmdTail dt r v) s = .next (endStep dt s a)
      ∧ exec (.cplHead dt r v) s = .next (endStep dt s a) ∧ exec (.snap dt) s = .next (endStep dt s a) ∧ exec (.msixUnmask dt 0 vec) s = .next (endStep dt s a)
      ∧ ∀ len, exec (.timeLo dt len) s = .next (endStep dt s a) ∧ (∀ ofs, exec (.counterLowRead dt ofs len) s = .next (endStep dt s a))
        ∧ ∀ deny, exec (.rcFieldRead dt deny len) s = .next (endStep dt s a))
    ∧ (s.reached 1 = false → exec (.cmdRingControlWrite dt r v) s = .next (endStep dt s a))
    ∧ (s.reached 2 = false → exec (.streamRingControlWrite dt r v) s = .next (endStep dt s a) ∧ exec (.consLo dt r v) s = .next (endStep dt s a)
      ∧ (∀ len, exec (.prodLo dt r len) s = .next (endStep dt s a)) ∧ exec (.msixUnmask dt 1 vec) s = .next (endStep dt s a))
    ∧ ∀ bar ofs len, s.reached bar = false → exec (.registerWrite dt bar ofs len v) s = .next (endStep dt s a) := by
  subst ha
  refine ⟨fun h _ => ⟨runW_of_unreached h _, runW_of_unreached h _, runW_of_unreached h _,
      run_of_unreached (f := fun t => t.privAccess State.snapAll) h,
      run_of_unreached (f := fun t => t.unmask 0 vec) h,
      fun len => ⟨run_hostR_of_unreached h _ _, fun ofs => run_hostR_of_unreached h _ _, fun deny => run_hostR_of_unreached h _ _⟩⟩,
    fun h => runW_of_unreached h _,
    fun h => ⟨runW_of_unreached h _, run_of_unreached (f := fun t => t.consLoW r v) h, fun len => run_hostR_of_unreached h _ _, run_of_unreached (f := fun t => t.unmask 1 vec) h⟩,
    fun bar ofs len h => runW_hostW_of_unreached h ofs len⟩

end Sys2Proof.Machine

/-! What each register access that reaches the device does (R334 to R354, R366, R367). -/

namespace Sys2Proof.Machine

section Doorbells
variable {s a : State} {dt r v : Nat}

theorem mbxDb_reached (h : s.reached 0 = true) (hv : v < 256) : exec (.mbxDb dt v) s = .next (endStep dt s ((s.advance dt).mbxDb v)) :=
  runW_of_reached (f := fun t => t.mbxDb v) h (and_two_pow_mul_of_lt (k := 8) 0xFFFFFF hv)

theorem cmdTail_reached (h : s.reached 0 = true) (hv : v < 4096) : exec (.cmdTail dt r v) s = .next (endStep dt s ((s.advance dt).cmdTailW r v)) :=
  runW_of_reached (f := fun t => t.cmdTailW r v) h (and_two_pow_mul_of_lt (k := 12) 0xFFFFF hv)

theorem cplHead_reached (h : s.reached 0 = true) (hv : v < 4096) : exec (.cplHead dt r v) s = .next (endStep dt s ((s.advance dt).cplHeadW r v)) :=
  runW_of_reached (f := fun t => t.cplHeadW r v) h (and_two_pow_mul_of_lt (k := 12) 0xFFFFF hv)

theorem cmdRingControlWrite_reached (h : s.reached 1 = true) (hv : v < 64) :
    exec (.cmdRingControlWrite dt r v) s = .next (endStep dt s ((s.advance dt).cmdRingCtl r v)) :=
  runW_of_reached (f := fun t => t.cmdRingCtl r v) h (and_two_pow_mul_of_lt (k := 6) 0x3FFFFFF hv)

theorem streamRingControlWrite_reached (h : s.reached 2 = true) (hv : v < 0x20000000) :
    exec (.streamRingControlWrite dt r v) s = .next (endStep dt s ((s.advance dt).streamRingCtl r v)) :=
  runW_of_reached (f := fun t => t.streamRingCtl r v) h (and_two_pow_mul_of_lt (k := 29) 7 hv)

theorem mbxDb_runs {l : List Nat} (h : s.reached 0 = true) (hv : v < 256) (ha : a = s.advance dt)
    (hl : l = (bitsOf 8 v).filter (fun k => !(s.cmds.busy.getLsbD k))) :
    exec (.mbxDb dt v) s = .next (endStep dt s (if s.dev.mbxReady = false then a
      else (({ a with cmds := { s.cmds with
        busy := l.foldl (fun b k => setBit8 b k true) s.cmds.busy, queuedSlots := s.cmds.queuedSlots ++ l } } : State).admitSlots 8).rejectUnknown)) := by
  subst ha hl
  rw [mbxDb_reached h hv, State.mbxDb, State.advance_dev, State.advance_cmds]
  cases s.dev.mbxReady <;> rfl

/-- A doorbell of a ring is refused where EN is 0 and was not cleared in this cycle (R341). -/
theorem State.doorOpen_eq_false_iff {q : CmdRing} : a.doorOpen q = false ↔ q.en = false ∧ q.offAt ≠ a.cycle := by
  simp [State.doorOpen]

theorem cmdTail_runs {n : Nat} {q : CmdRing} (h : s.reached 0 = true) (hv : v < 4096) (ha : a = s.advance dt) (hq : q = s.cmds.rings.getD r {})
    (hn : n = 2 ^ q.sizeLog2) :
    exec (.cmdTail dt r v) s = .next (endStep dt s (
      if q.en = false ∧ q.offAt ≠ a.cycle then a
      else if v ≥ n then (a.mapCmdRing r fun q => { q with dbErr := true }).mark (keyDbErr r)
      else a.mapCmdRing r fun q => { q with cqTail := v })) := by
  subst ha hn
  rw [cmdTail_reached h hv, State.cmdTailW, State.advance_cmds, ← hq]
  simp only [Bool.not_eq_true', State.doorOpen_eq_false_iff]
  rfl

theorem cplHead_runs {n : Nat} {q : CmdRing} (h : s.reached 0 = true) (hv : v < 4096) (ha : a = s.advance dt) (hq : q = s.cmds.rings.getD r {})
    (hn : n = 2 ^ q.sizeLog2) :
    exec (.cplHead dt r v) s = .next (endStep dt s (
      if q.en = false ∧ q.offAt ≠ a.cycle then a
      else if v ≥ n ∨ (v + n - q.cplHead) % n > (q.cplTail + n - q.cplHead) % n then (a.mapCmdRing r fun q => { q with dbErr := true }).mark (keyDbErr r)
      else a.mapCmdRing r fun q => { q with cplHead := v })) := by
  subst ha hn
  rw [cplHead_reached h hv, State.cplHeadW, State.advance_cmds, ← hq]
  simp only [Bool.not_eq_true', State.doorOpen_eq_false_iff, Bool.or_eq_true, decide_eq_true_eq]
  rfl

end Doorbells

section RingControl
variable {s a : State} {dt r v : Nat}

@[simp] theorem State.advance_ringStopped (s : State) (dt r : Nat) : (s.advance dt).ringStopped r = s.ringStopped r := by
  simp [State.ringStopped, State.ringInflight]

theorem cmdRingControlWrite_runs {q : CmdRing} (h : s.reached 1 = true) (hv : v < 64) (ha : a = s.advance dt) (hq : q = s.cmds.rings.getD r {}) :
    exec (.cmdRingControlWrite dt r v) s = .next (endStep dt s (
      if v % 16 ≠ q.sizeLog2 ∧ (s.ringStopped r = false ∨ v % 16 < 4 ∨ 12 < v % 16) then a.refuse 1 (r * 0x10000 + 0x10)
      else a.mapCmdRing r fun q =>
        { (if v % 16 ≠ q.sizeLog2 then q.rewind else q) with
          sizeLog2 := v % 16, en := bit v 4, vecEn := bit v 5, offAt := if q.en = true ∧ bit v 4 = false then a.cycle else q.offAt })) := by
  subst ha
  have hrefused : (v % 16 != q.sizeLog2 && (!s.ringStopped r || decide (v % 16 < 4) || decide (v % 16 > 12))) = true
      ↔ v % 16 ≠ q.sizeLog2 ∧ (s.ringStopped r = false ∨ v % 16 < 4 ∨ 12 < v % 16) := by simp [or_assoc]
  rw [cmdRingControlWrite_reached h hv, State.cmdRingCtl, State.advance_cmds, ← hq, State.advance_ringStopped]
  simp only [hrefused]
  split_ifs
  · rfl
  · refine congrArg (fun f => Host.Outcome.next (endStep dt s ((s.advance dt).mapCmdRing r f))) (funext fun q => ?_)
    by_cases hsize : v % 16 = q.sizeLog2 <;> simp [hsize, CmdRing.rewind]

theorem streamRingControlWrite_runs {t : State} {q : StreamRing} (h : s.reached 2 = true) (hv : v < 0x20000000) (ha : a = s.advance dt)
    (hq : q = s.srings.get r) (ht : t = a.mapRing r (fun q => { q with
        sizeLog2 := v % 32, vecEn := bit v 6, discardHeld := bit v 7, typeMask := BitVec.ofNat 8 (bits v 8 8), coalesce := bits v 16 8
        batchLog2 := bits v 24 5, en := bit v 5, held := if q.en && !(bit v 5) then q.batch ++ q.held else q.held
        batch := if q.en && !(bit v 5) then [] else q.batch, full := q.full && bit v 5 })) :
    exec (.streamRingControlWrite dt r v) s = .next (endStep dt s (
      if v % 32 < 16 ∨ 30 < v % 32 ∨ 128 < bits v 16 8 ∨ bits v 24 5 < 12 ∨ 20 < bits v 24 5
        ∨ (q.en = true ∧ ¬(v % 32 = q.sizeLog2 ∧ bits v 8 8 = q.typeMask.toNat ∧ bits v 16 8 = q.coalesce ∧ bits v 24 5 = q.batchLog2))
      then a.refuse 2 (r * 0x100 + 8)
      else if bit v 5 = true ∧ q.en = false then t.ringEnable r else t)) := by
  subst ha ht
  have hrefused : (decide (v % 32 < 16) || decide (v % 32 > 30) || decide (bits v 16 8 > 128) || decide (bits v 24 5 < 12) || decide (bits v 24 5 > 20)
        || (q.en && !(v % 32 == q.sizeLog2 && bits v 8 8 == q.typeMask.toNat && bits v 16 8 == q.coalesce && bits v 24 5 == q.batchLog2))) = true
      ↔ v % 32 < 16 ∨ 30 < v % 32 ∨ 128 < bits v 16 8 ∨ bits v 24 5 < 12 ∨ 20 < bits v 24 5
        ∨ (q.en = true ∧ ¬(v % 32 = q.sizeLog2 ∧ bits v 8 8 = q.typeMask.toNat ∧ bits v 16 8 = q.coalesce ∧ bits v 24 5 = q.batchLog2)) := by
    simp only [Bool.or_eq_true, Bool.and_eq_true, decide_eq_true_eq, or_assoc, gt_iff_lt, Bool.not_eq_true', ← Bool.not_eq_true, beq_iff_eq, and_assoc]
  rw [streamRingControlWrite_reached h hv, State.streamRingCtl, State.advance_srings, ← hq]
  simp only [hrefused, Bool.and_eq_true, Bool.not_eq_true']

@[simp] theorem State.advance_ringsTurn (s : State) (dt r : Nat) : (s.advance dt).ringsTurn r = s.ringsTurn r := by
  obtain ⟨units, clk, re, cnt, l, hadv⟩ := s.advance_only dt
  rw [hadv]
  rfl

theorem commandFetch_fails {u : State} (ha : a = s.advance dt) (hu : u = { a with cmds := { s.cmds with turn := (r + 1) % 4 } }) :
    exec (.commandFetch dt r none) s = .next (endStep dt s (if s.ringsTurn r = true
      then (u.mapCmdRing r fun q => { q with fetchErr := true, en := false }).mark (keyFetchErr r) else a)) := by
  subst ha hu
  change run dt s (fun t => t.fetched r none) = _
  rw [run, State.fetched, State.advance_ringsTurn, State.advance_cmds]
  cases s.ringsTurn r <;> rfl

theorem commandFetch_submits {u : State} (ha : a = s.advance dt) (hu : u = { a with cmds := { s.cmds with turn := (r + 1) % 4 } }) (l : List Bytes) :
    exec (.commandFetch dt r (some l)) s = .next (endStep dt s (if s.ringsTurn r = true
      then ((u.mapCmdRing r fun q => { q with cqHead := (q.cqHead + (l.take (s.fetchRoom r)).length) % 2 ^ q.sizeLog2 }).submitFetch r
        (l.take (s.fetchRoom r))).rejectUnknown else a)) := by
  subst ha hu
  have hroom : ({ s.advance dt with cmds := { s.cmds with turn := (r + 1) % 4 } } : State).fetchRoom r = s.fetchRoom r := by
    simp [State.fetchRoom, State.ringInflight]
  change run dt s (fun t => t.fetched r (some l)) = _
  rw [run, State.fetched, State.advance_ringsTurn, State.advance_cmds]
  simp only [hroom]
  cases s.ringsTurn r <;> rfl

end RingControl
end Sys2Proof.Machine

/-! Reads with a side effect, CONS, unmask and register writes (R11, R13, R334, R335, R346, R352, R354). -/

namespace Sys2Proof.Machine

section HostReads
variable {a : State} {bar ofs len : Nat} (h : a.reached bar = true)
include h

/-- A read of 4 aligned bytes gives the register's value and has its effect (R334). -/
theorem State.hostR_four (hofs : ofs % 4 = 0) : a.hostR bar ofs 4 = (a.readEffect bar ofs).emit .read bar ofs (le 4 (a.readValue bar ofs)) := by
  simp [State.hostR, h, hofs]

/-- A read of 8 aligned bytes reads the lower register and then the upper one (R334). -/
theorem State.hostR_eight (hofs : ofs % 8 = 0) : a.hostR bar ofs 8
    = ((a.readEffect bar ofs).readEffect bar (ofs + 4)).emit .read bar ofs
        (le 4 (a.readValue bar ofs) ++ le 4 ((a.readEffect bar ofs).readValue bar (ofs + 4))) := by
  simp [State.hostR, h, hofs]

end HostReads

section Registers
variable {a : State}

/-- The low word of a counter latches its high word, inside a session (R354). -/
theorem State.readEffect_counterLow {i : Nat} (hi : i < 512) (hopen : a.priv.opened = true) : a.readEffect 0 (0x101000 + 8 * i)
    = { a with priv := { a.priv with
        lastUse := a.now, cntHi := a.priv.cntHi.set i (BitVec.ofNat 32 ((a.priv.cnt.get i).toNat / 2 ^ 32)) } } := by
  have hindex : (0x101000 + 8 * i - 0x101000) / 8 = i := by omega
  rw [State.readEffect, if_neg (by simp; omega), if_neg (by simp; omega), if_neg (by simp; omega), if_pos (by simp; omega), State.privAccess, if_pos hopen,
    if_pos (by simp; omega), hindex]

theorem State.readValue_counterLow {i : Nat} (hi : i < 512) (hopen : a.priv.opened = true) :
    a.readValue 0 (0x101000 + 8 * i) = (a.priv.cnt.get i).toNat % 2 ^ 32 := by
  have hindex : (0x101000 + 8 * i - 0x101000) / 8 = i := by omega
  rw [State.readValue, if_neg (by simp; omega), if_neg (by simp; omega)]
  simp only [State.readReg]
  rw [if_neg (by omega), if_pos (by simp; omega), if_pos hopen]
  unfold State.readPriv
  rw [if_neg (by simp; omega), if_neg (by simp; omega), if_neg (by simp; omega), if_neg (by simp; omega), if_pos (by simp; omega), hindex,
    if_pos (by omega)]

theorem State.readEffect_prodLo {r : Nat} (hr : r < 32) : a.readEffect 2 (r * 0x100 + 0x20)
    = a.mapRing r (fun q => { q with prodHi := BitVec.ofNat 32 (q.prod.toNat / 2 ^ 32) }) := by
  have hindex : (r * 0x100 + 0x20) / 0x100 = r := by omega
  rw [State.readEffect, if_neg (by simp), if_neg (by simp), if_neg (by simp), if_neg (by simp), if_pos (by simp; omega), hindex]

theorem State.readEffect_prodHi (r : Nat) : a.readEffect 2 (r * 0x100 + 0x20 + 4) = a := by
  rw [State.readEffect, if_neg (by simp), if_neg (by simp), if_neg (by simp), if_neg (by simp), if_neg (by simp; omega)]

theorem State.readPf1_prodLo {r : Nat} (hr : r < 32) : a.readPf1 (r * 0x100 + 0x20) = (a.srings.get r).prod.toNat % 2 ^ 32 := by
  have hindex : (r * 0x100 + 0x20) / 0x100 = r := by omega
  have hreg : (r * 0x100 + 0x20) % 0x100 = 0x20 := by omega
  unfold State.readPf1
  rw [if_neg (by simp; omega), if_neg (by omega), if_neg (by omega), if_neg (by omega), if_neg (by omega), hindex, hreg]
  rfl

theorem State.readPf1_prodHi {r : Nat} (hr : r < 32) : a.readPf1 (r * 0x100 + 0x20 + 4) = (a.srings.get r).prodHi.toNat := by
  have hindex : (r * 0x100 + 0x20 + 4) / 0x100 = r := by omega
  have hreg : (r * 0x100 + 0x20 + 4) % 0x100 = 0x24 := by omega
  unfold State.readPf1
  rw [if_neg (by simp; omega), if_neg (by omega), if_neg (by omega), if_neg (by omega), if_neg (by omega), hindex, hreg]
  rfl

end Registers

section PrivPageReads
variable {s a : State} {dt : Nat} (h : s.reached 0 = true) (ha : a = s.advance dt)
include h ha

theorem timeLo_four {t : State} (ht : t = { a with pf0 := { s.pf0 with timeHi := BitVec.ofNat 32 (a.deviceTime.toNat / 2 ^ 32) } }) :
    exec (.timeLo dt 4) s = .next (endStep dt s (t.emit .read 0 0x68 (le 4 (a.deviceTime.toNat % 2 ^ 32)))) := by
  subst ha ht
  change run dt s (fun t => t.hostR 0 0x68 4) = _
  rw [run, State.hostR_four (by simpa using h) rfl, ← State.advance_pf0 s dt]
  rfl

theorem timeLo_eight {t : State} (ht : t = { a with pf0 := { s.pf0 with timeHi := BitVec.ofNat 32 (a.deviceTime.toNat / 2 ^ 32) } }) :
    exec (.timeLo dt 8) s = .next (endStep dt s (t.emit .read 0 0x68 (le 4 (a.deviceTime.toNat % 2 ^ 32) ++ le 4 t.pf0.timeHi.toNat))) := by
  subst ha ht
  change run dt s (fun t => t.hostR 0 0x68 8) = _
  rw [run, State.hostR_eight (by simpa using h) rfl, ← State.advance_pf0 s dt]
  rfl

theorem timeLo_other {len : Nat} (h4 : len ≠ 4) (h8 : len ≠ 8) :
    exec (.timeLo dt len) s = .next (endStep dt s (a.emit .read 0 0x68 (le len 0))) := by
  subst ha
  change run dt s (fun t => t.hostR 0 0x68 len) = _
  simp [run, State.hostR, h, h4, h8]

theorem rcFieldRead_wwa : exec (.rcFieldRead dt false 4) s
    = .next (endStep dt s (({ a with pf0 := { s.pf0 with wwaCnt := BitVec.ofNat 16 a.wwaKept } } : State).emit .read 0 0x5C
        (le 4 (pack [(0, b2n s.pf0.wwa), (16, s.pf0.wwaCnt.toNat)] - a.wwaKept * 0x10000)))) := by
  subst ha
  change run dt s (fun t => t.hostR 0 0x5C 4) = _
  rw [run, State.hostR_four (by simpa using h) rfl, ← State.advance_pf0 s dt]
  rfl

theorem rcFieldRead_deny : exec (.rcFieldRead dt true 4) s
    = .next (endStep dt s (({ a with priv := { a.priv with denyCnt := BitVec.ofNat 16 a.denyKept } } : State).emit
        .read 0 0x100000 (le 4 (pack [(0, b2n a.priv.opened), (16, a.priv.denyCnt.toNat)] - a.denyKept * 0x10000)))) := by
  subst ha
  change run dt s (fun t => t.hostR 0 0x100000 4) = _
  rw [run, State.hostR_four (by simpa using h) rfl]
  rfl

theorem counterLowRead_opened {i : Nat} (hi : i < 512) (hopen : a.priv.opened = true) :
    exec (.counterLowRead dt (0x1000 + 8 * i) 4) s = .next (endStep dt s (({ a with priv := { a.priv with
      lastUse := s.now + dt, cntHi := a.priv.cntHi.set i (BitVec.ofNat 32 ((a.priv.cnt.get i).toNat / 2 ^ 32)) } } : State).emit
        .read 0 (0x101000 + 8 * i) (le 4 ((a.priv.cnt.get i).toNat % 2 ^ 32)))) := by
  have hofs : 0x100000 + (0x1000 + 8 * i) % 0x100000 = 0x101000 + 8 * i := by omega
  subst ha
  change run dt s (fun t => t.hostR 0 (0x100000 + (0x1000 + 8 * i) % 0x100000) 4) = _
  rw [hofs, run, State.hostR_four (by simpa using h) (by omega), State.readEffect_counterLow hi hopen, State.readValue_counterLow hi hopen,
    State.advance_now]

theorem counterLowRead_closed {i : Nat} (hi : i < 512) (hclosed : a.priv.opened = false) :
    exec (.counterLowRead dt (0x1000 + 8 * i) 4) s = .next (endStep dt s (a.deny.emit .read 0 (0x101000 + 8 * i) (le 4 0))) := by
  have hofs : 0x100000 + (0x1000 + 8 * i) % 0x100000 = 0x101000 + 8 * i := by omega
  subst ha
  change run dt s (fun t => t.hostR 0 (0x100000 + (0x1000 + 8 * i) % 0x100000) 4) = _
  rw [hofs, run, State.hostR_four (by simpa using h) (by omega), State.readEffect_privPage hclosed (by omega) (by omega),
    State.readValue_privPage hclosed (by omega) (by omega)]

theorem snap_runs : exec (.snap dt) s = .next (endStep dt s (if a.priv.opened = true
    then { a with priv := { a.priv with lastUse := s.now + dt, shd := a.priv.cnt } } else a.deny)) := by
  subst ha
  change run dt s (fun t => if t.reached 0 then t.privAccess State.snapAll else t) = _
  rw [run_of_reached (f := fun t => t.privAccess State.snapAll) h, State.privAccess, State.advance_now]
  rfl

end PrivPageReads

section StreamReads
variable {s a t : State} {dt r : Nat} (h : s.reached 2 = true) (hr : r < 32) (ha : a = s.advance dt)
  (ht : t = a.mapRing r (fun q => { q with prodHi := BitVec.ofNat 32 (q.prod.toNat / 2 ^ 32) }))
include h hr ha ht

theorem prodLo_four : exec (.prodLo dt r 4) s
    = .next (endStep dt s (t.emit .read 2 (r * 0x100 + 0x20) (le 4 ((s.srings.get r).prod.toNat % 2 ^ 32)))) := by
  subst ha ht
  change run dt s (fun t => t.hostR 2 (r * 0x100 + 0x20) 4) = _
  rw [run, State.hostR_four (by simpa using h) (by omega), State.readEffect_prodLo hr]
  rw [← State.advance_srings s dt, ← State.readPf1_prodLo hr]
  rfl

theorem prodLo_eight : exec (.prodLo dt r 8) s = .next (endStep dt s (t.emit .read 2 (r * 0x100 + 0x20)
    (le 4 ((s.srings.get r).prod.toNat % 2 ^ 32) ++ le 4 (t.srings.get r).prodHi.toNat))) := by
  subst ha ht
  change run dt s (fun t => t.hostR 2 (r * 0x100 + 0x20) 8) = _
  rw [run, State.hostR_eight (by simpa using h) (by omega), State.readEffect_prodLo hr, State.readEffect_prodHi, ← State.readPf1_prodHi hr,
    ← State.advance_srings s dt, ← State.readPf1_prodLo hr]
  rfl

end StreamReads

section Writes
variable {s a : State} {dt : Nat}

theorem consLo_runs {t : State} {r v : Nat} {n : DWord} (h : s.reached 2 = true) (ha : a = s.advance dt)
    (ht : t = a.mapRing r (fun q => { q with consLo := BitVec.ofNat 32 v })) (hn : n = BitVec.ofNat 64 ((s.srings.get r).consHi.toNat * 2 ^ 32 + v)) :
    exec (.consLo dt r v) s = .next (endStep dt s (if n < (s.srings.get r).cons ∨ (s.srings.get r).prod < n
      then (t.mapRing r fun q => { q with consErr := true }).mark (keyConsErr r)
      else ((t.mapRing r fun q => { q with cons := n }).serveRing r).updFull r)) := by
  subst ha ht hn
  change run dt s (fun t => if t.reached 2 then t.consLoW r v else t) = _
  rw [run_of_reached (f := fun t => t.consLoW r v) h, State.consLoW, State.advance_srings]
  simp only [Bool.or_eq_true, decide_eq_true_eq]

theorem msixUnmask_runs {fn : Nat} (vec : Nat) (h : s.reached (if fn = 0 then 0 else 2) = true) (ha : a = s.advance dt) :
    exec (.msixUnmask dt fn vec) s = .next (endStep dt s ((a.mapFn fn fun f =>
      { f with msix := { f.msix with masked := f.msix.masked.set vec false } }).sendPending fn)) := by
  subst ha
  exact run_of_reached (f := fun t => t.unmask fn vec) h

section RegisterWrite
variable {bar ofs len val : Nat} (h : s.reached bar = true) (hres : s.writeReserved bar ofs len val = false) (ha : a = s.advance dt)
include hres ha

theorem registerWrite_hostW : exec (.registerWrite dt bar ofs len val) s = .next (endStep dt s (a.hostW bar ofs len val)) := by
  subst ha
  exact runW_clear dt s _ _ hres

include h

theorem registerWrite_four (hlen : len = 4) (hofs : ofs % 4 = 0) :
    exec (.registerWrite dt bar ofs len val) s = .next (endStep dt s (a.write32 bar ofs (val % 2 ^ 32))) := by
  rw [registerWrite_hostW hres ha, ha]
  simp [State.hostW, h, hlen, hofs]

theorem registerWrite_eight (hlen : len = 8) (hofs : ofs % 8 = 0) : exec (.registerWrite dt bar ofs len val) s
    = .next (endStep dt s ((a.write32 bar ofs (val % 2 ^ 32)).write32 bar (ofs + 4) (val / 2 ^ 32 % 2 ^ 32))) := by
  rw [registerWrite_hostW hres ha, ha]
  simp [State.hostW, h, hlen, hofs]

theorem registerWrite_other (h4 : len ≠ 4) (h8 : len ≠ 8) (hbar : bar = 1 ∨ bar = 2) :
    exec (.registerWrite dt bar ofs len val) s = .next (endStep dt s a) := by
  rw [registerWrite_hostW hres ha, ha]
  obtain rfl | rfl := hbar <;> simp [State.hostW, h, h4, h8]

end RegisterWrite
end Writes

/-- Settles O17. -/
theorem registerAccessesRun : Obligations.RegisterAccessesRun := by
  unfold Obligations.RegisterAccessesRun
  exact ⟨fun s a dt r v vec => unreached_changes_nothing, fun s a dt v l => mbxDb_runs,
    fun s a dt r v n q h hv ha hq hn => ⟨cmdTail_runs h hv ha hq hn, cplHead_runs h hv ha hq hn⟩,
    fun s a dt r v q => cmdRingControlWrite_runs, fun s a t dt r v q => streamRingControlWrite_runs,
    fun s a u dt r ha hu => ⟨commandFetch_fails ha hu, commandFetch_submits ha hu⟩,
    fun s a t dt h ha ht => ⟨timeLo_four h ha ht, timeLo_eight h ha ht, fun len => timeLo_other h ha, rcFieldRead_wwa h ha, rcFieldRead_deny h ha,
      fun ofs len => ha ▸ rfl, fun i => counterLowRead_opened h ha, fun i => counterLowRead_closed h ha, snap_runs h ha⟩,
    fun s a t dt r h hr ha ht => ⟨prodLo_four h hr ha ht, prodLo_eight h hr ha ht⟩, fun s a t dt r v n => consLo_runs,
    fun s a dt fn vec => msixUnmask_runs vec,
    fun s a dt bar ofs len val h hres ha => ⟨registerWrite_four h hres ha, registerWrite_eight h hres ha, registerWrite_other h hres ha⟩⟩

end Sys2Proof.Machine

/-! The Baler's jobs (R445 to R447). -/

namespace Sys2Proof.Machine

section BalerCommands
variable {s u : State} {dt sub : Nat} {payload src : Option Bytes} {e : InFlight} {b d : Bytes}

theorem balerJob_runs {j : BalerJob} (h : Starts s 0x0803 sub payload e b) (hu : u = begun s dt 0x0803 sub) (hd : d = fit 64 b) (hj : j = { desc := d }) :
    exec (.balerJob dt sub payload src) s = .next (endStep dt s (
      if jobOk d s.scratchSize = false then u.finish sub (reply 0x0102)
      else if jDst d = 4 ∧ s.isAQ = true then u.finish sub (reply 0x0302)
      else if jDst d = 4 ∧ s.recd.st ≠ .running then u.finish sub (reply 0x0200)
      else match u.jobInput j src with
        | none => u.finish sub (reply 0x0104)
        | some inp =>
          match u.jobEnd sub true (u.jobRun (if jSrc d = 1 ∨ jDst d ≤ 1 then j else { j with input := inp, base := 0 }) inp) with
          | (t, some c) => t.finish sub c
          | (t, none) => t)) := by
  have hsize : u.scratchSize = s.scratchSize := by
    obtain ⟨units, clk, re, c, p, hbegun⟩ := begun_only s dt 0x0803 sub
    rw [hu, hbegun]
    rfl
  have haq : u.isAQ = s.isAQ := hu ▸ begun_isAQ s dt 0x0803 sub
  have hrecd : u.recd = s.recd := by rw [hu, begun_recd, State.advance_recd]
  have hfused : (decide (jDst d = 4) && s.isAQ) = true ↔ jDst d = 4 ∧ s.isAQ = true := by simp
  have hidle : (decide (jDst d = 4) && !(s.recd.st == .running)) = true ↔ jDst d = 4 ∧ s.recd.st ≠ .running := by simp
  change run dt s (fun t => t.gcs 0x0803 sub payload (bodyBalerJob src)) = _
  rw [run, State.gcs_starts h, ← hu]
  simp only [bodyBalerJob, ← hd, ← hj, hsize, haq, hrecd, hfused, hidle, Bool.not_eq_true', Bool.or_eq_true, decide_eq_true_eq, starts_sub h]
  split_ifs with hok
  · rfl
  · rfl
  · rfl
  all_goals
    cases u.jobInput j src with
    | none => rfl
    | some inp =>
      subst hj
      rfl

theorem balerResume_runs (h : Starts s 0x0804 sub none e b) (hu : u = begun s dt 0x0804 sub) :
    exec (.balerResume dt sub src) s = .next (endStep dt s (
      if e.p64 0 / 2 ^ 32 ≠ 2 ^ 32 - 1 - e.p64 0 % 2 ^ 32 then (u.integrityFault 10).finish sub (reply 0x0102)
      else match s.baler.saved.get (e.p64 0 % 256) with
        | none => u.finish sub (reply 0x0102)
        | some j =>
          if e.p64 0 ≠ tokenOf (e.p64 0 % 256) j.gen ∨ j.stopAt + sec 60 ≤ s.now + dt then u.finish sub (reply 0x0102)
          else if jDst j.desc = 4 ∧ s.recd.st ≠ .running then u.finish sub (reply 0x0200)
          else match u.jobInput j src with
            | none => u.finish sub (reply 0x0104)
            | some inp =>
              let v : State := { u with baler := { s.baler with saved := s.baler.saved.set (e.p64 0 % 256) none } }
              match v.jobEnd sub false (v.jobRun (if jSrc j.desc = 1 ∨ jDst j.desc ≤ 1 then j else { j with input := inp, base := j.bytesIn }) inp) with
              | (t, some c) => t.finish sub c
              | (t, none) => t)) := by
  have hbaler : u.baler = s.baler := by rw [hu, begun_baler, State.advance_baler]
  have hrecd : u.recd = s.recd := by rw [hu, begun_recd, State.advance_recd]
  have hnow : u.now = s.now + dt := by rw [hu, begun_now, State.advance_now]
  change run dt s (fun t => t.gcs 0x0804 sub none (bodyBalerResume src)) = _
  rw [run, State.gcs_starts h, ← hu]
  simp only [bodyBalerResume, hbaler, hrecd, hnow, bne_iff_ne, Bool.or_eq_true, Bool.and_eq_true, decide_eq_true_eq, Bool.not_eq_true',
    beq_eq_false_iff_ne, ge_iff_le, starts_sub h]
  by_cases hbad : e.p64 0 / 2 ^ 32 ≠ 2 ^ 32 - 1 - e.p64 0 % 2 ^ 32
  · rw [if_pos hbad, if_pos hbad]
  · rw [if_neg hbad, if_neg hbad]
    cases s.baler.saved.get (e.p64 0 % 256) with
    | none => rfl
    | some j =>
      dsimp only
      split_ifs
      · rfl
      · rfl
      all_goals cases u.jobInput j src <;> rfl

end BalerCommands

section JobEnds
variable {s t : State} {sub : Nat} {first : Bool} {j : BalerJob}

theorem State.jobEnd_done : s.jobEnd sub first (t, j, 0) = (t, some { status := 0, result := jobResult j 0 }) := rfl

theorem State.jobEnd_full : s.jobEnd sub first (t, j, 2) = ((t.jobPartial j).1, some (t.jobPartial j).2) := rfl

/-- Input that ends within a block: an error for a job that has taken nothing yet. -/
theorem State.jobEnd_short : s.jobEnd sub first (t, j, 1) = if first = true ∧ j.bytesIn = 0
    then (s, some (reply (if jDir j.desc = 1 then 0x0420 else 0x0330))) else (t, some { status := 0, result := jobResult j 0 }) := by
  cases first <;> simp [State.jobEnd]

theorem State.jobEnd_waits : (s.jobEnd sub first (t, j, 3)).2 = none ∧ (sub, j) ∈ (s.jobEnd sub first (t, j, 3)).1.baler.running :=
  ⟨rfl, List.mem_append_right _ (List.mem_singleton_self _)⟩

end JobEnds

section JobTimers
variable {s a u : State} {dt sub slot : Nat} {j : BalerJob}

theorem balerTokenExpiry_ends (hj : s.baler.saved.get slot = some j) (hover : j.stopAt + sec 60 ≤ s.now + dt) :
    exec (.balerTokenExpiry dt slot) s = .next (endStep dt s { s.advance dt with
      baler := { s.baler with saved := s.baler.saved.set slot none } }) := by
  change execBalerTokenExpiry dt slot s = _
  simp [execBalerTokenExpiry, run, hj, hover]

theorem balerTokenExpiry_early (hj : s.baler.saved.get slot = some j) (hearly : s.now + dt < j.stopAt + sec 60) :
    exec (.balerTokenExpiry dt slot) s = .next (endStep dt s (s.advance dt)) := by
  change execBalerTokenExpiry dt slot s = _
  simp [execBalerTokenExpiry, run, hj, Nat.not_le.2 hearly]

theorem balerDestStall_none (h : s.holdUp = true) (hnone : s.baler.running.find? (fun p => p.1 == sub) = none) :
    exec (.balerDestStall dt sub) s = .next (endStep dt s (s.advance dt)) := by
  change execBalerDestStall dt sub s = _
  rw [execBalerDestStall, runUp_up _ _ _ h]
  simp [hnone]

theorem balerDestStall_runs {e : InFlight} {rest : Bytes} (h : s.holdUp = true) (hj : s.baler.running.find? (fun p => p.1 == sub) = some (sub, j))
    (he : s.cmds.inflight.find? (fun e => e.sub == sub && e.done.isNone && e.wait == .baler) = some e) (hsrc : jSrc j.desc ≠ 1)
    (hrest : rest = j.input.drop (128 * (j.bytesIn - j.base))) (ha : a = s.advance dt)
    (hu : u = { a with baler := { s.baler with running := s.baler.running.filter fun x => x.1 != sub } }) :
    exec (.balerDestStall dt sub) s = .next (endStep dt s (
      if (u.jobRun j rest).2.2 = 3 ∧ (u.jobRun j rest).2.1.bytesOut = j.bytesOut ∧ (u.jobRun j rest).2.1.tail.length = j.tail.length
      then (if e.since + ms 10 ≤ s.now + dt then a.stopJob sub else a)
      else match u.jobEnd sub false (u.jobRun j rest) with
        | (t, some c) => t.finish sub c
        | (t, none) => t)) := by
  subst ha hrest
  rw [← State.advance_baler s dt] at hj hu
  rw [← State.advance_cmds s dt] at he
  change execBalerDestStall dt sub s = _
  rw [execBalerDestStall, runUp_up _ _ _ h]
  simp only [hj, he, if_neg hsrc, ← hu]
  simp only [Bool.and_eq_true, decide_eq_true_eq, State.advance_now, ge_iff_le, and_assoc]
  split_ifs
  · rfl
  · rfl
  · rcases u.jobEnd sub false (u.jobRun j (j.input.drop (128 * (j.bytesIn - j.base)))) with ⟨t, _ | c⟩ <;> rfl

end JobTimers

/-- Settles O18. -/
theorem balerJobsRun : Obligations.BalerJobsRun := by
  unfold Obligations.BalerJobsRun
  refine ⟨fun s u dt sub payload src e b d j => balerJob_runs, fun s u dt sub src e b => balerResume_runs,
    fun s t sub first j => ⟨State.jobEnd_done, State.jobEnd_full, fun htaken => ?_, fun hfirst hnone => ?_, State.jobEnd_waits⟩,
    fun s dt slot j hj => ⟨balerTokenExpiry_ends hj, balerTokenExpiry_early hj⟩, fun s dt sub => balerDestStall_none,
    fun s a u dt sub j e rest => balerDestStall_runs⟩
  · rw [State.jobEnd_short, if_neg (by obtain hlater | htaken := htaken <;> simp [*])]
  · rw [State.jobEnd_short, if_pos ⟨hfirst, hnone⟩]

end Sys2Proof.Machine

/-! Recording starts and stops (R3, R448 to R450, R458, R459). -/

namespace Sys2Proof.Machine

section RecordingCommands
variable {s u v : State} {dt sub entries : Nat} {drive : DriveInfo} {e : InFlight} {b sb block : Bytes} {known : Bool}

theorem recStart_runs (h : Starts s 0x0805 sub none e b) (hknown : known = drive.super.any (superOk drive.lbas)) (hentries : entries = min 1024 (drive.mqes + 1))
    (hsb : sb = superblock drive.lbas s.ident.serial.toNat (s.advance dt).deviceTime.toNat) (hblock : block = fit 4096 (sb ++ compl sb))
    (hu : u = begun s dt 0x0805 sub)
    (hv : v = { u with
        recd := { s.recd.recover (if known then drive.commits else []) with
          st := .running, ns := e.p 0 0 32, nsLbas := drive.lbas, vwc := drive.vwc, commitAt := s.now + dt, smartAt := s.now + dt, phase := .none, writes := 0
          outst := [], ioEntries := entries, retried := false, chunks := 0, extBytes := 0, bytesInExt := 0, tFirst := none, tLast := 0, gaps := 0, gapped := 0
          inGap := false, chunkSeq := (if known then drive.chunkSeqs else []).foldl (fun (t : Tab Nat) p => t.set p.1 p.2) ⟨0, []⟩ }
        pins := { s.pins with refPcie2 := true, recPerstN := true }
        out := (if known then [] else [⟨.nvme, 4, 2, []⟩, ⟨.nvme, 0, 1, block⟩, ⟨.nvme, 0, 0, block⟩])
          ++ ([⟨.nvme, 7, 1, []⟩, ⟨.nvme, 7, 0, []⟩, ⟨.nvme, 6, entries, []⟩, ⟨.nvme, 5, 0, []⟩] ++ s.out) }) :
    exec (.recStart dt sub drive) s = .next (endStep dt s (
      if s.isAQ = true then u.finish sub (reply 0x0302)
      else if s.recd.st ∈ [RecSt.running, .stopping, .full] then u.finish sub (reply 0x0200)
      else if drive.up = false ∨ driveMeets drive = false ∨ (known = false ∧ drive.blank = false) then u.finish sub (reply 0x0102)
      else v.finish sub (reply 0))) := by
  have haq : u.isAQ = s.isAQ := hu ▸ begun_isAQ s dt 0x0805 sub
  have hrecd : s.recd = u.recd := by rw [hu, begun_recd, State.advance_recd]
  have hpins : s.pins = u.pins := by rw [hu, begun_pins, State.advance_pins]
  have hout : s.out = u.out := by rw [hu, begun_out, State.advance_out]
  have hnow : s.now + dt = u.now := by rw [hu, begun_now, State.advance_now]
  have hident : s.ident = u.ident := by rw [hu, begun_ident, State.advance_ident]
  have htime : (s.advance dt).deviceTime = u.deviceTime := by rw [hu, begun_deviceTime]
  have hbusy : (u.recd.st == .running || u.recd.st == .stopping || u.recd.st == .full) = true ↔ u.recd.st ∈ [RecSt.running, .stopping, .full] := by
    simp [or_assoc]
  have hunfit : (!drive.up || !(driveMeets drive) || !(known || drive.blank)) = true
      ↔ drive.up = false ∨ driveMeets drive = false ∨ (known = false ∧ drive.blank = false) := by simp [or_assoc]
  rw [hrecd, hpins, hout, hnow] at hv
  rw [hident, htime] at hsb
  subst hv hblock hsb hentries
  change run dt s (fun t => t.gcs 0x0805 sub none (bodyRecStart drive)) = _
  rw [run, State.gcs_starts h, ← hu, hrecd]
  simp only [bodyRecStart, haq, hbusy, ← hknown, hunfit]
  simp only [State.emit, State.deviceTime, List.nil_append, List.cons_append]
  split_ifs <;> rfl

theorem driveMeets_limits (h : driveMeets drive = true) : 2 ^ 18 ≤ drive.lbas ∧ drive.lbas ≤ 2 ^ 32 ∧ drive.lbaData = 4096 ∧ drive.hmmin = 0
    ∧ (drive.mdts = 0 ∨ 131072 ≤ drive.mdts) ∧ 255 ≤ drive.mqes ∧ 1 ≤ drive.ioPairs ∧ drive.timeout ≤ 10000 := by
  simp only [driveMeets, Bool.and_eq_true, Bool.or_eq_true, beq_iff_eq, decide_eq_true_eq, ge_iff_le] at h
  obtain ⟨⟨⟨⟨⟨⟨⟨⟨⟨-, hdata⟩, -⟩, -⟩, hmqes⟩, hpairs⟩, hmdts⟩, hhmmin⟩, htimeout⟩, hlo, hhi⟩ := h
  exact ⟨hlo, hhi, hdata, hhmmin, hmdts, hmqes, hpairs, htimeout⟩

theorem recStop_runs (h : Starts s 0x0806 sub none e b) : exec (.recStop dt sub) s = .next (endStep dt s (
    if s.isAQ = true then (begun s dt 0x0806 sub).finish sub (reply 0x0302)
    else ((begun s dt 0x0806 sub).mapCmd sub fun x =>
      { x with wait := .recStop, since := s.now + dt }).recStop (if e.p 0 0 1 = 1 then 3 else 2))) := by
  split
  case isTrue haq => exact runGcs_answers (body := bodyRecStop) h (by simp [bodyRecStop, haq])
  case isFalse haq => exact runGcs_waits (body := bodyRecStop) h (by simp [bodyRecStop, haq, starts_sub h])

theorem State.recStop_of_idle {reason : Nat} (hidle : s.recd.st = .idle ∨ s.recd.st = .fault) :
    s.recStop reason = ({ s with recd := { s.recd with reason := reason } } : State).recStopped := by
  obtain hidle | hfault := hidle <;> simp only [State.recStop, *]

theorem State.recStop_of_stopping {reason : Nat} (hst : s.recd.st = .stopping) : s.recStop reason = s := by
  simp only [State.recStop, hst]

end RecordingCommands

/-- Settles O19. -/
theorem recordingCommandsRun : Obligations.RecordingCommandsRun := by
  unfold Obligations.RecordingCommandsRun
  exact ⟨fun s u v dt sub entries drive e b sb block known => recStart_runs, fun drive => driveMeets_limits, fun q => rfl,
    fun s dt sub e b => recStop_runs, fun s reason => ⟨State.recStop_of_idle, State.recStop_of_stopping⟩⟩

end Sys2Proof.Machine

/-! Events of the recording port and of the Silo (R435, R437, R449 to R462). -/

namespace Sys2Proof.Machine

/-- A step of a block that is up has the effect of its command. -/
theorem runUp_eq {s u : State} {dt : Nat} {f : State → State} (h : s.holdUp = true) (hf : f (s.advance dt) = u) :
    runUp dt s f = .next (endStep dt s u) := by
  rw [runUp_up dt s f h, hf]

theorem run_eq {s u : State} {dt : Nat} {f : State → State} (hf : f (s.advance dt) = u) : run dt s f = .next (endStep dt s u) := by
  rw [run, hf]

section RecordingEvents
variable {s : State} {dt : Nat}

section Completion
variable {status : Nat} (h : s.holdUp = true) (hwrites : s.recd.writes ≠ 0) (hidle : s.recd.st ≠ .idle) (hfault : s.recd.st ≠ .fault)
include h hwrites hidle hfault

theorem nvmeCompletion_reissues (hstatus : status ≠ 0) (hfirst : s.recd.retried = false) :
    exec (.nvmeCompletion dt status) s = .next (endStep dt s
      (({ s.advance dt with recd := { s.recd with retried := true } } : State).emit .nvme (s.recd.outst.headD (0, 0, [])).1
        (s.recd.outst.headD (0, 0, [])).2.1 (s.recd.outst.headD (0, 0, [])).2.2)) := by
  change execNvmeCompletion dt status s = _
  exact runUp_eq h (by simp [hwrites, hidle, hfault, hstatus, hfirst])

theorem nvmeCompletion_faults (hstatus : status ≠ 0) (hagain : s.recd.retried = true) :
    exec (.nvmeCompletion dt status) s = .next (endStep dt s ((s.advance dt).recFault status)) := by
  change execNvmeCompletion dt status s = _
  exact runUp_eq h (by simp [hwrites, hidle, hfault, hstatus, hagain])

theorem nvmeCompletion_commits (hstatus : status = 0) (hphase : s.recd.phase = .record) : exec (.nvmeCompletion dt status) s = .next (endStep dt s
    ({ s.advance dt with recd := { s.recd with writes := s.recd.writes - 1, outst := s.recd.outst.drop 1, retried := false } } : State).commitDone) := by
  change execNvmeCompletion dt status s = _
  exact runUp_eq h (by simp [hwrites, hidle, hfault, hstatus, hphase])

theorem nvmeCompletion_pumps (hstatus : status = 0) (hphase : s.recd.phase = .none) : exec (.nvmeCompletion dt status) s = .next (endStep dt s
    ({ s.advance dt with recd := { s.recd with writes := s.recd.writes - 1, outst := s.recd.outst.drop 1, retried := false } } : State).recPump) := by
  change execNvmeCompletion dt status s = _
  exact runUp_eq h (by simp [hwrites, hidle, hfault, hstatus, hphase])

theorem nvmeCompletion_goesOn (hstatus : status = 0) (hrecord : s.recd.phase ≠ .record) (hnone : s.recd.phase ≠ .none) :
    exec (.nvmeCompletion dt status) s = .next (endStep dt s
      ({ s.advance dt with recd := { s.recd with writes := s.recd.writes - 1, outst := s.recd.outst.drop 1, retried := false } } : State).commitNext) := by
  change execNvmeCompletion dt status s = _
  exact runUp_eq h (by simp [hwrites, hidle, hfault, hstatus, hrecord, hnone])

end Completion
section Commits
variable (h : s.holdUp = true)
include h

theorem recCommit_goesOn (hphase : s.recd.phase ≠ .none) : exec (.recCommit dt) s = .next (endStep dt s (s.advance dt).commitNext) := by
  change execRecCommit dt s = _
  exact runUp_eq h (by simp [hphase])

theorem recCommit_starts (hphase : s.recd.phase = .none) (hst : s.recd.st = .running) (hext : 67108864 ≤ s.recd.extBytes) :
    exec (.recCommit dt) s = .next (endStep dt s ((s.advance dt).startCommit 0)) := by
  change execRecCommit dt s = _
  exact runUp_eq h (by simp [hphase, hst, hext])

theorem recCommitTimer_starts (hphase : s.recd.phase = .none) (hst : s.recd.st = .running) (hchunks : s.recd.chunks ≠ 0)
    (hdue : s.recd.commitAt + ms 100 ≤ s.now + dt) : exec (.recCommitTimer dt) s = .next (endStep dt s ((s.advance dt).startCommit 1)) := by
  change execRecCommitTimer dt s = _
  exact runUp_eq h (by simp [hphase, hst, hchunks, hdue])

theorem recCommitTimer_notRunning (hst : s.recd.st ≠ .running) : exec (.recCommitTimer dt) s = .next (endStep dt s (s.advance dt)) := by
  change execRecCommitTimer dt s = _
  exact runUp_eq h (by simp [hst])

theorem recFault_runs (status : Nat) : exec (.recFault dt status) s = .next (endStep dt s ((s.advance dt).recFault status)) :=
  runUp_up dt s (fun t => t.recFault status) h

theorem refclkPcie2Loss_faults (hst : s.recd.st = .running) : exec (.refclkPcie2Loss dt) s = .next (endStep dt s
    (({ s.advance dt with pins := { s.pins with refPcie2 := false } } : State).useFree.recFault (freeNat s))) := by
  have hup := h
  simp only [State.holdUp, State.isIn, State.code, List.contains_eq_mem, List.mem_cons, List.not_mem_nil, or_false, decide_eq_true_eq] at hup
  change execRefclkPcie2Loss dt s = _
  exact run_eq (by simp [hst, freeNat, State.holdUp, State.isIn, State.code, hup])

omit h in
theorem refclkPcie2Loss_idle (hst : s.recd.st = .idle) :
    exec (.refclkPcie2Loss dt) s = .next (endStep dt s { s.advance dt with pins := { s.pins with refPcie2 := false } }) := by
  change execRefclkPcie2Loss dt s = _
  exact run_eq (by simp [hst])

theorem smartPoll_runs {t : State} {warn temp : Nat} (hst : s.recd.st ≠ .idle) (hdue : s.recd.smartAt + sec 10 ≤ s.now + dt)
    (ht : t = ({ s.advance dt with recd := { s.recd with warn := BitVec.ofNat 8 warn, temp := temp, smartAt := s.now + dt } } : State).emit .nvme 8 0 []) :
    exec (.smartPoll dt warn temp) s = .next (endStep dt s (
      if BitVec.ofNat 8 warn &&& ~~~ s.recd.warn = 0 then t else t.post 0x5008 0 0 [(BitVec.ofNat 8 warn).toNat])) := by
  subst ht
  change execSmartPoll dt warn temp s = _
  refine runUp_eq h ?_
  by_cases hnew : BitVec.ofNat 8 warn &&& ~~~ s.recd.warn = 0 <;> simp [hst, Nat.not_lt.2 hdue, hnew]

theorem recGap_runs {t : State} (ht : t = (s.advance dt).updWm 5) : exec (.recGap dt) s = .next (endStep dt s (
    if s.recd.inGap = true ∧ t.regionFill 5 * 100 + 10 * t.regionSize 5 < s.pf 9 0x1C 0 8 * t.regionSize 5
    then { t with recd := { t.recd with inGap := false } } else t)) := by
  have hpf : t.pf 9 0x1C 0 8 = s.pf 9 0x1C 0 8 := by rw [ht]; exact State.advance_pf s dt 9 0x1C 0 8
  have hrecd : t.recd = s.recd := by rw [ht]; exact State.advance_recd s dt
  change execRecGap dt s = _
  refine runUp_eq h ?_
  rw [← ht]
  simp [hpf, hrecd]

end Commits
end RecordingEvents

section SiloEvents
variable {s a t : State} {dt : Nat}

theorem ddrUe_stream {ring n ce : Nat} {rc : Bytes} (h : s.holdUp = true) (hrc : ((s.srings.get ring).heldAlerts ++ (s.srings.get ring).held)[n]? = some rc)
    (ha : a = { s.advance dt with silo := { s.silo with ceCount := s.silo.ceCount + ce } }) (ht : t = a.discardHeld rc) :
    exec (.ddrUe dt 2 ring n ce) s
      = .next (endStep dt s (({ t with silo := { t.silo with heldDrop := t.silo.heldDrop + 1 } } : State).post 0x4007 0 0 [2])) := by
  change execDdrUe dt 2 ring n ce s = _
  exact runUp_eq h (by simp [hrc, ht, ha])

theorem ddrUe_scratch {ring n ce : Nat} (h : s.holdUp = true) : exec (.ddrUe dt 5 ring n ce) s = .next (endStep dt s (({ s.advance dt with
    silo := { s.silo with ceCount := s.silo.ceCount + ce } } : State).post 0x4007 0 0 [5])) := by
  change execDdrUe dt 5 ring n ce s = _
  exact runUp_eq h (by simp)

theorem bqShareFull_runs {share fullFor : Nat} (h : s.holdUp = true) : exec (.bqShareFull dt share fullFor) s = .next (endStep dt s (
    if ms 1 ≤ fullFor then (s.advance dt).post 0x4006 0 0 [share] else s.advance dt)) :=
  runUp_up dt s (fun t => if fullFor ≥ ms 1 then t.post 0x4006 0 0 [share] else t) h

end SiloEvents

/-- Settles O20. -/
theorem recordingAndSiloEventsRun : Obligations.RecordingAndSiloEventsRun := by
  unfold Obligations.RecordingAndSiloEventsRun
  exact ⟨⟨fun s dt status h hwrites hidle hfault => ⟨nvmeCompletion_reissues h hwrites hidle hfault, nvmeCompletion_faults h hwrites hidle hfault,
        nvmeCompletion_commits h hwrites hidle hfault, nvmeCompletion_pumps h hwrites hidle hfault, nvmeCompletion_goesOn h hwrites hidle hfault⟩,
      fun s dt h => ⟨recCommit_goesOn h, recCommit_starts h, recCommitTimer_starts h, recCommitTimer_notRunning h, recFault_runs h,
        refclkPcie2Loss_faults h, refclkPcie2Loss_idle⟩,
      fun s dt warn temp h hst hdue t => smartPoll_runs h hst hdue, fun s t dt h => recGap_runs h⟩,
    fun s a t dt ring n ce rc => ddrUe_stream, fun s dt ring n ce => ddrUe_scratch, fun s dt share fullFor => bqShareFull_runs⟩

end Sys2Proof.Machine

/-! Supplies, POR_N, the end of RESET, PLL lock and clock loss (R30, R521 to R528, R540). -/

namespace Sys2Proof.Machine

section Supplies
variable {s a u v : State} {dt : Nat}

theorem supplyRise_runs {ramps : List Nat} (ha : a = s.advance dt) (hu : u = a.toReset 0 false false) :
    exec (.supplyRise dt ramps) s = .next (endStep dt s (
      if s.code ≠ 0 then a
      else match firstRiseFault ramps with
        | none => { u with power := { u.power with okSince := s.now + dt } }
        | some x => { u with power := { u.power with okSince := s.now + dt, nextSrc := 2, kind := BitVec.ofNat 3 x.1, rail := BitVec.ofNat 3 x.2 } })) := by
  subst ha
  change execSupplyRise dt ramps s = _
  refine run_eq ?_
  by_cases hoff : s.code = 0
  · cases firstRiseFault ramps <;> simp [hoff, ← hu]
  · simp [hoff]

theorem supplyViolation_runs {rail mil len : Nat} {powerDown : Bool} (ha : a = s.advance dt) (hu : u = a.toReset 2 false false) :
    exec (.supplyViolation dt rail mil len powerDown) s = .next (endStep dt s (
      if s.code = 0 then a
      else match railFault mil len with
        | none =>
          if s.code = 1 ∧ railOut rail mil = true
          then { a with power := { s.power with okSince := max s.power.okSince (s.now + dt + ns len) } } else a
        | some kind =>
          let p := { u.power with okSince := max s.power.okSince (s.now + dt + ns len) }
          { u with power := if powerDown = true ∨ (s.code = 1 ∧ s.power.nextSrc = 2 ∧ s.power.kind ≠ 7) then p
            else { p with rail := BitVec.ofNat 3 rail, kind := BitVec.ofNat 3 kind } })) := by
  subst ha
  change execSupplyViolation dt rail mil len powerDown s = _
  refine run_eq ?_
  by_cases hoff : s.code = 0
  · simp [hoff]
  · cases railFault mil len <;> simp [hoff, ← hu, and_assoc]

theorem railFault_cases (mil len : Nat) : (railFault mil len = some 4 ↔ 2000 ≤ len ∧ mil < 940) ∧ (railFault mil len = some 5 ↔ 2000 ≤ len ∧ 1080 < mil)
    ∧ (len < 2000 → railFault mil len = none) := by
  unfold railFault
  split_ifs <;> simp <;> omega

theorem powerRemoved_runs (hu : u = (s.advance dt).afterReset false false false)
    (hv : v = ({ u with power := {}, time := {}, jtag := {}, dev := { u.dev with coldStart := true } } : State).setWord 0) :
    exec (.powerRemoved dt) s = .next (endStep dt s v)
      ∧ v.dev.word = 0 ∧ v.dev.coldStart = true ∧ v.power = {} ∧ v.otp = s.otp ∧ v.flash = s.flash := by
  subst hv
  refine ⟨by subst hu; rfl, rfl, rfl, rfl, ?_, ?_⟩
  · rw [State.setWord_otp, hu]
    exact s.advance_otp dt
  · rw [State.setWord_flash, hu]
    exact s.advance_flash dt

theorem porNLow_resets {len : Nat} (hu : u = (s.advance dt).toReset (if s.code = 1 then s.power.nextSrc else 1) false false) (hlen : 10000 ≤ len) :
    exec (.porNLow dt len) s = .next (endStep dt s (if s.code = 0 then s.advance dt else
      { u with power := { u.power with porRise := s.now + dt + ns len }, pins := { u.pins with porN := false } })) := by
  have hlong : ¬ (len ≥ 1000 ∧ len < 10000) := by omega
  change execPorNLow dt len s = _
  refine run_eq ?_
  by_cases hoff : s.code = 0
  · simp [hoff, hlen, Nat.not_lt.2 hlen]
  · simp [hoff, hlen, Nat.not_lt.2 hlen, ← hu]

theorem porNLow_short {len : Nat} (hlen : len < 1000) : exec (.porNLow dt len) s = .next (endStep dt s (s.advance dt)) := by
  have hten : ¬ 10000 ≤ len := by omega
  change execPorNLow dt len s = _
  exact run_eq (by simp [hten, Nat.not_le.2 hlen])

end Supplies

section Clocks
variable {s a u : State} {dt : Nat}

theorem resetEnd_runs (ha : a = s.advance dt) : exec (.resetEnd dt) s = .next (endStep dt s (
    if s.code ≠ 1 ∨ s.now + dt < s.power.okSince + ms 1 ∨ s.now + dt < s.power.porRise then a
    else ({ a with pins := { s.pins with porN := true, faultN := true } } : State).enterBoot s.power.nextSrc 1)) := by
  subst ha
  change execResetEnd dt s = _
  exact run_eq (by simp [or_assoc])

theorem enterBoot_records (s : State) (src stage : Nat) : (s.enterBoot src stage).power.src = src ∧ (s.enterBoot src stage).pins.fireGate = false
    ∧ (s.enterBoot src stage).dev.stage = BitVec.ofNat 8 stage := ⟨rfl, rfl, rfl⟩

theorem pllLock_runs {rtc : Option Nat} (ha : a = s.advance dt) : exec (.pllLock dt rtc) s = .next (endStep dt s (
    if s.code ≠ 2 ∨ s.power.pllLocked = true then a
    else { a with
      power := { s.power with pllLocked := true, clkMon := true, pllTryAt := none }
      dev := { s.dev with coldStart := false }
      time := { a.time with running := true, units := if s.dev.coldStart = true then 0
                            else match rtc with | some n => s.power.resetTime + n * 156250000 * 1000000000 | none => 0 } })) := by
  subst ha
  change execPllLock dt rtc s = _
  refine run_eq ?_
  cases rtc <;> simp

theorem pllLockRetry_runs (ha : a = s.advance dt) : exec (.pllLockRetry dt) s = .next (endStep dt s (
    if s.code = 2 ∧ s.dev.stage = 2 ∧ s.power.pllLocked = false ∧ (∀ t, s.power.pllTryAt = some t → t + ms 10 ≤ s.now + dt)
    then { a with power := { s.power with pllRetry := s.power.pllRetry + 1, pllTryAt := some (s.now + dt) } } else a)) := by
  subst ha
  change execPllLockRetry dt s = _
  have htry : s.power.pllTryAt.all (fun a => decide (a + ms 10 ≤ s.now + dt)) = true ↔ ∀ t, s.power.pllTryAt = some t → t + ms 10 ≤ s.now + dt := by
    simp [Option.all_eq_true]
  exact run_eq (by simp [and_assoc, htry])

theorem clockLoss_runs {pll : Bool} (ha : a = s.advance dt) (hu : u = a.biasStandby.toReset 3 true false) :
    exec (.clockLoss dt pll) s = .next (endStep dt s (
      if s.power.clkMon = false ∨ s.code = 0 ∨ s.code = 1 then a
      else { u with pins := { u.pins with faultN := false, fireGate := true }, power := { u.power with clkArg := some (b2n pll) } })) := by
  subst ha
  change execClockLoss dt pll s = _
  exact run_eq (by simp [← hu, or_assoc])

end Clocks

/-- Settles O21. -/
theorem supplyAndClockEventsRun : Obligations.SupplyAndClockEventsRun := by
  unfold Obligations.SupplyAndClockEventsRun
  exact ⟨⟨fun s a u dt ramps => supplyRise_runs, fun s a u dt rail mil len powerDown => supplyViolation_runs, railFault_cases,
      fun s u v dt => powerRemoved_runs, fun s u dt len => porNLow_resets, fun s dt len => porNLow_short⟩,
    fun s a dt => resetEnd_runs, enterBoot_records, fun s a dt rtc => pllLock_runs, fun s a dt => pllLockRetry_runs,
    fun s a u dt pll => clockLoss_runs⟩

end Sys2Proof.Machine

/-! Host link, function resets, power states and the timers of the streams (R31, R322, R326, R332, R346 to R360). -/

namespace Sys2Proof.Machine

section HostLink
variable {s a : State} {dt : Nat} (ha : a = s.advance dt)
include ha

theorem perstN_high : exec (.perstN dt true) s = .next (endStep dt s { a with pins := { s.pins with perstN := true } }) := by
  subst ha
  change execPerstN dt true s = _
  exact run_eq (by rw [State.advance_pins]; rfl)

theorem perstN_low : exec (.perstN dt false) s = .next (endStep dt s
    ((({ a with pins := { s.pins with perstN := false }, link := { s.link with up := false } } : State).resetPf0.resetPf1 true).holdOnReset)) := by
  subst ha
  change execPerstN dt false s = _
  exact run_eq (by rw [State.advance_pins, ← State.advance_link s dt]; rfl)

theorem linkDown_cold : exec (.linkDown dt false) s = .next (endStep dt s { a with link := { s.link with up := false } }) := by
  subst ha
  change execLinkDown dt false s = _
  exact run_eq (by rw [State.advance_link]; rfl)

theorem linkDown_hot : exec (.linkDown dt true) s
    = .next (endStep dt s ((({ a with link := { s.link with up := false } } : State).resetPf0.resetPf1 true).holdOnReset)) := by
  subst ha
  change execLinkDown dt true s = _
  exact run_eq (by rw [← State.advance_link s dt]; rfl)

theorem refclkPcieLoss_runs : exec (.refclkPcieLoss dt) s
    = .next (endStep dt s { a with pins := { s.pins with refPcie := false }, link := { s.link with up := false } }) := by
  subst ha
  change execRefclkPcieLoss dt s = _
  exact run_eq (by rw [State.advance_link, State.advance_pins])

theorem linkTrained_runs (gen width : Nat) : exec (.linkTrained dt gen width) s = .next (endStep dt s (
    if s.pins.perstN = true ∧ gen ∈ [1, 2, 3, 4] ∧ width ∈ [1, 2, 4, 8]
    then ((({ a with link := { s.link with up := true, gen := gen, width := width }, pins := { s.pins with refPcie := true } } : State).judgeLink).resumeFn
      0).resumeFn 1
    else a)) := by
  subst ha
  have hrefused : (!s.pins.perstN || !([1, 2, 3, 4].contains gen) || !([1, 2, 4, 8].contains width)) = true
      ↔ ¬ (s.pins.perstN = true ∧ gen ∈ [1, 2, 3, 4] ∧ width ∈ [1, 2, 4, 8]) := by
    simp only [Bool.or_eq_true, Bool.not_eq_true', ← Bool.not_eq_true, List.contains_iff_mem, not_and_or, or_assoc]
  change execLinkTrained dt gen width s = _
  refine run_eq ?_
  simp only [State.advance_link, State.advance_pins, hrefused, ite_not]

end HostLink

/-- A reset of PF1 keeps of each ring what it holds, the batch first, and the alerts it takes (R359, R360). -/
theorem afterReset_mem_resetPf1 {s : State} (sticky : Bool) {r : Nat} {q : StreamRing} (hq : (r, q) ∈ s.srings.cells) :
    (r, q.afterReset (s.thresh.alertQ.filter q.takes)) ∈ (s.resetPf1 sticky).srings.cells :=
  List.mem_map_of_mem (f := fun c : Nat × StreamRing => (c.1, c.2.afterReset (s.thresh.alertQ.filter c.2.takes))) hq

section StreamTimers
variable {s a : State} {dt : Nat} (ha : a = s.advance dt)
include ha

theorem coalesceTimeout_runs (r : Nat) : exec (.coalesceTimeout dt r) s = .next (endStep dt s (
    if (s.srings.get r).batch ≠ [] ∧ (s.srings.get r).batchSince + us (s.srings.get r).coalesce ≤ s.now + dt then a.flushRing r else a)) := by
  subst ha
  change execCoalesceTimeout dt r s = _
  exact run_eq (by simp)

theorem statusHeartbeat_runs : exec (.statusHeartbeat dt) s = .next (endStep dt s (
    if s.stream.opened = true ∧ s.stream.lastStatus + ms 100 ≤ s.now + dt then a.status (32 + a.whyNow) else a)) := by
  subst ha
  change execStatusHeartbeat dt s = _
  exact run_eq (by simp)

theorem counterOverflowSample_runs {t : State} {src pc : Nat} (ht : t = (if a.priv.sampleUnread = 256 then a.mark keySampleOvf else a)) :
    exec (.counterOverflowSample dt src pc) s = .next (endStep dt s (match a.priv.samplePend with
      | [] => a
      | c :: rest => ({ t with priv := { t.priv with
          samplePend := rest
          samples := a.priv.samples.set a.priv.sampleWr.toNat (le 2 c ++ le 2 src ++ le 4 (if src = 0xFFFF then 0 else pc) ++ le 8 a.deviceTime.toNat)
          sampleWr := a.priv.sampleWr + 1, sampleUnread := min 256 (a.priv.sampleUnread + 1)
          sampleOvf := a.priv.sampleOvf || decide (a.priv.sampleUnread = 256) } } : State).raise 0 9)) := by
  subst ht
  change execCounterOverflowSample dt src pc s = _
  refine run_eq ?_
  rw [← ha]
  cases hpend : a.priv.samplePend with
  | nil => simp [hpend]
  | cons c rest =>
    have hovf : (a.priv.sampleUnread == 256) = decide (a.priv.sampleUnread = 256) := beq_eq_decide _ _
    simp [hpend, hovf]

end StreamTimers

/-- Settles O23. -/
theorem hostLinkAndStreamTimersRun : Obligations.HostLinkAndStreamTimersRun := by
  unfold Obligations.HostLinkAndStreamTimersRun
  exact ⟨fun s a dt fn ha => ⟨perstN_high ha, perstN_low ha, ha ▸ rfl, ha ▸ rfl, linkDown_cold ha, linkDown_hot ha, refclkPcieLoss_runs ha, ha ▸ rfl, ha ▸ rfl,
      ha ▸ rfl, ha ▸ rfl, linkTrained_runs ha⟩,
    fun s sticky r q hq => ⟨afterReset_mem_resetPf1 sticky hq, fun l => ⟨rfl, rfl, rfl, rfl⟩⟩,
    fun s a dt r ha => coalesceTimeout_runs ha r, fun s a dt => statusHeartbeat_runs, fun s dt => rfl, fun s a t dt src pc ha => counterOverflowSample_runs ha⟩

end Sys2Proof.Machine

/-! ARM_EN, the fast axis, SHOT_SYNC and the slow axis (R27, R89, R115 to R125, R559, R571). -/

namespace Sys2Proof.Machine

/-- Of the sequencer, the passing of time moves the ranging clock alone. -/
theorem State.advance_seq (s : State) (dt : Nat) : ∃ clk, (s.advance dt).seq = { s.seq with rangingClk := clk } := by
  obtain ⟨units, clk, re, cnt, l, hadv⟩ := s.advance_only dt
  exact ⟨clk, by rw [hadv]⟩

section AdvanceSeq
variable (s : State) (dt : Nat)

@[simp] theorem State.advance_seq_lastBoundary : (s.advance dt).seq.lastBoundary = s.seq.lastBoundary := by
  obtain ⟨clk, h⟩ := s.advance_seq dt
  rw [h]

@[simp] theorem State.advance_part (n : Nat) : (s.advance dt).part n = s.part n := by rw [State.part, State.advance_cfg]; rfl
@[simp] theorem State.advance_halfPeriod : (s.advance dt).halfPeriod = s.halfPeriod := by
  rw [State.halfPeriod, State.fNom, State.advance_part]; rfl

end AdvanceSeq

section ArmEn
variable {s a : State} {dt : Nat} (ha : a = s.advance dt)
include ha

theorem armEnFall_runs : exec (.armEnFall dt) s = .next (endStep dt s { a.cutPulses with
    pins := { s.pins with
      armFell := if s.pins.armEn = true then s.now + dt else s.pins.armFell
      armKept := if s.pins.armEn = true then some (s.pins.armOk, s.pins.armHighAt, s.pins.armStable) else s.pins.armKept
      armEn := false, armOk := false, armHighAt := none, armStable := false } }) := by
  subst ha
  change execArmEnFall dt s = _
  exact run_eq (by rw [State.advance_pins, State.advance_now])

theorem armEnRise_afresh (hlong : s.pins.armKept = none ∨ s.pins.armFell + ns 5 ≤ s.now + dt) :
    exec (.armEnRise dt) s = .next (endStep dt s (if s.pins.armEn = true then a
      else { a with pins := { s.pins with armEn := true, armHighAt := some (s.now + dt), armStable := false } })) := by
  have hbrief : (s.pins.armKept.isSome && decide (s.now + dt < s.pins.armFell + ns 5)) = false := by
    obtain hnone | hlate := hlong
    · rw [hnone]; rfl
    · rw [decide_eq_false (Nat.not_lt.2 hlate), Bool.and_false]
  subst ha
  change execArmEnRise dt s = _
  exact run_eq (by simp [hbrief])

theorem armEnRise_brief {k : Bool × Option Nat × Bool} (hkept : s.pins.armKept = some k) (hbrief : s.now + dt < s.pins.armFell + ns 5) :
    exec (.armEnRise dt) s = .next (endStep dt s (if s.pins.armEn = true then a.useFree
      else if freeNat s % 2 = 1 then
        { a.useFree with pins := { s.pins with armEn := true, armOk := k.1, armHighAt := k.2.1, armStable := k.2.2, armKept := none } }
      else { a.useFree with pins := { s.pins with armEn := true, armHighAt := some (s.now + dt), armStable := false } })) := by
  have hfree : freeNat (s.advance dt) = freeNat s := by rw [freeNat, State.advance_free, freeNat]
  subst ha
  change execArmEnRise dt s = _
  refine run_eq ?_
  by_cases hstands : freeNat s % 2 = 1 <;> simp [hkept, hbrief, hfree, hstands]

theorem armEnStable_runs : exec (.armEnStable dt) s = .next (endStep dt s (
    match s.pins.armHighAt with
    | some h => if h + ms 1 ≤ s.now + dt then { a with pins := { s.pins with armStable := true } } else a
    | none => a)) := by
  subst ha
  change execArmEnStable dt s = _
  refine run_eq ?_
  cases hhigh : s.pins.armHighAt <;> simp [hhigh]

end ArmEn

section Axis
variable {s a : State} {dt : Nat} (hup : s.holdUp = true) (ha : a = s.advance dt)

theorem driveIn_span (a : State) (f : Rat) : a.driveIn f * 1000 ≤ (a.fNom + a.fSpan : Nat) ∧ ((a.fNom - a.fSpan : Nat) : Rat) ≤ a.driveIn f * 1000 := by
  have hspan : ((a.fNom - a.fSpan : Nat) : Rat) ≤ (a.fNom + a.fSpan : Nat) := by exact_mod_cast (by omega : a.fNom - a.fSpan ≤ a.fNom + a.fSpan)
  rw [State.driveIn, div_mul_cancel₀ _ (by norm_num)]
  exact ⟨max_le hspan (min_le_left _ _), le_max_left _ _⟩

include hup ha

theorem fastAxisLock_runs {peak dac n : Nat} {halves : List HalfMeas}
    (hn : n = (halves.take ((s.now + dt - s.steer.halfAt) / halfTicks (a.fNom + a.fSpan))).foldl a.lockCount s.steer.lockRun) :
    exec (.fastAxisLock dt peak dac halves) s = .next (endStep dt s (
      if s.steer.running = false ∨ s.steer.locked = true then a
      else if 64 ≤ n then ({ a with steer := { s.steer with
        locked := true, restarts := 0, lockRun := 0, halfAt := s.now + dt, driveFreq := a.driveIn peak,
            driveLevel := a.levelIn dac } } : State).dropReason 1
      else { a with steer := { s.steer with lockRun := n, halfAt := s.now + dt } })) := by
  subst ha
  change execFastAxisLock dt peak dac halves s = _
  refine runUp_eq hup ?_
  simp only [State.advance_now, State.advance_steer, ← hn]
  cases s.steer.running <;> cases s.steer.locked <;> simp

theorem lossOfLock_runs {m : AxisSense} {u : State} (hu : u = a.endCells) : exec (.lossOfLock dt m) s = .next (endStep dt s (
    if s.steer.running = true ∧ s.steer.locked = true ∧ a.lossCond m ≠ 0
    then (({ u with steer := { u.steer with
      locked := false, acqStart := u.now, restarts := 0, firstAcq := true, lockRun := 0,
          halfAt := u.now } } : State).addReason 1).post 0x200C 0 0 [a.lossCond m]
    else a)) := by
  subst ha hu
  change execLossOfLock dt m s = _
  exact runUp_eq hup (by simp [State.loseLock, and_assoc])

theorem acquisitionTimeout_runs {n : Nat} (hn : n = (if s.steer.firstAcq = true then 0 else s.steer.restarts + 1)) :
    exec (.acquisitionTimeout dt) s = .next (endStep dt s (
      if s.steer.running = true ∧ s.steer.locked = false ∧ s.steer.acqStart + sec 1 ≤ s.now + dt
      then (if n = 3 ∧ s.code ≠ 7 then (a.startAxis n false).post 0x200D 0 0 else a.startAxis n false) else a)) := by
  subst ha
  change execAcquisitionTimeout dt s = _
  exact runUp_eq hup (by simp [← hn, and_assoc])

theorem shotSyncEdge_runs {e : Nat} {o : Int} {u : State} (he : e = tdcStamp (s.now + dt))
    (ho : o = (if 2 * ((e : Int) - s.seq.lastBoundary) ≤ s.halfPeriod then (e : Int) - s.seq.lastBoundary else (e : Int) - s.seq.lastBoundary - s.halfPeriod))
    (hu : u = { a with steer := { s.steer with
      syncTime := a.timeAt e, syncOfs := o, syncCount := s.steer.syncCount + 1, syncLast := s.now + dt, syncLost := false } }) :
    exec (.shotSyncEdge dt) s = .next (endStep dt s (
      if s.pf 2 0x30 0 2 = 0 then a else if s.pf 2 0x30 0 2 = 2 ∧ s.steer.running = true then u.trim else u)) := by
  subst ha hu
  change execShotSyncEdge dt s = _
  exact runUp_eq hup (by simp [← he, ← ho])

theorem shotSyncLost_runs : exec (.shotSyncLost dt) s = .next (endStep dt s (
    if s.pf 2 0x30 0 2 = 2 ∧ s.steer.running = true ∧ s.steer.syncLost = false ∧ s.steer.syncLast + 16 * s.halfPeriod ≤ s.now + dt
    then ({ a with steer := { s.steer with syncLost := true } } : State).post 0x2010 0 0 [twos 32 (s.steer.syncOfs / 5120)] else a)) := by
  subst ha
  change execShotSyncLost dt s = _
  exact runUp_eq hup (by simp [and_assoc])

theorem slowAxisError_runs (err : Nat) : exec (.slowAxisError dt err) s = .next (endStep dt s (
    if s.pf 2 0x18 16 16 < err ∧ s.steer.slowErr = false then ({ a with steer := { s.steer with slowErr := true } } : State).post 0x200E 0 0 [err]
    else if err * 2 < s.pf 2 0x18 16 16 then { a with steer := { s.steer with slowErr := false } } else a)) := by
  subst ha
  change execSlowAxisError dt err s = _
  exact runUp_eq hup (by simp)

end Axis

/-- Settles O24. -/
theorem armAndAxisEventsRun : Obligations.ArmAndAxisEventsRun := by
  unfold Obligations.ArmAndAxisEventsRun
  exact ⟨⟨fun s a dt => armEnFall_runs, fun s a dt => armEnRise_afresh, fun s a dt k ha => armEnRise_brief ha, fun s a dt => armEnStable_runs⟩,
    fun s a dt hup ha => ⟨fun peak dac n halves => fastAxisLock_runs hup ha,
      fun f v => ⟨(driveIn_span a f).1, (driveIn_span a f).2, ha ▸ s.advance_pf dt 2 0x18 0 16 ▸ min_le_right _ _⟩,
      fun m u => lossOfLock_runs hup ha, fun n => acquisitionTimeout_runs hup ha, fun e o u => shotSyncEdge_runs hup ha, shotSyncLost_runs hup ha,
      slowAxisError_runs hup ha⟩⟩

end Sys2Proof.Machine

/-! Furrow boundaries and cells, and the shots of their strings: the gates at the decision, the edge and the judgement
(R45, R46, R73, R75, R89, R90, R99 to R101, R116, R118 to R120, R374, R383, R512, R571). -/

namespace Sys2Proof.Machine

theorem State.advance_waiting (s : State) (dt : Nat) (w : WaitK) : (s.advance dt).waiting w = s.waiting w := by
  obtain ⟨_, _, _, _, _, h⟩ := s.advance_only dt
  rw [h]; rfl

@[simp] theorem State.advance_str (s : State) (dt i : Nat) : (s.advance dt).str i = s.str i := by
  rw [State.str, State.advance_strs, State.str]

@[simp] theorem State.advance_ch (s : State) (dt c : Nat) : (s.advance dt).ch c = s.ch c := by
  rw [State.ch, State.advance_rx, State.ch]

@[simp] theorem State.advance_sched (s : State) (dt : Nat) : (s.advance dt).sched = s.sched := by
  rw [State.sched, State.advance_cfg, State.sched]

section Furrow
variable {s a : State} {dt : Nat} (hup : s.holdUp = true) (ha : a = s.advance dt)
include hup ha

theorem furrowBoundary_runs {b t u v : State} {enc : Nat} {dir : Bool} (hb : b = a.arbitrate false)
    (ht : t = (if b.seq.furrows = 0 then b else b.slowFurrow))
    (hu : u = ({ t with seq := { t.seq with
      furrow := t.seq.furrows % 2 ^ 32, furrows := t.seq.furrows + 1, dir := dir, badInFurrow := 0, lastBoundary := engineEdge t.now } }
      : State).boundary.newSeeds.biasUpdate)
    (hv : v = { u with
      seq := { u.seq with fireFrom := true, nextCell := if u.steer.running && u.steer.locked then some 0 else none }
      pins := { u.pins with
        armOk := u.pins.armEn && u.pins.armStable, syncOutTill := if u.steer.running then u.now + ns 100 else u.pins.syncOutTill } }) :
    exec (.furrowBoundary dt dir enc) s = .next (endStep dt s (
      if s.steer.running = false ∨ s.steer.locked = false then a
      else if a.zBad enc = true then a.loseLock 4
      else if u.steer.running = true then v.emit .syncOut 0 0 [] else v)) := by
  change execFurrowBoundary dt dir enc s = _
  refine runUp_eq hup ?_
  rw [← ha, ← (ha ▸ s.advance_steer dt : a.steer = s.steer)]
  simp only [Bool.or_eq_true, Bool.not_eq_true', ← hb, ← ht, ← hu]
  subst hv
  rfl

theorem boundaryTakenAtOnce_runs : exec (.boundaryTakenAtOnce dt) s = .next (endStep dt s (
    if (s.waiting .applyFurrow ≠ none ∨ s.waiting .toState ≠ none ∨ s.waiting .swap ≠ none) ∧ a.seq.lastBoundary + ms 1 ≤ s.now + dt
    then a.boundary.biasUpdate else a)) := by
  subst ha
  change execBoundaryTakenAtOnce dt s = _
  exact runUp_eq hup (by simp [State.advance_waiting, Option.isSome_iff_ne_none])

omit ha in
theorem cellDeclaration_of_none {slow enc un bad seeds : Nat} (hn : s.seq.nextCell = none) :
    exec (.cellDeclaration dt slow enc un bad seeds) s = .next (endStep dt s (s.advance dt)) := by
  change execCellDeclaration dt slow enc un bad seeds s = _
  obtain ⟨clk, hseq⟩ := s.advance_seq dt
  exact runUp_eq hup (by simp only [hseq, hn])

theorem cellDeclaration_runs {t u v : State} {slow enc un bad seeds c : Nat} (hc : s.seq.nextCell = some c)
    (ht : t = (a.arbitrate false).applyAtCell.endCells.pruneRuns)
    (hu : u = { (t.slowSample c slow).1 with seq := { (t.slowSample c slow).1.seq with
      cellNo := t.seq.cellNo + 1, lastDecl := t.now, nextCell := if c + 1 < hCells t.sched then some (c + 1) else none } })
    (hv : v = u.each (List.range 32)
      (fun i w => w.declareString i c (t.seq.cellNo + 1) (t.slowSample c slow).2 (bit bad i) (bit un i) (bit seeds i))) :
    exec (.cellDeclaration dt slow enc un bad seeds) s = .next (endStep dt s (
      if s.steer.running = true ∧ s.steer.locked = true ∧ c < hCells s.sched ∧ a.phaseDue c enc = true
      then (((v.each (List.range 32) fun i w => w.laterSheaf i).each (List.range 32) fun i w => w.capReq i).each
        (List.range 32) fun i w => w.calCellOf i).refBoundary
      else a)) := by
  change execCellDeclaration dt slow enc un bad seeds s = _
  refine runUp_eq hup ?_
  have hnext : a.seq.nextCell = some c := by
    obtain ⟨clk, hseq⟩ := s.advance_seq dt
    rw [ha, hseq]
    exact hc
  have hdue : (!a.steer.running || !a.steer.locked || decide (c ≥ hCells a.sched) || !a.phaseDue c enc) = true
      ↔ ¬(s.steer.running = true ∧ s.steer.locked = true ∧ c < hCells s.sched ∧ a.phaseDue c enc = true) := by
    rw [(ha ▸ s.advance_steer dt : a.steer = s.steer), (ha ▸ s.advance_sched dt : a.sched = s.sched)]
    cases s.steer.running <;> cases s.steer.locked <;> cases a.phaseDue c enc <;> simp
  rw [← ha]
  simp only [hnext, hdue, ite_not, ← ht, ← hu, ← hv]

theorem schedReload_runs (ok : Bool) : exec (.schedReload dt ok) s = .next (endStep dt s (
    if a.seq.reloading = false then a
    else if ok = true then { a with seq := { a.seq with reloading := false } }
    else ({ a with seq := { a.seq with reloading := false } } : State).post 0x2004 0 0)) := by
  subst ha
  change execSchedReload dt ok s = _
  exact runUp_eq hup (by simp only [Bool.not_eq_true'])

end Furrow

/-- Settles O25. -/
theorem furrowAndCellEventsRun : Obligations.FurrowAndCellEventsRun := by
  unfold Obligations.FurrowAndCellEventsRun
  exact ⟨⟨fun s a b t u v dt enc dir hup ha => furrowBoundary_runs hup ha, fun s a dt hup ha => boundaryTakenAtOnce_runs hup ha⟩,
    fun s dt slow enc un bad seeds hup => cellDeclaration_of_none hup,
    fun s a t u v dt slow enc un bad seeds c hup hc ha => cellDeclaration_runs hup ha hc,
    fun s a dt ok hup ha => schedReload_runs hup ha ok⟩

section Gates
variable {s t : State} {i mv : Nat} {tbl : Bool} {r : CellRun} {h : Shot} (ht : t = s.mapStr i (fun q => { q with lastTnom := some h.tNom }))
include ht

/-- Noting a shot's nominal instant leaves what gate 1 looks at. -/
theorem seedBad_of_lastTnom : (t.str i).seedBad = (s.str i).seedBad := by
  rw [ht, State.mapStr_str_same]

theorem judgeGates_at_gate1 (hbad : r.bad = true ∨ (s.str i).seedBad = true) : s.judgeGates i r h mv tbl = t.withhold i r.cellNo h.j 1 := by
  rw [← seedBad_of_lastTnom ht] at hbad
  simp only [State.judgeGates, ← ht, Bool.or_eq_true, if_pos hbad]

theorem judgeGates_past_gate1 (hbad : r.bad = false) (hseed : (s.str i).seedBad = false) :
    (r.bad || (t.str i).seedBad) = false := by
  rw [seedBad_of_lastTnom ht, hbad, hseed]; rfl

theorem judgeGates_at_gate2 (hbad : r.bad = false) (hseed : (s.str i).seedBad = false) (h2 : gate2Fails (s.str i).lastTnom h.tNom = true) :
    s.judgeGates i r h mv tbl = t.withhold i r.cellNo h.j 2 := by
  simp [State.judgeGates, ← ht, judgeGates_past_gate1 ht hbad hseed, h2]

theorem judgeGates_at_gate4 (hbad : r.bad = false) (hseed : (s.str i).seedBad = false) (h2 : gate2Fails (s.str i).lastTnom h.tNom = false)
    (h4 : t.shotGate4 i r h = true) : s.judgeGates i r h mv tbl = t.withhold i r.cellNo h.j 4 := by
  simp only [State.judgeGates, ← ht, judgeGates_past_gate1 ht hbad hseed, h2, h4, Bool.false_eq_true, if_false, if_true]

theorem judgeGates_at_gate5 {u : State} (hbad : r.bad = false) (hseed : (s.str i).seedBad = false) (h2 : gate2Fails (s.str i).lastTnom h.tNom = false)
    (h4 : t.shotGate4 i r h = false) (htbl : tbl = false) (hpair : pairOk (budgetAt t.sched i) = true)
    (hu : u = t.mapStr i (fun q => q.mapRun r.cellNo fun r => r.mapShot h.j fun h' => { h' with vMeas := mv, charge := t.charge i h.pw mv h.vres })) :
    s.judgeGates i r h mv tbl = if (u.gate5 i (t.charge i h.pw mv h.vres)).2 = true
      then ((u.gate5 i (t.charge i h.pw mv h.vres)).1.chargeShot i (t.charge i h.pw mv h.vres)).mapStr i
        fun q => q.mapRun r.cellNo fun r => r.mapShot h.j fun h' => { h' with st := .admitted }
      else (u.gate5 i (t.charge i h.pw mv h.vres)).1.withhold i r.cellNo h.j 5 := by
  simp only [State.judgeGates, ← ht, judgeGates_past_gate1 ht hbad hseed, h2, h4, htbl, hpair, Bool.false_eq_true, if_false, Bool.not_true,
    Bool.or_false, ← hu]

end Gates

theorem decide_lt_add_eq_double (l t c : Nat) : decide (t < l + c) = decide (2 * t < 2 * l + 2 * c) := decide_eq_decide.mpr (by omega)

theorem ns_625 : ns 625 = 2 * 1600000 := by norm_num [ns]

/-- Gate 2 asks for 312.5 ns between two nominal instants of a string (R45). -/
theorem gate2Fails_some (l t : Nat) : gate2Fails (some l) t = decide (2 * t < 2 * l + ns 625) := by
  rw [ns_625, gate2Fails, Option.any_some]
  exact decide_lt_add_eq_double l t 1600000

/-- What a shot taken from a run meets, where it is the first of the run's that fits. -/
theorem mem_of_nextShot {s : State} {i : Nat} {r : CellRun} {h : Shot} (hn : s.nextShot i = some (r, h)) :
    h ∈ r.shots ∧ h.st = .scheduled ∧ s.now + ns 20 ≤ h.tFire := by
  simp only [State.nextShot, Option.bind_eq_some_iff, Option.map_eq_some_iff, Prod.mk.injEq] at hn
  obtain ⟨r', -, h', hfind, rfl, rfl⟩ := hn
  exact ⟨List.mem_of_find?_eq_some hfind, by simpa using List.find?_some hfind⟩

theorem shotDecision_runs {s a : State} {dt i mv : Nat} {tbl : Bool} (hup : s.holdUp = true) (ha : a = s.advance dt) :
    exec (.shotDecision dt i mv tbl) s = .next (endStep dt s (
      match a.nextShot i with
      | none => a
      | some (r, h) => if s.now + dt + ns 50 < h.tFire then a else a.judgeGates i r h mv tbl)) := by
  subst ha
  change execShotDecision dt i mv tbl s = _
  exact runUp_eq hup (by rewrite [State.advance_now]; rfl)

/-- Settles O26. -/
theorem shotGatesInOrder : Obligations.ShotGatesInOrder := by
  unfold Obligations.ShotGatesInOrder
  refine ⟨fun s a dt i mv tbl hup ha => shotDecision_runs hup ha, fun s i r h hn => mem_of_nextShot hn, ?_, ?_, fun t => rfl⟩
  · intro s t i mv tbl r h ht
    refine ⟨judgeGates_at_gate1 ht, judgeGates_at_gate2 ht, judgeGates_at_gate4 ht, ?_⟩
    intro u hbad hseed h2 h4 htbl hpair hu
    have h5 := judgeGates_at_gate5 ht hbad hseed h2 h4 htbl hpair hu
    exact ⟨fun hf => by rw [h5, if_neg (by simp [hf])], fun hp => by rw [h5, if_pos hp]⟩
  · exact gate2Fails_some

section Shots
variable {s a : State} {dt i : Nat} (hup : s.holdUp = true)
include hup

theorem shotFire_runs {err : Int} (ha : a = s.advance dt) : exec (.shotFire dt i err) s = .next (endStep dt s (
    match s.admittedShot i with
    | none => a
    | some (r, h) =>
      if s.now + dt < ((h.tFire : Int) + err).toNat then a
      else if s.padGated i = true then
        (a.mapStr i fun q => q.mapRun r.cellNo fun r => r.mapShot h.j fun h => { h with st := .padStopped }).count (288 + i) 1
      else a.fireEdge i r h (((h.tFire : Int) + err).toNat / 80) err)) := by
  subst ha
  change execShotFire dt i err s = _
  have hadm : (s.advance dt).admittedShot i = s.admittedShot i := by simp only [State.admittedShot, State.advance_str]
  have hpad : (s.advance dt).padGated i = s.padGated i := by simp only [State.padGated, State.advance_str, State.advance_pins]
  exact runUp_eq hup (by simp only [hadm, hpad, State.advance_now] <;> rfl)

theorem shotJudgement_runs {u : State} {drop q : Nat} {clip duty : Bool} {r : CellRun} {h : Shot} (ha : a = s.advance dt)
    (hu : u = a.mapStr i (fun p => p.mapRun r.cellNo fun r => r.mapShot h.j fun x => { x with judged := true, unjudged := duty && !h.proof }))
    (hshot : s.unjudgedShot i = some (r, h)) : exec (.shotJudgement dt i drop q clip duty) s = .next (endStep dt s (
      if s.now + dt < h.f * 80 + ns 40 then a
      else if duty = true ∧ h.proof = false then u.mapStr i fun p => { p with judg := updAt p.judg 4 (· + 1) }
      else u.judged i h (a.judge i r.use h drop q clip))) := by
  change execShotJudgement dt i drop q clip duty s = _
  have hnow : a.now = s.now + dt := ha ▸ s.advance_now dt
  have hsame : a.unjudgedShot i = some (r, h) := by rw [← hshot, ha]; simp only [State.unjudgedShot, State.advance_str]
  refine runUp_eq hup ?_
  rw [← ha]
  simp only [hsame, hnow, ← hu, Bool.and_eq_true, Bool.not_eq_true']

theorem shotJudgement_of_none {drop q : Nat} {clip duty : Bool} (hnone : s.unjudgedShot i = none) :
    exec (.shotJudgement dt i drop q clip duty) s = .next (endStep dt s (s.advance dt)) := by
  change execShotJudgement dt i drop q clip duty s = _
  have hsame : (s.advance dt).unjudgedShot i = none := by rw [← hnone]; simp only [State.unjudgedShot, State.advance_str]
  exact runUp_eq hup (by simp only [hsame])

end Shots

theorem pads_of_not_padGated {s : State} {i : Nat} (hfree : s.padGated i = false) :
    s.pins.armEn = true ∧ s.pins.armOk = true ∧ s.pins.fireGate = false ∧ (s.str i).blocked = false := by
  simp only [State.padGated, Bool.or_eq_false_iff, Bool.not_eq_false'] at hfree
  obtain ⟨⟨⟨hgate, harm⟩, hok⟩, hblocked⟩ := hfree
  exact ⟨harm, hok, hgate, hblocked⟩

/-- Settles O27. -/
theorem shotEventsRun : Obligations.ShotEventsRun := by
  unfold Obligations.ShotEventsRun
  exact ⟨fun s a dt i err hup ha => shotFire_runs hup ha, fun s i hfree => pads_of_not_padGated hfree,
    fun s a u dt i drop q clip duty r h hup ha hu hshot => shotJudgement_runs hup ha hu hshot,
    fun s dt i drop q clip duty hup hnone => shotJudgement_of_none hup hnone⟩

end Sys2Proof.Machine

/-! Faults of strings, the emission budget guard and SATBUS (R76 to R80, R93, R97, R98, R103 to R106, R113, R114, R157). -/

namespace Sys2Proof.Machine

section StringFaults
variable {s a : State} {dt i : Nat} {q : StrState} (hup : s.holdUp = true) (ha : a = s.advance dt) (hq : q = s.str i)
include hup ha hq

theorem fireSkew_runs (v : Nat) : exec (.fireSkew dt i v) s = .next (endStep dt s (
    if 16 ≤ q.skewRun then (a.mapStr i fun p => { p with skewRun := 0, recalReq := p.recalReq + 1 }).post 0x2006 1 i [v] else a)) := by
  subst ha hq
  change execFireSkew dt i v s = _
  exact runUp_eq hup (by rw [State.advance_str])

theorem resOvervolt_runs : exec (.resOvervolt dt i) s = .next (endStep dt s (
    if q.overV = true ∧ q.overVSince + ms 1 ≤ s.now + dt ∧ ¬(q.mode = .faulted ∧ q.cause = 4)
    then (a.faultString i 4).mapStr i fun p => { p with gateHeld := true } else a)) := by
  subst ha hq
  change execResOvervolt dt i s = _
  exact runUp_eq hup (by simp [and_assoc, imp_iff_not_or])

theorem resRegulation_runs {mv since : Nat} {ilim : Bool} {u : State} (hs : since = q.regSince.getD (s.now + dt))
    (hu : u = a.mapStr i (fun p => { p with regSince := some since })) : exec (.resRegulation dt i mv ilim) s = .next (endStep dt s (
      if ilim = false ∨ a.setpoint i * 20 ≤ mv + 2000 then a.mapStr i fun p => { p with regSince := none, regPosted := false }
      else if q.regPosted = false ∧ since + ms 10 ≤ s.now + dt
      then (u.mapStr i fun p => { p with regPosted := true }).post 0x2007 1 i [mv] else u)) := by
  change execResRegulation dt i mv ilim s = _
  have hlimits : (!(ilim && decide (mv + 2000 < a.setpoint i * 20))) = true ↔ ilim = false ∨ a.setpoint i * 20 ≤ mv + 2000 := by
    cases ilim <;> simp
  refine runUp_eq hup ?_
  rw [← ha]
  simp only [hlimits, (by rw [ha, hq]; exact s.advance_str dt i : a.str i = q), (ha ▸ s.advance_now dt : a.now = s.now + dt), ← hs, ← hu,
    Bool.and_eq_true, Bool.not_eq_true', decide_eq_true_eq, ge_iff_le]

theorem stringUnverified_runs : exec (.stringUnverified dt i) s = .next (endStep dt s (
    if q.aged = true ∧ q.mode = .inService ∧ s.ranges = true ∧ ms 200 ≤ a.verAge i
    then (a.mapStr i fun p => { p with mode := .unverified, fromFault := false }).post 0x200A 1 i else a)) := by
  subst ha hq
  change execStringUnverified dt i s = _
  exact runUp_eq hup (by simp [and_assoc])

theorem noLight_runs {u : State} (hu : u = a.mapStr i (fun p => { p with refShots := 0, refHits := 0 })) :
    exec (.noLight dt i) s = .next (endStep dt s (
      if a.refOn = true ∧ 1000 ≤ q.refShots then (if q.refHits * 100 < q.refShots then u.faultString i 5 else u) else a)) := by
  subst ha hq
  change execNoLight dt i s = _
  exact runUp_eq hup (by simp [← hu])

end StringFaults

/-- What a change of a string makes of it depends on the string it is made to alone. -/
theorem State.mapStr_congr {s : State} {i : Nat} {f g : StrState → StrState} (h : f (s.str i) = g (s.str i)) : s.mapStr i f = s.mapStr i g := by
  have hupd : s.strs.upd i f = s.strs.upd i g := congrArg (s.strs.set i) h
  rw [State.mapStr, hupd, State.mapStr]

section FirstFault
variable {s t : State} {i c : Nat} (ht : t = s.mapStr i (fun q => { q with
  mode := .faulted, cause := if (s.str i).mode == .faulted && c != 8 then (s.str i).cause else c, dlCount := 0
  gateHeld := (s.str i).gateHeld || c == 4 || c == 8 }))
include ht

theorem faultString_eq : s.faultString i c = if c = 8 then t.postHw 0x2009 1 i else if (s.str i).mode == .faulted then t else t.post 0x2008 1 i [c] := by
  have hsame : t = s.mapStr i (fun q => { q with
      mode := .faulted, cause := if q.mode == .faulted && c != 8 then q.cause else c, dlCount := 0, gateHeld := q.gateHeld || c == 4 || c == 8 }) :=
    ht.trans (State.mapStr_congr rfl)
  rw [hsame, State.faultString]

theorem faultString_gateStuck (hc : c = 8) : s.faultString i c = t.postHw 0x2009 1 i := by
  rw [faultString_eq ht, if_pos hc]

theorem faultString_again (hc : c ≠ 8) (hm : (s.str i).mode = .faulted) : s.faultString i c = t := by
  rw [faultString_eq ht, if_neg hc, if_pos (by rw [hm]; rfl)]

theorem faultString_first (hc : c ≠ 8) (hm : (s.str i).mode ≠ .faulted) : s.faultString i c = t.post 0x2008 1 i [c] := by
  rw [faultString_eq ht, if_neg hc, if_neg (by simpa using hm)]

end FirstFault

/-- Settles O28. -/
theorem stringFaultsRun : Obligations.StringFaultsRun := by
  unfold Obligations.StringFaultsRun
  refine ⟨fun s a dt i q hup ha hq => ⟨fireSkew_runs hup ha hq, fun high => ?_, resOvervolt_runs hup ha hq,
      fun mv since ilim u hs hu => resRegulation_runs hup ha hq hs hu, ?_, stringUnverified_runs hup ha hq, fun u hu => noLight_runs hup ha hq hu⟩,
    fun s t i c ht => ⟨faultString_gateStuck ht, faultString_again ht, faultString_first ht⟩⟩
  · change execResOvervoltComparator dt i high s = _
    exact run_eq (by rw [State.advance_now, ha])
  · change execGateStuck dt i s = _
    exact runUp_eq hup (by rw [ha])

section GuardAndSatbus
variable {s a : State} {dt : Nat} (ha : a = s.advance dt)
include ha

theorem guardBucketBoundary_runs {u : State} {w : Nat} (hu : u = a.each (List.range 32) (fun i t => t.mapStr i fun q =>
      { q with guard := updAt q.guard w fun g => { g with buckets := 0 :: g.buckets.take 16 } })) :
    exec (.guardBucketBoundary dt w) s = .next (endStep dt s (
      if a.bucketEnd w ≤ s.now + dt then { u with seq := { u.seq with guardIdx := updAt u.seq.guardIdx w (· + 1) } } else a)) := by
  change execGuardBucketBoundary dt w s = _
  refine run_eq ?_
  rw [← ha]
  simp only [(ha ▸ s.advance_now dt : a.now = s.now + dt), ge_iff_le, ← hu]

theorem guardBlockEnd_runs (i w : Nat) : exec (.guardBlockEnd dt i w) s = .next (endStep dt s (
    match ((s.str i).guard.getD w {}).release with
    | some r => if r ≤ s.now + dt then a.mapStr i fun q => { q with guard := updAt q.guard w fun g => { g with release := none } } else a
    | none => a)) := by
  subst ha
  change execGuardBlockEnd dt i w s = _
  exact run_eq (by rewrite [State.advance_str, State.advance_now]; rfl)

theorem satbusRefresh_runs (hup : s.holdUp = true) : exec (.satbusRefresh dt) s = .next (endStep dt s (
    if s.satbus.lastSent + ms 10 ≤ s.now + dt then a.satRefresh else a)) := by
  subst ha
  change execSatbusRefresh dt s = _
  exact runUp_eq hup (by simp [hup])

theorem satbusEchoCheck_runs {u v : State} {lg : Nat} {ok : Bool} (hup : s.holdUp = true)
    (hu : u = { a with satbus := { s.satbus with endAt := none, breaks := s.satbus.breaks + 1, breakRun := s.satbus.breakRun + 1 } })
    (hv : v = u.post 0x200B 0 0 [lg]) : exec (.satbusEchoCheck dt ok lg) s = .next (endStep dt s (
      match s.satbus.endAt with
      | none => a
      | some e =>
        if s.now + dt < e + ns 6250 then a
        else if ok = true then { a with satbus := { s.satbus with endAt := none, breakRun := 0 } }
        else if s.satbus.breakRun = 2 then
          v.each ((List.range 32).filter fun i => v.strMode i == 2 && (decide (v.satIdx i > lg) || decide (lg ≥ 16))) fun i w => w.faultString i 6
        else u)) := by
  change execSatbusEchoCheck dt ok lg s = _
  have hsat : s.satbus = a.satbus := ha ▸ (s.advance_satbus dt).symm
  rw [hsat] at hu ⊢
  refine runUp_eq hup ?_
  rw [← ha, (ha ▸ (s.advance_now dt).symm : s.now + dt = a.now)]
  cases a.satbus.endAt <;> simp only [← hu, ← hv, Nat.reduceEqDiff]

end GuardAndSatbus

/-- Settles O29. -/
theorem guardAndSatbusEventsRun : Obligations.GuardAndSatbusEventsRun := by
  unfold Obligations.GuardAndSatbusEventsRun
  exact ⟨⟨fun s a u dt w ha hu => guardBucketBoundary_runs ha hu, fun s a dt i w ha => guardBlockEnd_runs ha i w⟩,
    fun s a dt hup ha => satbusRefresh_runs ha hup, fun s a u v dt lg ok hup ha hu hv => satbusEchoCheck_runs ha hup hu hv⟩

end Sys2Proof.Machine

/-! Photon events and ambient estimates, and the candidates and pairs of the Thresher (R131 to R171, R183, R188, R201 to R206, R213). -/

namespace Sys2Proof.Machine

/-- An event of the Gleaner acts in the state in which the requests of the engine cycles before have been taken (R254). -/
theorem runGw_eq {s t u : State} {dt : Nat} {f : State → State} (h : s.holdUp = true) (ht : t = (s.advance dt).arbitrate false) (hf : f t = u) :
    runGw dt s f = .next (endStep dt s u) := by
  rw [ht] at hf
  exact runUp_eq h hf

section Receiver
variable {s : State} {dt : Nat} (hup : s.holdUp = true)
include hup

theorem photonEvent_runs {t u v : State} {c : ChanState} {ch q peak code codeB low n re : Nat} {ht full : Bool}
    (harb : t = (s.advance dt).arbitrate false)
    (hc : c = t.ch ch) (hn : n = photons q (t.calPix ch (tQ1 ch))) (hre : re = t.now + max (ns 2) low)
    (hfull : full = decide (c.evqBusy ≥ t.now + 32 * 12800))
    (hht : ht = (crosses (t.tiaOut ch peak) (t.htCode ch) && t.chBlk ch 0 3 1 == 1))
    (hu : u = (if ch = 512 ∧ t.rx.refFrom ≠ none then { t with rx := { t.rx with refCount := t.rx.refCount + 1 } } else t))
    (hv : v = u.mapCh ch (fun k => { k with
      rearmAt := re, sheaves := k.sheaves.map fun h => h.countEvent t.now n re
      evqBusy := if full = true then k.evqBusy else max k.evqBusy t.now + 12800, evtOvf := k.evtOvf + b2n full })) :
    exec (.photonEvent dt ch q peak code codeB low) s = .next (endStep dt s (
      if t.chEn ch = false ∨ t.deadCh ch = true ∨ t.now < c.rearmAt ∨ crosses (t.tiaOut ch peak) (t.ltCode ch) = false then t
      else if full = true then
        (if ch = 512 then v else match (v.ch ch).sheaves.reverse.find? fun h => h.ph == .accumulating with
          | some h => v.mapSheaf ch h.cellNo (·.flag 5)
          | none => v)
      else if ch = 512 then v.refEvent n ht (if c.onLaneB = true then codeB else code)
      else (v.lighting ch).foldl (fun w i => w.toCandidate ch n ht (if c.onLaneB = true then codeB else code) i) v)) := by
  change execPhotonEvent dt ch q peak code codeB low s = _
  have hnone : (!t.chEn ch || t.deadCh ch || decide (t.now < c.rearmAt) || !crosses (t.tiaOut ch peak) (t.ltCode ch)) = true
      ↔ t.chEn ch = false ∨ t.deadCh ch = true ∨ t.now < c.rearmAt ∨ crosses (t.tiaOut ch peak) (t.ltCode ch) = false := by
    simp [or_assoc]
  have href : (decide (ch = 512) && t.rx.refFrom.isSome) = true ↔ ch = 512 ∧ t.rx.refFrom ≠ none := by simp [Option.isSome_iff_ne_none]
  have hnow : u.now = t.now := by rw [hu]; split_ifs <;> rfl
  rw [execPhotonEvent]
  refine runGw_eq hup harb ?_
  simp only [-Nat.reduceMul, ← hc, ← hn, ← hre, ← hfull, ← hht, hnone, href, ← hu, hnow, ← hv] <;> rfl

theorem inputOverload_runs {a t : State} {c : Nat} {on : Bool} (ha : a = s.advance dt) (ht : t = a.mapCh c (fun q => { q with overload := on })) :
    exec (.inputOverload dt c on) s = .next (endStep dt s (if on = true
      then t.mapCh c fun q => { q with sheaves := q.sheaves.map fun h => if h.ph == .ready then h else h.flag 4 } else t)) := by
  change execInputOverload dt c on s = _
  refine runUp_eq hup ?_
  rw [← ha]
  simp only [← ht]

theorem detHvPg_runs {a : State} {level : Bool} (ha : a = s.advance dt) : exec (.detHvPg dt level) s = .next (endStep dt s (
    if level = true then { a with rx := { s.rx with hvBad := false } }
    else if s.pins.detHvEn = true ∧ s.rx.hvBad = false
    then (({ a with rx := { s.rx with hvBad := true } } : State).flagOpen (fun _ => true) 9).post 0x3002 0 0
    else a)) := by
  subst ha
  change execDetHvPg dt level s = _
  refine runUp_eq hup ?_
  cases level <;> simp

theorem ambientEstimate_runs {a : State} {c : Nat} {due : Sheaf → Bool} (ha : a = s.advance dt)
    (hdue : due = (fun h => h.lam.isNone && h.spanLen.any fun l => decide (s.now + dt ≥ h.spanStart + l + ns 100))) :
    exec (.ambientEstimate dt c) s = .next (endStep dt s (
      if c = 512 then a.refEstimate
      else a.mapCh c fun q =>
        ({ q with sheaves := q.sheaves.map fun h => if due h = true then { h with lam := some (estimate h.count (h.spanLen.getD 0)) } else h } : ChanState).estimates
          ((q.sheaves.filter due).map fun h => estimate h.count (h.spanLen.getD 0)))) := by
  subst ha hdue
  change execAmbientEstimate dt c s = _
  exact runUp_eq hup (by simp only [State.advance_now])

end Receiver

/-- Settles O30. -/
theorem receiverEventsRun : Obligations.ReceiverEventsRun := by
  unfold Obligations.ReceiverEventsRun
  exact ⟨fun s t u v c dt ch q peak code codeB low n re ht full hup harb hc hn hre hfull hht hu hv =>
      photonEvent_runs hup harb hc hn hre hfull hht hu hv,
    fun s a t dt c on hup ha ht => inputOverload_runs hup ha ht, fun s a dt level hup ha => detHvPg_runs hup ha,
    fun s a dt c due hup ha hdue => ambientEstimate_runs hup ha hdue⟩

section Thresher
variable {s : State} {dt : Nat} (hup : s.holdUp = true)
include hup

theorem holdoffEnd_runs (i : Nat) : exec (.holdoffEnd dt i) s = .next (endStep dt s { s.advance dt with
    thresh := { s.thresh with units := s.thresh.units.upd i fun u => if (u.endAt.any fun e => decide (s.now + dt ≥ e)) then { u with endAt := none } else u } }) := by
  change execHoldoffEnd dt i s = _
  exact runUp_eq hup (by rw [← State.advance_thresh s dt, ← State.advance_now s dt])

section Slice
variable {a : State} {i : Nat} (ha : a = s.advance dt)
include ha

theorem candidateArrival_idle (hidle : s.now + dt < (s.thresh.slices.get i).takeFrom ∨ a.oldestCand i = none) :
    exec (.candidateArrival dt i) s = .next (endStep dt s a) := by
  change execCandidateArrival dt i s = _
  have hthresh : a.thresh = s.thresh := ha ▸ s.advance_thresh dt
  have hnow : a.now = s.now + dt := ha ▸ s.advance_now dt
  have hcand : (if a.now < (a.thresh.slices.get i).takeFrom then none else a.oldestCand i) = none := by
    rw [hthresh, hnow]
    obtain hearly | hnone := hidle
    · rw [if_pos hearly]
    · rw [hnone, ite_self]
  refine runUp_eq hup ?_
  rw [← ha]
  simp only [hcand]

theorem candidateArrival_takes {t : State} {c : Nat} {d : Cand} {ps : List (Nat × Nat × Nat)} (hfrom : (s.thresh.slices.get i).takeFrom ≤ s.now + dt)
    (hold : a.oldestCand i = some (c, d))
    (ht : t = a.mapCh c (fun q => { q with candq := eraseFirst (fun x => x.str == i) q.candq, candFrom := s.now + dt + ns 20 }))
    (hps : ps = t.pairsOf d) : exec (.candidateArrival dt i) s = .next (endStep dt s (((ps.map (·.1)).eraseDups).foldl (fun w n => w.joinPairs i c d ps n)
      ((({ t with thresh := { t.thresh with slices := t.thresh.slices.upd i fun k =>
        { k with cands := k.cands + 1, pairs := k.pairs + ps.length, takeFrom := s.now + dt + ns 1 } } } : State).count (128 + 2 * i) 1).count
          (129 + 2 * i) ps.length))) := by
  change execCandidateArrival dt i s = _
  have hnow : s.now + dt = a.now := ha ▸ (s.advance_now dt).symm
  have hcand : (if a.now < (a.thresh.slices.get i).takeFrom then none else a.oldestCand i) = some (c, d) := by
    rw [(ha ▸ s.advance_thresh dt : a.thresh = s.thresh), ← hnow, if_neg (Nat.not_lt.mpr hfrom), hold]
  rw [hnow] at ht ⊢
  have htnow : t.now = a.now := by rw [ht]; rfl
  refine runUp_eq hup ?_
  rw [← ha]
  simp only [hcand, ← ht, ← hps, htnow]

end Slice

section Engines
variable {a : State} {c : Nat} (ha : a = s.advance dt)
include ha

theorem pairDelivery_idle (hidle : s.now + dt < (s.ch c).engFrom ∨ (s.ch c).pairq = []) : exec (.pairDelivery dt c) s = .next (endStep dt s a) := by
  change execPairDelivery dt c s = _
  have hpairs : (if a.now < (a.ch c).engFrom then [] else (a.ch c).pairq) = [] := by
    rw [ha, State.advance_ch, State.advance_now]
    obtain hearly | hnone := hidle
    · rw [if_pos hearly]
    · rw [hnone, ite_self]
  refine runUp_eq hup ?_
  rw [← ha]
  simp only [hpairs]

theorem pairDelivery_takes {t u : State} {e : CandPair} {rest : List CandPair} (hfrom : (s.ch c).engFrom ≤ s.now + dt)
    (hq : (s.ch c).pairq = e :: rest)
    (ht : t = a.mapCh c (fun k => { k with pairq := rest, engFrom := s.now + dt + ns ((e.qr.length + 1) / 2) }))
    (hu : u = (t.addCounts c e.qr.length).mapSheaf c e.cellNo (Sheaf.takePair e)) :
    exec (.pairDelivery dt c) s = .next (endStep dt s (match t.sheafAt c e.cellNo with
      | none => t.mapCh c fun q => { q with latePair := q.latePair + e.qr.length }
      | some h =>
        if h.miss = true ∨ h.tLim < e.tEdge then t
        else if h.ph ≠ .accumulating then
          (t.mapCh c fun q => { q with latePair := q.latePair + e.qr.length }).mapSheaf c e.cellNo fun h => h.flagNow 15
        else if 768 ≤ h.logLen then u.mapCh c fun q => { q with logOvf := q.logOvf + 1 } else u)) := by
  change execPairDelivery dt c s = _
  have hnow : s.now + dt = a.now := ha ▸ (s.advance_now dt).symm
  have hpairs : (if a.now < (a.ch c).engFrom then [] else (a.ch c).pairq) = e :: rest := by
    rw [(ha ▸ s.advance_ch dt c : a.ch c = s.ch c), ← hnow, if_neg (Nat.not_lt.mpr hfrom), hq]
  rw [hnow] at ht
  refine runUp_eq hup ?_
  rw [← ha]
  simp only [hpairs, ← ht, ← hu]
  cases t.sheafAt c e.cellNo <;> simp

end Engines

theorem alertPinRelease_runs {a : State} (ha : a = s.advance dt) : exec (.alertPinRelease dt) s = .next (endStep dt s (match s.thresh.pinSince with
    | none => a
    | some p => if s.thresh.outstanding = [] ∧ p + s.thresh.pinMin ≤ s.now + dt
      then { a with thresh := { s.thresh with pinSince := none }, pins := { s.pins with alertN := true } } else a)) := by
  subst ha
  change execAlertPinRelease dt s = _
  refine runUp_eq hup ?_
  cases hpin : s.thresh.pinSince <;> simp [hpin]

end Thresher

/-- A pair of one sheaf bin adds the candidate's weight there. -/
theorem takePair_single {h : Sheaf} {e : CandPair} {q r : Nat} (hqr : e.qr = [(q, r)]) (hlog : h.logLen < 768) : h.takePair e =
    { h with bins := h.bins.set (r / 4096) (min 65535 (h.bins.get (r / 4096) + e.w)), sat := h.sat || decide (h.bins.get (r / 4096) + e.w > 65535)
             wTot := h.wTot + e.w, cands := h.cands + 1, log := e.ent :: h.log, logLen := h.logLen + 1 } := by
  simp only [Sheaf.takePair, hqr, List.foldl_cons, List.foldl_nil, addBin]
  rw [if_neg (Nat.not_le.mpr hlog)]

/-- Settles O32. -/
theorem thresherEventsRun : Obligations.ThresherEventsRun := by
  unfold Obligations.ThresherEventsRun
  exact ⟨fun s dt i hup => holdoffEnd_runs hup i, fun s a dt i hup ha hidle => candidateArrival_idle hup ha hidle,
    fun s a t dt i c d ps hup ha hfrom hold ht hps => candidateArrival_takes hup ha hfrom hold ht hps,
    fun s a dt c hup ha hidle => pairDelivery_idle hup ha hidle,
    fun s a t u dt c e rest hup ha hfrom hq ht hu => pairDelivery_takes hup ha hfrom hq ht hu,
    fun h e q r hqr hlog => takePair_single hqr hlog, fun s a dt hup ha => alertPinRelease_runs hup ha⟩

end Sys2Proof.Machine

/-! Channel-sheaves: opening, processing and release (R36, R202 to R217, R282, R284, R306, R314). -/

namespace Sys2Proof.Machine

@[simp] theorem State.advance_deadCh (s : State) (dt c : Nat) : (s.advance dt).deadCh c = s.deadCh c := by
  rw [State.deadCh, State.advance_ch, State.deadCh]

@[simp] theorem State.advance_nextRun (s : State) (dt c : Nat) : (s.advance dt).nextRun c = s.nextRun c := by
  simp only [State.nextRun, State.advance_str, State.advance_ch]

@[simp] theorem State.advance_listedBy (s : State) (dt c n : Nat) : (s.advance dt).listedBy c n = s.listedBy c n := by
  simp only [State.listedBy, State.advance_str]

section Sheaves
variable {s : State} {dt c : Nat} (hup : s.holdUp = true)
include hup

section Present
variable {a : State} (ha : a = s.advance dt)
include ha

theorem sheafOpen_runs : exec (.sheafOpen dt c) s = .next (endStep dt s (
    if 512 ≤ c ∨ s.deadCh c = true ∨ s.ranges = false then a
    else match s.nextRun c with
      | none => a
      | some r0 => match s.listedBy c r0.cellNo with
        | none => a.sheafBoundary c (a.darkSheaf c r0 0 true 1)
        | some (i, pos) => match (s.str i).run r0.cellNo with
          | none => a
          | some r =>
            if r.kind ≠ 0 then a.sheafBoundary c (a.darkSheaf c r i false r.kind)
            else if s.now + dt < r.tCell + eTFirst r.entry * 128 then a
            else a.sheafBoundary c (a.litSheaf c r i pos))) := by
  subst ha
  change execSheafOpen dt c s = _
  refine runUp_eq hup ?_
  simp only [State.advance_deadCh, State.advance_ranges, State.advance_nextRun, State.advance_listedBy, State.advance_str, State.advance_now,
    Bool.or_eq_true, decide_eq_true_eq, Bool.not_eq_true', or_assoc, ge_iff_le, bne_iff_ne] <;> rfl

theorem sheafProcessingStart_runs {t : State} {h : Sheaf} {r : CellRun} (hh : (s.ch c).sheaves.find? (fun h => h.ph == .accumulating) = some h)
    (hr : r = ((s.str h.str).run h.cellNo).getD {})
    (ht : t = a.mapCh c (fun q => { q with sheaves := q.sheaves.map fun x =>
      if x.ph == .processing && h.kind == 0 then { x with tStop := some (x.tStop.getD (s.now + dt)) } else x })) :
    exec (.sheafProcessingStart dt c) s = .next (endStep dt s (
      if (h.kind = 0 ∧ s.now + dt < h.tProcAt) ∨ (h.kind ≠ 0 ∧ h.lam = none) then a
      else if h.kind ≠ 0 then t.mapSheaf c h.cellNo fun _ => { h with ph := .processing, tProc := s.now + dt, slot := none }
      else t.mapSheaf c h.cellNo fun _ => { h with
        ph := .processing, tProc := s.now + dt, slot := none, fired := r.firedN, gates := r.gates
        shotF := (r.inSt .fired).map (fun x => (x.j, x.f)), flags := h.flags ||| BitVec.ofNat 32 (b2n r.outReg * 4) })) := by
  change execSheafProcessingStart dt c s = _
  have hnow : s.now + dt = a.now := ha ▸ (s.advance_now dt).symm
  have hfind : (a.ch c).sheaves.find? (fun h => h.ph == .accumulating) = some h := by rw [ha, State.advance_ch, hh]
  have hrun : ((a.str h.str).run h.cellNo).getD {} = r := by rw [ha, State.advance_str, hr]
  rw [hnow] at ht ⊢
  have htnow : t.now = a.now := by rw [ht]; rfl
  have hdue : (!(if h.kind = 0 then decide (a.now ≥ h.tProcAt) else h.lam.isSome)) = true
      ↔ (h.kind = 0 ∧ a.now < h.tProcAt) ∨ (h.kind ≠ 0 ∧ h.lam = none) := by
    by_cases hkind : h.kind = 0 <;> simp [hkind]
  refine runUp_eq hup ?_
  rw [← ha]
  simp only [hfind, hrun, hdue, ← ht, htnow]
  by_cases hkind : h.kind = 0 <;> simp only [hkind, ne_eq, not_true_eq_false, not_false_eq_true, if_true, if_false]

theorem sheafProcessingEnd_runs {h : Sheaf} (hh : (s.ch c).sheaves.find? (fun h => h.ph == .processing) = some h) :
    exec (.sheafProcessingEnd dt c) s = .next (endStep dt s (
      if h.kind = 0 then (a.count (cntGroup (c / 128) 0) (2 * a.coreCycles h.tProc (h.tStop.getD (s.now + dt)))).closeNormal c h
      else a.mapSheaf c h.cellNo fun x =>
        { x with ph := .ready, record := if h.kind = 2 then a.staleRecord c h else a.darkRecord c h, closedAt := s.now + dt })) := by
  subst ha
  change execSheafProcessingEnd dt c s = _
  exact runUp_eq hup (by simp only [State.advance_ch, hh, State.advance_now])

theorem sheafRecordRelease_runs {t : State} {full : Bool} {h : Sheaf} {rest : List Sheaf} (hs : (s.ch c).sheaves = h :: rest)
    (ht : t = (a.mapCh c fun q => { q with sheaves := rest }).release h.record) :
    exec (.sheafRecordRelease dt c full) s = .next (endStep dt s (
      if h.releasable (s.now + dt) = false ∨ a.releaseTurn c h = false then a
      else (if full = true then { t with silo := { t.silo with dumpDrop := t.silo.dumpDrop + h.dumps.length } }
        else h.dumps.foldl (fun u d => u.release d) t).releasedSheaf c h)) := by
  change execSheafRecordRelease dt c full s = _
  have hsame : (a.ch c).sheaves = h :: rest := by rw [ha, State.advance_ch, hs]
  refine runUp_eq hup ?_
  rw [← ha, (ha ▸ (s.advance_now dt).symm : s.now + dt = a.now)]
  simp only [hsame, Bool.or_eq_true, Bool.not_eq_true', ← ht]

end Present

theorem sheafEvents_of_none (hnone : (s.ch c).sheaves = []) :
    exec (.sheafProcessingStart dt c) s = .next (endStep dt s (s.advance dt)) ∧ exec (.sheafProcessingEnd dt c) s = .next (endStep dt s (s.advance dt))
    ∧ ∀ full, exec (.sheafRecordRelease dt c full) s = .next (endStep dt s (s.advance dt)) := by
  refine ⟨?_, ?_, fun full => ?_⟩
  · change execSheafProcessingStart dt c s = _
    exact runUp_eq hup (by simp only [State.advance_ch, hnone, List.find?_nil])
  · change execSheafProcessingEnd dt c s = _
    exact runUp_eq hup (by simp only [State.advance_ch, hnone, List.find?_nil])
  · change execSheafRecordRelease dt c full s = _
    exact runUp_eq hup (by simp only [State.advance_ch, hnone])

theorem processingTimeOut_runs : exec (.processingTimeOut dt c) s = .next (endStep dt s ((s.advance dt).mapCh c fun q =>
    { q with sheaves := q.sheaves.map fun h =>
      if h.ph == .processing && h.kind == 0 && h.tStop.isNone && decide (s.now + dt ≥ h.tProc + ns 32768)
      then { h with tStop := some (s.now + dt) } else h })) := by
  change execProcessingTimeOut dt c s = _
  exact runUp_eq hup (by rw [State.advance_now])

end Sheaves

/-- Settles O33. -/
theorem sheafEventsRun : Obligations.SheafEventsRun := by
  unfold Obligations.SheafEventsRun
  refine ⟨fun s a dt c hup ha => sheafOpen_runs hup ha, fun s c h => ⟨fun h0 => ?_, fun hn => ?_⟩, fun s dt c hup hnone => sheafEvents_of_none hup hnone,
    fun s a t dt c h r hup ha hh hr ht => sheafProcessingStart_runs hup ha hh hr ht, fun s dt c hup => processingTimeOut_runs hup,
    fun s a dt c h hup ha hh => sheafProcessingEnd_runs hup ha hh, fun s a t dt c full h rest hup ha hs ht => sheafRecordRelease_runs hup ha hs ht⟩
  · rw [State.sheafBoundary, h0]; rfl
  · rw [State.sheafBoundary, if_pos (bne_iff_ne.mpr hn)]

end Sys2Proof.Machine

/-! The Gleaner's captures, gain and slices (R237 to R243, R246 to R248, R254 to R256). -/

namespace Sys2Proof.Machine

section Gleaner
variable {s t : State} {dt a : Nat} (hup : s.holdUp = true) (ht : t = (s.advance dt).arbitrate false)
include hup ht

theorem captureWindowClose_runs {low : Bool} {g : GwState} (hg : g = t.gw.get a) :
    exec (.captureWindowClose dt a low) s = .next (endStep dt s (match (g.running.toList ++ g.waiting).find? fun c => !c.closed with
      | none => t
      | some c => match t.place a c with
        | none => t
        | some (n, _, _) => if t.now < c.last n * 3200 then t else t.mapGw a fun g => (g.closeWindow c).noneOpen t.now (t.sampleNow + 1) low)) := by
  subst hg
  rw [exec, execCaptureWindowClose]
  exact runGw_eq hup ht rfl

theorem captureReadoutDone_idle {smp : List SampleIn} (hidle : (t.gw.get a).running = none) :
    exec (.captureReadoutDone dt a smp) s = .next (endStep dt s t) := by
  rw [exec, execCaptureReadoutDone]
  exact runGw_eq hup ht (by simp only [hidle])

theorem captureReadoutDone_runs {u : State} {n frac method : Nat} {smp : List SampleIn} {c : Capture} (hrun : (t.gw.get a).running = some c)
    (hplace : t.place a c = some (n, frac, method))
    (hu : u = t.mapGw a (fun g => { g with
      running := none, captures := g.captures + 1, fallback := g.fallback + b2n (method == 1), unmeasured := g.unmeasured + b2n (method == 2) })) :
    exec (.captureReadoutDone dt a smp) s = .next (endStep dt s (
      if c.closed = true ∧ t.readEnd a [c] c.runAt ≤ t.now
      then (((({ u with silo := { u.silo with waveQ := u.silo.waveQ - c.bytes } } : State).count (192 + 2 * a) 1).count (193 + 2 * a) c.window).release
        (t.waveform a c n frac method smp)).nextCapture a
      else t)) := by
  rw [exec, execCaptureReadoutDone]
  refine runGw_eq hup ht ?_
  simp only [hrun, hplace]
  by_cases hdone : c.closed = true ∧ t.readEnd a [c] c.runAt ≤ t.now
  · have hboth : (c.closed && decide (t.now ≥ t.readEnd a [c] c.runAt)) = true := by simpa using hdone
    simp only [if_pos hdone, hboth, ← hu]
  · have hboth : (c.closed && decide (t.now ≥ t.readEnd a [c] c.runAt)) = false := by simpa using hdone
    simp only [if_neg hdone, hboth]

theorem gainSaturationSwitch_runs : exec (.gainSaturationSwitch dt a) s = .next (endStep dt s (t.mapGw a fun g =>
    if g.mode = .off ∨ g.mode = .dead ∨ g.gainMode ≠ 0 ∨ g.gain = 0 then g
    else { g.setGain (t.sampleNow + 1) (g.gain - 1) (if g.openCaps = 0 then .gain else .sat) with pendUp := false })) := by
  rw [exec, execGainSaturationSwitch]
  exact runGw_eq hup ht (by simp only [Bool.or_eq_true, beq_iff_eq, bne_iff_ne, decide_eq_true_eq, or_assoc])

theorem gainRangeStep_saturated : exec (.gainRangeStep dt a 0) s = .next (endStep dt s (t.mapGw a fun g =>
    if g.mode = .off ∨ g.mode = .dead ∨ g.gainMode ≠ 0 then g else { g with pendUp := g.pendUp || decide (g.gain > 0) })) := by
  rw [exec, execGainRangeStep]
  exact runGw_eq hup ht (by simp only [Bool.or_eq_true, beq_iff_eq, bne_iff_ne, or_assoc, if_true])

theorem gainRangeStep_pending : exec (.gainRangeStep dt a 1) s = .next (endStep dt s (t.mapGw a fun g =>
    if g.mode = .off ∨ g.mode = .dead ∨ g.gainMode ≠ 0 ∨ g.openCaps ≠ 0 ∨ g.pendUp = false then g
    else { g.setGain (t.sampleNow + 1) (g.gain - 1) .gain with pendUp := false })) := by
  rw [exec, execGainRangeStep]
  refine runGw_eq hup ht (congrArg (t.mapGw a) (funext fun g => ?_))
  by_cases hfixed : g.mode = .off ∨ g.mode = .dead ∨ g.gainMode ≠ 0
  · rw [if_pos (by simpa [or_assoc] using hfixed), if_pos (by tauto)]
  · rw [if_neg (by simpa [or_assoc] using hfixed)]
    by_cases hpend : g.openCaps = 0 ∧ g.pendUp = true
    · rw [if_neg one_ne_zero, if_pos rfl, if_pos (by simpa using hpend), if_neg (by simp only [hpend]; tauto)]
    · rw [if_neg one_ne_zero, if_pos rfl, if_neg (by simpa using hpend),
        if_pos (Or.inr (Or.inr (Or.inr (by simpa [imp_iff_not_or] using hpend))))]

theorem gainRangeStep_low : exec (.gainRangeStep dt a 2) s = .next (endStep dt s (t.mapGw a fun g =>
    if g.mode = .off ∨ g.mode = .dead ∨ g.gainMode ≠ 0 ∨ 2 ≤ g.gain then g
    else if g.openCaps = 0 then g.setGain (t.sampleNow + 1) (g.gain + 1) .gain else { g with pendDown := true })) := by
  rw [exec, execGainRangeStep]
  refine runGw_eq hup ht (congrArg (t.mapGw a) (funext fun g => ?_))
  by_cases hfixed : g.mode = .off ∨ g.mode = .dead ∨ g.gainMode ≠ 0
  · rw [if_pos (by simpa [or_assoc] using hfixed), if_pos (by tauto)]
  · rw [if_neg (by simpa [or_assoc] using hfixed), if_neg two_ne_zero, if_neg (by decide)]
    have hgain : (g.mode = .off ∨ g.mode = .dead ∨ g.gainMode ≠ 0 ∨ 2 ≤ g.gain) ↔ 2 ≤ g.gain := by tauto
    rw [ite_cond_congr (propext hgain)]

theorem sliceRotation_runs {meas : List Int} {g : GwState} (hg : g = t.gw.get a) :
    exec (.sliceRotation dt a meas) s = .next (endStep dt s (match g.spare with
      | none => t
      | some sp =>
        if g.on = false ∨ t.now < g.rotAt + us t.calrot then t
        else (if g.calPend = true then t.sliceCal a sp (meas.getD 0 0) (meas.getD 1 65536) else t).mapGw a fun g => { g with
          rotAt := t.now, calPend := false, dueSince := if g.dueSince.isSome || g.spare.isNone then g.dueSince else some t.now })) := by
  rw [exec, execSliceRotation]
  refine runGw_eq hup ht ?_
  simp only [← hg, Bool.or_eq_true, Bool.not_eq_true', decide_eq_true_eq] <;> rfl

theorem sliceSwap_runs {u : State} {meas : List Int} {g : GwState} (hg : g = t.gw.get a)
    (hu : u = t.mapGw a (fun g => { g with dueSince := none, calgap := false, nextPos := (g.nextPos + 1) % 4 })) :
    exec (.sliceSwap dt a meas) s = .next (endStep dt s (
      if g.on = false ∨ g.openCaps ≠ 0 ∨ t.now < g.closedAt + 64 * 3200 then t
      else match g.spare, g.mustRepl, g.dueSince with
        | none, _, _ => t
        | some sp, some p, _ => t.replaceSlice a p sp (t.sampleNow - 63)
        | some _, none, none => t
        | some sp, none, some d =>
          if t.now < d + 1024 * 3200 then t
          else if 32 < meas.getD 0 0 then u.swapAborts a sp (g.pos.getD g.nextPos 0) ((sp, g.pos.getD g.nextPos 0) :: g.agreeFails)
          else u.swapIn a sp (g.pos.getD g.nextPos 0) (t.sampleNow - 63) (meas.getD 1 0))) := by
  rw [exec, execSliceSwap]
  refine runGw_eq hup ht ?_
  simp only [-Nat.reduceMul, ← hg, ← hu, Bool.or_eq_true, Bool.not_eq_true', decide_eq_true_eq, bne_iff_ne, or_assoc, gt_iff_lt] <;> rfl

theorem calgap_runs : exec (.calgap dt a) s = .next (endStep dt s (match (t.gw.get a).dueSince with
    | some d => if d + ms 100 ≤ t.now then t.mapGw a fun g => { g with calgap := true } else t
    | none => t)) := by
  rw [exec, execCalgap]
  exact runGw_eq hup ht rfl

theorem gleanerStartComplete_runs : exec (.gleanerStartComplete dt a) s = .next (endStep dt s (
    if (t.gw.get a).mode = .start ∧ (t.gw.get a).allCal = true then t.mapGw a fun g => g.setMode (t.sampleNow + 1) .normal else t)) := by
  rw [exec, execGleanerStartComplete]
  exact runGw_eq hup ht (by simp only [Bool.and_eq_true, beq_iff_eq])

theorem recoveryComplete_runs : exec (.recoveryComplete dt a) s = .next (endStep dt s (
    if (t.gw.get a).mode = .recovery then t.mapGw a fun g => g.setMode (t.sampleNow + 1) .normal else t)) := by
  rw [exec, execRecoveryComplete]
  exact runGw_eq hup ht (by simp only [beq_iff_eq])

theorem sliceMeanCheck_runs (pos : Nat) (far : Bool) :
    exec (.sliceMeanCheck dt a pos far) s = .next (endStep dt s (if far = true then t.sliceFails a pos else t)) := by
  rw [exec, execSliceMeanCheck]
  exact runGw_eq hup ht rfl

end Gleaner

/-- Settles O34. -/
theorem gleanerEventsRun : Obligations.GleanerEventsRun := by
  unfold Obligations.GleanerEventsRun
  exact ⟨fun s t dt a low g hup ht hg => captureWindowClose_runs hup ht hg, fun s t dt a smp hup ht hidle => captureReadoutDone_idle hup ht hidle,
    fun s t u dt a n frac method smp c hup ht hrun hplace hu => captureReadoutDone_runs hup ht hrun hplace hu,
    fun s t dt a hup ht => ⟨gainSaturationSwitch_runs hup ht, gainRangeStep_saturated hup ht, gainRangeStep_pending hup ht, gainRangeStep_low hup ht⟩,
    fun s t dt a meas g hup ht hg => ⟨sliceRotation_runs hup ht hg, fun u hu => sliceSwap_runs hup ht hg hu⟩,
    fun s t dt a pos hup ht => ⟨sliceMeanCheck_runs hup ht pos false, sliceMeanCheck_runs hup ht pos true, calgap_runs hup ht,
      gleanerStartComplete_runs hup ht, recoveryComplete_runs hup ht⟩⟩

end Sys2Proof.Machine

/-! Range engines, their gates and audits (R271 to R284, R295), histogram banks and the repair log (R284, R287 to R293). -/

namespace Sys2Proof.Machine

@[simp] theorem State.advance_eng (s : State) (dt e : Nat) : (s.advance dt).eng e = s.eng e := by
  rw [State.eng, State.advance_repair, State.eng]

section Engines
variable {s a : State} {dt p : Nat} (hup : s.holdUp = true) (ha : a = s.advance dt)
include hup ha

theorem engineUe_runs {b : State} (hb : b = a.count (cntGroup (p / 256) 4) 1) :
    exec (.engineUe dt p false) s = .next (endStep dt s ((b.engCount (b.holder p) 1 1).engineFails p 1)) := by
  subst ha hb
  change execEngineUe dt p false s = _
  exact runUp_eq hup rfl

theorem engineUe_inSpare {b : State} (hb : b = a.count (cntGroup (p / 256) 4) 1) :
    exec (.engineUe dt p true) s
      = .next (endStep dt s (match b.runAt p with | some r => (b.engCount r.spare 1 1).spareFails p 1 | none => b)) := by
  subst ha hb
  change execEngineUe dt p true s = _
  exact runUp_eq hup rfl

theorem engineTrap_runs : exec (.engineTrap dt p) s = .next (endStep dt s ((a.engCount (a.holder p) 2 1).engineFails p 2)) := by
  subst ha
  change execEngineTrap dt p s = _
  exact runUp_eq hup rfl

theorem lsCe_runs (inSpare : Bool) : exec (.lsCe dt p inSpare) s = .next (endStep dt s (
    match a.engineOf p inSpare with
    | none => a
    | some e =>
      let u := ((a.count (cntGroup (p / 256) 3) 1).engCount e 0 1).mapEngine e fun x => x.corrected (s.now + dt)
      if inSpare = true ∨ (u.eng e).ceAt.length < 16 then u else (u.mapEngine e fun x => { x with ceAt := [] }).raiseCause p 4)) := by
  subst ha
  change execLsCe dt p inSpare s = _
  refine runUp_eq hup ?_
  simp only [State.advance_now, Bool.or_eq_true, decide_eq_true_eq] <;> rfl

theorem compareGate_runs {u : State} {held : Nat} {mismatch : Bool} (hu : u = a.count (cntGroup (p / 256) 2) held) :
    exec (.compareGate dt p mismatch held) s
      = .next (endStep dt s (if a.gated p = true then (if mismatch = true then u.gateSpare p else u) else a)) := by
  change execCompareGate dt p mismatch held s = _
  refine runUp_eq hup ?_
  rw [← ha]
  simp only [Bool.not_eq_true', ← hu]
  cases a.gated p <;> rfl

theorem gateTimeout_ofEngine {u : State} (hu : u = a.count (cntGroup (p / 256) 2) 64) :
    exec (.gateTimeout dt p true) s = .next (endStep dt s (if a.gated p = true then (u.engCount (u.holder p) 6 1).gateSpare p else a)) := by
  change execGateTimeout dt p true s = _
  refine runUp_eq hup ?_
  rw [← ha]
  by_cases hgated : a.gated p = true
  · obtain ⟨r, hrun⟩ : ∃ r, a.runAt p = some r := by
      cases hrun : a.runAt p with
      | none => simp [State.gated, hrun] at hgated
      | some r => exact ⟨r, rfl⟩
    simp only [hgated, if_true, hrun, ← hu]
  · simp only [hgated, if_false, Bool.false_eq_true]

theorem gateTimeout_ofSpare {u : State} (hu : u = a.count (cntGroup (p / 256) 2) 64) :
    exec (.gateTimeout dt p false) s = .next (endStep dt s (match a.runAt p with
      | some r => if a.gated p = true then (u.engCount r.spare 6 1).spareFails p 2 else a
      | none => a)) := by
  change execGateTimeout dt p false s = _
  refine runUp_eq hup ?_
  rw [← ha]
  by_cases hgated : a.gated p = true <;> cases a.runAt p <;> simp only [hgated, if_true, if_false, Bool.false_eq_true, ← hu]

theorem spareSelfTestDone_runs (ok : Bool) : exec (.spareSelfTestDone dt p ok) s = .next (endStep dt s (
    match a.runAt p with
    | none => a
    | some r =>
      let u := (a.mapRun p fun r => { r with testOk := some (s.now + dt) }).mapEngine r.spare fun x => { x with st := if r.audit then .audit else .shadow }
      if r.testOk ≠ none then a
      else if ok = false then a.spareFails p 2
      else if r.audit = true then u else (u.engCount r.spare 3 1).count (cntGroup (p / 256) 5) 1)) := by
  subst ha
  change execSpareSelfTestDone dt p ok s = _
  refine runUp_eq hup ?_
  simp only [State.advance_now, Option.isSome_iff_ne_none, Bool.not_eq_true'] <;> rfl

theorem offlineTestDone_runs (e : Nat) (ok : Bool) : exec (.offlineTestDone dt e ok) s = .next (endStep dt s (
    if (s.eng e).st = .testing ∧ (∀ r ∈ s.repair.runs, r.spare ≠ e) ∧ (s.eng e).testEnd ≤ s.now + dt
    then (if ok = true then ((a.mapEngine e fun x => { x with st := .idle }).logRepair 1 (s.eng e).cause e (a.substOf e) true).assignSpares
      else a.mapEngine e fun x => { x with st := .retired })
    else a)) := by
  subst ha
  change execOfflineTestDone dt e ok s = _
  refine runUp_eq hup ?_
  simp only [State.advance_now, State.advance_eng, State.advance_repair, Bool.and_eq_true, beq_iff_eq, List.all_eq_true, bne_iff_ne, decide_eq_true_eq,
    and_assoc, ge_iff_le]

omit hup in
theorem auditStart_runs {u : State} {g : Nat} (hu : u = { a with repair := { s.repair with lastAudit := updAt s.repair.lastAudit g fun _ => s.now + dt } }) :
    exec (.auditStart dt g) s = .next (endStep dt s (
      if s.ranges = false ∨ s.now + dt < s.repair.lastAudit.getD g 0 + ms 1 then a
      else if ∃ r ∈ s.repair.runs, r.audit = true ∧ r.pos / 256 = g then u
      else match u.idleSpares g, u.nextActive g (s.repair.nextAudit.getD g 0) with
        | e :: _ :: _, some p =>
          let v := u.startRun p e true
          { v with repair := { v.repair with nextAudit := updAt v.repair.nextAudit g fun _ => 256 * g + (p + 1 - 256 * g) % 256 } }
        | _, _ => u)) := by
  change execAuditStart dt g s = _
  have hrep : s.repair = a.repair := ha ▸ (s.advance_repair dt).symm
  have hnow : s.now + dt = a.now := ha ▸ (s.advance_now dt).symm
  rw [hrep, hnow] at hu ⊢
  refine run_eq ?_
  rw [← ha, (ha ▸ (s.advance_ranges dt).symm : s.ranges = a.ranges)]
  simp only [← hu, Bool.or_eq_true, Bool.not_eq_true', decide_eq_true_eq, List.any_eq_true, Bool.and_eq_true, beq_iff_eq] <;> rfl

end Engines

theorem engineFails_unshadowed {s : State} {p c : Nat} (hrun : s.runAt p = none) :
    s.engineFails p c = (s.engineError (p / 2)).raiseCause p c := by
  rw [State.engineFails, hrun]; rfl

theorem engineFails_shadowed {s : State} {p c : Nat} {r : EngRun} (hrun : s.runAt p = some r) :
    s.engineFails p c = (if (s.ch (p / 2)).sheaves.any (fun h => h.openLit && r.shadows h) = true
      then s.gateSpare p c else (s.engineError (p / 2)).raiseCause p c) := by
  rw [State.engineFails, hrun]

/-- Settles O35. -/
theorem engineEventsRun : Obligations.EngineEventsRun := by
  unfold Obligations.EngineEventsRun
  exact ⟨fun s a b dt p hup ha hb => ⟨engineUe_runs hup ha hb, engineUe_inSpare hup ha hb, engineTrap_runs hup ha⟩,
    fun s p c => ⟨engineFails_unshadowed, fun r => engineFails_shadowed⟩, fun s a dt p inSpare hup ha => lsCe_runs hup ha inSpare,
    fun s a u dt p held hup ha hu => ⟨compareGate_runs hup ha hu, compareGate_runs hup ha hu⟩,
    fun s a u dt p hup ha hu => ⟨gateTimeout_ofEngine hup ha hu, gateTimeout_ofSpare hup ha hu⟩,
    fun s a dt p ok hup ha => spareSelfTestDone_runs hup ha ok, fun s a dt e ok hup ha => offlineTestDone_runs hup ha e ok,
    fun s a u dt g ha hu => auditStart_runs ha hu⟩

section AskBank
variable {s : State} {b cause : Nat} {r : Repair} (hr : r = s.repair)
include hr

theorem askBank_refused (hno : b ∈ r.banks ∨ r.spareBanks ≤ r.bankQ.length + b2n r.bankCopy.isSome) : s.askBank b cause = s := by
  subst hr
  refine if_pos ?_
  obtain hdone | hfull := hno
  · simp [hdone]
  · simp [hfull]

theorem askBank_copies (hnew : b ∉ r.banks) (hcopy : r.bankCopy = none) (hq : r.bankQ = []) (hspare : r.spareBanks ≠ 0) :
    s.askBank b cause = { s with repair := { r with bankCopy := some (b, s.now), bankCause := cause } } := by
  subst hr
  simp [State.askBank, hnew, hcopy, hq, hspare, b2n]

theorem askBank_waits {x : Nat × Nat} (hnew : b ∉ r.banks) (hcopy : r.bankCopy = some x) (hother : x.1 ≠ b) (hq : ∀ y ∈ r.bankQ, y.1 ≠ b)
    (hspare : r.bankQ.length + 1 < r.spareBanks) : s.askBank b cause = { s with repair := { r with bankQ := r.bankQ ++ [(b, cause)] } } := by
  subst hr
  have hno : (s.repair.banks.contains b || s.repair.bankCopy.any (fun x => x.1 == b) || s.repair.bankQ.any (fun x => x.1 == b)
      || decide (s.repair.spareBanks ≤ s.repair.bankQ.length + b2n s.repair.bankCopy.isSome)) = false := by
    simpa [hcopy, hnew, hother, b2n] using ⟨fun y c hy => hq (y, c) hy, hspare⟩
  exact (if_neg (Bool.not_eq_true _ ▸ hno)).trans (if_pos (by rw [hcopy]; rfl))

end AskBank

section RepairEvents
variable {s a : State} {dt : Nat} (hup : s.holdUp = true)
include hup

theorem bankSubst_runs (ha : a = s.advance dt) (b cause : Nat) (hit : List Nat) :
    exec (.bankSubst dt b cause hit) s = .next (endStep dt s ((if cause = 1 then a.histError b hit else a).askBank b cause)) := by
  subst ha
  change execBankSubst dt b cause hit s = _
  exact runUp_eq hup rfl

theorem bankCopyDone_runs (ha : a = s.advance dt) (hit : List Nat) : exec (.bankCopyDone dt hit) s = .next (endStep dt s (
    match s.repair.bankCopy with
    | none => a
    | some (b, _) =>
      let u := a.histError b hit
      let v := ({ u with repair := { u.repair with bankCopy := none } } : State).retireBank b (if u.repair.bankCause = 1 then 1 else 3)
      match v.repair.bankQ with
      | [] => v
      | x :: rest => { v with repair := { v.repair with bankQ := rest, bankCopy := some (x.1, v.now), bankCause := x.2 } })) := by
  subst ha
  change execBankCopyDone dt hit s = _
  exact runUp_eq hup (by rewrite [State.advance_repair]; rfl)

theorem repairLogWrite_runs : exec (.repairLogWrite dt) s = .next (endStep dt s
    (s.repair.logQ.foldl (fun u e => u.writeLog e) { s.advance dt with repair := { s.repair with logQ := [] } })) := by
  change execRepairLogWrite dt s = _
  exact runUp_eq hup (by rw [State.advance_repair])

theorem channelInputFail_runs (ha : a = s.advance dt) (c : Nat) : exec (.channelInputFail dt c) s = .next (endStep dt s (
    if s.pf 3 (0x100 + 16 * c) 2 1 = 1 then a.channelFails c 1 else a)) := by
  subst ha
  change execChannelInputFail dt c s = _
  exact runUp_eq hup (by rw [State.advance_pf])

end RepairEvents

theorem retireBank_eq {s t : State} {b cause : Nat}
    (ht : t = ((({ s with repair := { s.repair with banks := s.repair.banks ++ [b], spareBanks := s.repair.spareBanks - 1 } }
      : State).post 0x4003 13 b [4 - s.repair.spareBanks]).logRepair 4 cause b (4 - s.repair.spareBanks))) :
    s.retireBank b cause = (if t.repair.spareBanks = 0 then t.spareZero 4 0 else t) := by
  subst ht
  rfl

/-- Settles O36. -/
theorem repairEventsRun : Obligations.RepairEventsRun := by
  unfold Obligations.RepairEventsRun
  exact ⟨fun s a dt b cause hit hup ha => bankSubst_runs hup ha b cause hit,
    fun s b cause r hr => ⟨askBank_refused hr, askBank_copies hr, fun x => askBank_waits hr⟩,
    fun s a dt hit hup ha => bankCopyDone_runs hup ha hit, fun s t b cause ht => retireBank_eq ht, fun s dt hup => repairLogWrite_runs hup,
    fun s a dt c hup ha => channelInputFail_runs hup ha c⟩

end Sys2Proof.Machine

/-! Calibration in the background and the eye margins (R159, R500 to R512). -/

namespace Sys2Proof.Machine

theorem State.advance_cal (s : State) (dt : Nat) : ∃ re, (s.advance dt).cal = { s.cal with replanT := re } := by
  obtain ⟨units, clk, re, cnt, l, h⟩ := s.advance_only dt
  exact ⟨re, by rw [h]⟩

@[simp] theorem State.advance_stripeTemp (s : State) (dt i : Nat) : (s.advance dt).stripeTemp i = s.stripeTemp i := by
  simp only [State.stripeTemp, State.advance_hk]

@[simp] theorem State.advance_handover (s : State) (dt : Nat) : (s.advance dt).handover = s.handover := by
  simp only [State.handover, State.advance_cmds]

section Calibration
variable {s a : State} {dt : Nat} (hup : s.holdUp = true) (ha : a = s.advance dt)
include hup ha

theorem calibrationSchedule_runs : exec (.calibrationSchedule dt) s = .next (endStep dt s (
    if s.armedUp = false then a
    else if s.cal.schedAt + sec 600 ≤ s.now + dt then
      { a.addStripes (List.range 32) with cal := { (a.addStripes (List.range 32)).cal with schedAt := s.now + dt } }
    else a.addStripes ((List.range 32).filter fun i =>
      (Tab.find i s.cal.lastPass.cells).isSome && decide (160 ≤ (s.stripeTemp i - s.cal.lastTemp.get i).natAbs)))) := by
  subst ha
  change execCalibrationSchedule dt s = _
  obtain ⟨re, hcal⟩ := s.advance_cal dt
  refine runUp_eq hup ?_
  simp only [State.advance_armedUp, Bool.not_eq_true', State.advance_now, hcal, State.advance_stripeTemp, ge_iff_le]

end Calibration

/-- Pass 3 has no coefficients to check. -/
theorem checkCal_fold (a : State) (pass : Nat) (meas : List CalMeas) :
    meas.foldl (fun u m => let o := calObject pass m.obj; if pass = 3 then u else u.checkCal o.1 o.2) a
      = if pass = 3 then a else meas.foldl (fun x m => x.checkCal (calObject pass m.obj).1 (calObject pass m.obj).2) a := by
  by_cases hpass : pass = 3
  · simp only [hpass, if_true]
    exact List.foldl_fixed meas
  · simp only [hpass, if_false]

/-- Passes 4 and 6 end while the device ranges, pass 7 at any time, and another pass where it is in progress (R502, R547). -/
theorem passMayEnd_iff (ranges up : Bool) (passes : List CalPass) (stripe pass : Nat) :
    (if pass = 7 then true else if [4, 6].contains pass then ranges
        else up && passes.any fun (p : CalPass) => p.pass == pass && p.stripe == stripe && p.inProg) = true
      ↔ pass = 7 ∨ (pass = 4 ∨ pass = 6) ∧ ranges = true
          ∨ pass ∉ [4, 6, 7] ∧ up = true ∧ ∃ p ∈ passes, p.pass = pass ∧ p.stripe = stripe ∧ p.inProg = true := by
  by_cases h7 : pass = 7
  · simp [h7]
  · by_cases h46 : pass = 4 ∨ pass = 6
    · obtain rfl | rfl := h46 <;> simp
    · obtain ⟨h4, h6⟩ := not_or.mp h46
      simp [h7, h4, h6, and_assoc]

section Calibration
variable {s a : State} {dt : Nat} (hup : s.holdUp = true) (ha : a = s.advance dt)
include hup ha

theorem calibrationPassEnd_runs {u v w : State} {stripe pass : Nat} {meas : List CalMeas}
    (hu : u = (if pass = 3 then a else meas.foldl (fun x m => x.checkCal (calObject pass m.obj).1 (calObject pass m.obj).2) a))
    (hv : v = u.calResults pass (meas.filter fun m => u.calReaches pass m))
    (hw : w = { v with cal := { v.cal with
        passes := v.cal.passes.filter fun (p : CalPass) => p.pass != pass || p.stripe != stripe
        lastPass := v.cal.lastPass.set stripe v.now, lastTemp := v.cal.lastTemp.set stripe (v.stripeTemp stripe) } }) :
    exec (.calibrationPassEnd dt stripe pass meas) s = .next (endStep dt s (
      if pass = 7 ∨ (pass = 4 ∨ pass = 6) ∧ s.ranges = true
          ∨ pass ∉ [4, 6, 7] ∧ s.armedUp = true ∧ ∃ p ∈ s.cal.passes, p.pass = pass ∧ p.stripe = stripe ∧ p.inProg = true
      then (if pass = 3 then w.darkEnds (groupOf (16 * stripe)) else w).post 0x3007 0 0 [pass, stripe]
      else a)) := by
  change execCalibrationPassEnd dt stripe pass meas s = _
  obtain ⟨re, hcal⟩ := s.advance_cal dt
  have hpasses : a.cal.passes = s.cal.passes := by rw [ha, hcal]
  refine runUp_eq hup ?_
  rw [← ha, (ha ▸ (s.advance_ranges dt).symm : s.ranges = a.ranges), (ha ▸ (s.advance_armedUp dt).symm : s.armedUp = a.armedUp)]
  simp only [Bool.not_eq_true', ← Bool.not_eq_true, passMayEnd_iff, hpasses, ite_not, checkCal_fold, ← hu, ← hv, ← hw]

theorem calStoreWrite_runs (ok : Bool) : exec (.calStoreWrite dt ok) s = .next (endStep dt s (
    if s.cal.loadDue ≠ none ∨ s.cal.dirty = true ∧ s.cal.storeAt + sec 3600 ≤ s.now + dt then a.storeCal ok else a)) := by
  subst ha
  change execCalStoreWrite dt ok s = _
  obtain ⟨re, hcal⟩ := s.advance_cal dt
  exact runUp_eq hup (by simp [State.storeDue, hcal, Option.isSome_iff_ne_none])

theorem replan_runs {u : State} {m : List (List Int)} (hu : u = { a with cal := { a.cal with replanT := a.cal.replanT - sec 600 } }) :
    exec (.replan dt m) s = .next (endStep dt s (
      if a.cal.replanT < sec 600 ∨ s.handover ≠ none ∨ s.armedUp = false then a
      else ((((((u.replan0 (given m 0)).replan1 (given m 1)).replan2).replan3
        ((given m 0).any fun x => decide (x.1 ≥ 1088) && decide (x.2 < 1000))).replan4).replan6).replan7)) := by
  change execReplan dt m s = _
  refine runUp_eq hup ?_
  rw [← ha, (ha ▸ (s.advance_handover dt).symm : s.handover = a.handover), (ha ▸ (s.advance_armedUp dt).symm : s.armedUp = a.armedUp)]
  simp only [Bool.or_eq_true, decide_eq_true_eq, Option.isSome_iff_ne_none, Bool.not_eq_true', or_assoc, ← hu]

theorem eyeMarginRead_early {l : List Nat} (hearly : s.now + dt < s.cal.eyeAt + sec 600) :
    exec (.eyeMarginRead dt l) s = .next (endStep dt s a) := by
  subst ha
  change execEyeMarginRead dt l s = _
  obtain ⟨re, hcal⟩ := s.advance_cal dt
  exact runUp_eq hup (if_pos (by rw [State.advance_now, hcal]; exact hearly))

theorem eyeMarginRead_nothing (hdue : s.cal.eyeAt + sec 600 ≤ s.now + dt) : exec (.eyeMarginRead dt []) s = .next (endStep dt s
    (({ a with cal := { a.cal with eyeAt := s.now + dt } } : State).monitorDone 5 [])) := by
  subst ha
  change execEyeMarginRead dt [] s = _
  obtain ⟨re, hcal⟩ := s.advance_cal dt
  refine runUp_eq hup ((if_neg (by rw [State.advance_now, hcal]; exact Nat.not_lt.mpr hdue)).trans ?_)
  rw [State.advance_now, hcal]
  rfl

theorem eyeMarginRead_one {x : Nat} {u v : State} (hdue : s.cal.eyeAt + sec 600 ≤ s.now + dt)
    (hu : u = { a with cal := { a.cal with
      eyeAt := s.now + dt
      serdesBase := if (Tab.find 0 s.cal.serdesBase.cells).isSome then s.cal.serdesBase else s.cal.serdesBase.set 0 x } })
    (hv : v = u.useFree.mapLane 0 (fun q => { q with adapt := freeNat u })) :
    exec (.eyeMarginRead dt [x]) s = .next (endStep dt s (v.monitorDone 5 [{
      obj := 0, v := x, margin := (x : Int) - 6, action := if freeNat u = (u.lane 0).adapt then 1 else 2
      old := (u.lane 0).adapt, new := freeNat u, figure := if x < 6 then 5 else 0 }])) := by
  change execEyeMarginRead dt [x] s = _
  obtain ⟨re, hcal⟩ := s.advance_cal dt
  refine runUp_eq hup ((if_neg (by rw [State.advance_now, hcal]; exact Nat.not_lt.mpr hdue)).trans ?_)
  have hbase : s.cal.serdesBase = a.cal.serdesBase := by rw [ha, hcal]
  rw [hbase, (ha ▸ (s.advance_now dt).symm : s.now + dt = a.now)] at hu
  subst hu hv
  rw [← ha]
  rfl

end Calibration

/-- Settles O37. -/
theorem calibrationEventsRun : Obligations.CalibrationEventsRun := by
  unfold Obligations.CalibrationEventsRun
  exact ⟨fun s a dt hup ha => calibrationSchedule_runs hup ha,
    fun s a u v w dt stripe pass meas hup ha hu hv hw => calibrationPassEnd_runs hup ha hu hv hw,
    fun s a dt ok hup ha => calStoreWrite_runs hup ha ok, fun s a u dt m hup ha hu => replan_runs hup ha hu,
    fun s a dt hup ha => ⟨fun l => eyeMarginRead_early hup ha, eyeMarginRead_nothing hup ha, fun x u v hdue hu hv => eyeMarginRead_one hup ha hdue hu hv⟩⟩

end Sys2Proof.Machine

/-! Errors, the state word, ranging and recovery (R319, R375 to R377, R389, R513 to R516), and the timer of an idle session (R387). -/

namespace Sys2Proof.Machine

/-- Beyond the host interface's own registers, its queues and the counters, `t` is `s`. -/
def HostSideOnly (s t : State) : Prop :=
  t = { s with fn0 := t.fn0, fn1 := t.fn1, defer0 := t.defer0, defer1 := t.defer1, cyc := t.cyc, pf0 := t.pf0, priv := t.priv, out := t.out }

theorem HostSideOnly.trans {s t u : State} (hst : HostSideOnly s t) (htu : HostSideOnly t u) : HostSideOnly s u :=
  Eq.trans htu (by rw [hst])

theorem HostSideOnly.dev {s t : State} (h : HostSideOnly s t) : t.dev = s.dev := by rw [h]

theorem HostSideOnly.cfg {s t : State} (h : HostSideOnly s t) : t.cfg = s.cfg := by rw [h]

/-! Raising a vector is the host interface's alone. -/

theorem State.mapFn_hostSide (s : State) (fn : Nat) (f : Fn → Fn) : HostSideOnly s (s.mapFn fn f) := by
  unfold State.mapFn; split_ifs <;> rfl

theorem State.count_hostSide (s : State) (i n : Nat) : HostSideOnly s (s.count i n) := by
  obtain ⟨c, l, h⟩ := s.count_only i n
  rw [h]; rfl

theorem State.takeBack_hostSide (s : State) (e : Emit) : HostSideOnly s (s.takeBack e) := by
  unfold State.takeBack; split_ifs <;> rfl

theorem State.putOff_hostSide (s : State) (fn : Nat) (e : Emit) : HostSideOnly s (s.putOff fn e) := by
  unfold State.putOff; split_ifs <;> rfl

theorem State.issue_hostSide (s : State) (fn : Nat) (e : Emit) : HostSideOnly s (s.issue fn e) := by
  unfold State.issue; split_ifs
  · rfl
  · exact s.putOff_hostSide fn e

theorem State.message_hostSide (s : State) (fn v : Nat) : HostSideOnly s (s.message fn v) := by
  have hsent {t : State} (ht : HostSideOnly s t) (k : Nat) (e : Emit) :
      HostSideOnly s (({ t with cyc := { t.cyc with msg := t.cyc.msg.set k t.cycle } } : State).issue fn e) := by
    have hmarked : HostSideOnly t { t with cyc := { t.cyc with msg := t.cyc.msg.set k t.cycle } } := rfl
    exact (ht.trans hmarked).trans (State.issue_hostSide _ fn e)
  unfold State.message
  dsimp only
  split_ifs
  · exact hsent (s.takeBack_hostSide _) _ _
  · exact hsent (s.count_hostSide _ _) _ _

theorem State.raise_hostSide (s : State) (fn v : Nat) : HostSideOnly s (s.raise fn v) := by
  have hsent (t : State) : HostSideOnly t (if (t.func fn).vecMasked v
      then t.mapFn fn fun f => { f with msix := { f.msix with pba := f.msix.pba ||| BitVec.ofNat 64 (2 ^ v) } } else t.message fn v) := by
    split_ifs
    · exact t.mapFn_hostSide fn _
    · exact t.message_hostSide fn v
  refine HostSideOnly.trans ?_ (hsent _)
  split_ifs <;> rfl

/-- A change of device state leaves its state word, with the complement beside it (R319). -/
theorem State.goto_dev (s : State) (c cause : Nat) :
    (s.goto c cause).dev = { s.dev with word := nextWord s.dev.word c cause, wordC := ~~~ nextWord s.dev.word c cause } := by
  rw [State.goto, (State.raise_hostSide _ 0 1).dev]; rfl

theorem nextWord_code {c : Nat} (hc : c < 16) (w : Word) (cause : Nat) : (nextWord w c cause).toNat % 16 = c := by
  simp only [nextWord, pack, BitVec.toNat_ofNat]
  omega

theorem goto_stateWordOk (s : State) (c cause : Nat) : StateWordOk (s.goto c cause) := by
  rw [StateWordOk, State.goto_dev]

theorem goto_code (s : State) {c : Nat} (hc : c < 16) (cause : Nat) : (s.goto c cause).code = c := by
  rw [State.code, State.goto_dev, nextWord_code hc]

theorem ite_any_due {α : Type} (o : Option Nat) (d n : Nat) (x y : α) :
    (if (o.any fun b => decide (n ≥ b + d)) = true then x else y) = match o with | some b => if b + d ≤ n then x else y | none => y := by
  cases o <;> simp only [Option.any_some, Option.any_none, decide_eq_true_eq, ge_iff_le, Bool.false_eq_true, if_false]

section Errors
variable {s a : State} {dt : Nat} (hup : s.holdUp = true)
include hup

theorem lockstep_runs (p : Nat) : exec (.lockstep dt p) s = .next (endStep dt s ((s.advance dt).postHw 0x1005 9 p)) := by
  change execLockstep dt p s = _
  exact runUp_eq hup rfl

variable (ha : a = s.advance dt)
include ha

theorem errorHandling_runs : exec (.errorHandling dt) s = .next (endStep dt s (
    if s.fw.reloadSubs = true then a
    else match s.err.handling with
      | [] => { a with err := a.err.takeUp }
      | h :: rest =>
        if h.sev = 3 ∧ s.code = 7 ∧ s.stream.opened = true then (if s.stream.closing = some 1 then a else a.firmwarePath)
        else { a with err := ({ a.err with handling := rest } : Err).takeUp })) := by
  subst ha
  change execErrorHandling dt s = _
  refine runUp_eq hup ?_
  simp only [State.advance_fw, State.advance_err, State.advance_code, State.advance_stream, Bool.and_eq_true, decide_eq_true_eq, beq_iff_eq,
      and_assoc] <;> rfl

theorem rangingEntry_runs : exec (.rangingEntry dt) s = .next (endStep dt s (if a.wantsRanging = true ∧
    a.mayRange = true then a.enterRanging else a)) := by
  subst ha
  change execRangingEntry dt s = _
  exact runUp_eq hup (by simp only [Bool.and_eq_true])

theorem rangingWaitTimeout_runs {u : State} {st : Nat}
    (hst : st = (if s.steer.locked = false then 0x0210 else if a.biasReady = false then 0x0211 else 0x0216))
    (hu : u = (match s.waiting .ranging with
      | some e => if e.since + sec 1 ≤ s.now + dt then a.finish e.sub (reply st) else a
      | none => a)) : exec (.rangingWaitTimeout dt) s = .next (endStep dt s (
      if a.mayRange = true then a
      else match u.dev.autoRanging with
        | some b => if b + sec 1 ≤ u.now then ({ u with dev := { u.dev with autoRanging := none } } : State).post 0x1007 0 0 [st] else u
        | none => u)) := by
  change execRangingWaitTimeout dt s = _
  have hmodel : (match a.waiting .ranging with
      | some e => if a.now ≥ e.since + sec 1 then a.finish e.sub (reply st) else a
      | none => a) = u := by
    rw [hu, ha, State.advance_waiting, State.advance_now]
  rw [(ha ▸ (s.advance_steer dt).symm : s.steer = a.steer)] at hst
  refine runUp_eq hup ?_
  rw [← ha]
  simp only [Bool.not_eq_true', ← hst]
  refine if_congr Iff.rfl rfl ?_
  have hrest : ∀ w : State, w = u → (if (w.dev.autoRanging.any fun b => decide (w.now ≥ b + sec 1)) = true
      then ({ w with dev := { w.dev with autoRanging := none } } : State).post 0x1007 0 0 [st] else w)
      = match u.dev.autoRanging with
        | some b => if b + sec 1 ≤ u.now then ({ u with dev := { u.dev with autoRanging := none } } : State).post 0x1007 0 0 [st] else u
        | none => u := by
    rintro w rfl
    exact ite_any_due _ _ _ _ _
  exact hrest _ hmodel

theorem autoRecovery_runs {t v w : State} {j : Judgement} (ht : t = ({ a with dev := { s.dev with autoPend := false } } : State).enterHold 0)
    (hj : j = ({ t with cfg := { t.cfg with staged := t.cfg.active } } : State).judgeSet (t.link.gen != 0))
    (hv : v = { t with dev := { t.dev with safeLatch := false }, link := { t.link with validatedRate := j.rate } })
    (hw : w = v.applyBudget.boundaryTail.enterArmed) : exec (.autoRecovery dt) s = .next (endStep dt s (
      if s.code ≠ 7 ∨ s.dev.autoResume = false ∨ s.dev.autoPend = false ∨ s.dev.safeNoAuto = true ∨ s.now + dt < s.dev.safeAt + ms 100 ∨
          s.stream.opened = true
      then a
      else if t.dev.applied = false then t
      else if j.status ≠ 0 then { t with dev := { t.dev with code := BitVec.ofNat 16 j.status } }
      else { w with dev := { w.dev with autoRanging := some w.now } })) := by
  change execAutoRecovery dt s = _
  have hdev : s.dev = a.dev := ha ▸ (s.advance_dev dt).symm
  rw [hdev] at ht ⊢
  refine runUp_eq hup ?_
  rw [← ha, (ha ▸ (s.advance_code dt).symm : s.code = a.code), (ha ▸ (s.advance_stream dt).symm : s.stream = a.stream),
    (ha ▸ (s.advance_now dt).symm : s.now + dt = a.now)]
  simp only [Bool.or_eq_true, Bool.not_eq_true', bne_iff_ne, decide_eq_true_eq, or_assoc, ← ht, ← hj, ← hv, ← hw]

end Errors

/-- Settles O38. -/
theorem errorAndRangingEventsRun : Obligations.ErrorAndRangingEventsRun := by
  unfold Obligations.ErrorAndRangingEventsRun
  exact ⟨fun s dt code kind obj args => rfl, fun s a dt hup ha => errorHandling_runs hup ha, fun s dt p hup => lockstep_runs hup p,
    fun s c cause hc => ⟨goto_stateWordOk s c cause, goto_code s hc cause⟩, fun s a dt hup ha => rangingEntry_runs hup ha,
    fun s a u dt st hup ha hst hu => rangingWaitTimeout_runs hup ha hst hu,
    fun s a t v w dt j hup ha ht hj hv hw => autoRecovery_runs hup ha ht hj hv hw⟩

/-! A session ends 900 s after its last use whether or not time is counted meanwhile: while a completion ring is full, the step's cycles are counted in a
performance counter (R356), which the ending of the session leaves as counted. -/

/-- A session 900 s after its last use, while command ring 0 is full of completions. -/
def idleWithFullRing : State := { State.reset with
  now := sec 900
  priv := { State.reset.priv with opened := true }
  cmds := { State.reset.cmds with rings := [{ en := true, sizeLog2 := 4, cplTail := 15 }] } }

/-- That state one engine cycle later, its session closed, with the other privileged registers those of `p`. -/
def closedWith (p : Priv) : State := { idleWithFullRing.advance 5120 with priv := { p with opened := false } }

/-- The count of cycles with a full completion ring after the step that ends in `closedWith p`. -/
def fullCyclesAfter (p : Priv) : BitVec 64 := (endStep 5120 idleWithFullRing (closedWith p)).priv.cnt.get cntCplFull

theorem fullCyclesAfter_counted : fullCyclesAfter (idleWithFullRing.advance 5120).priv = 1 := by decide +kernel

theorem fullCyclesAfter_uncounted : fullCyclesAfter idleWithFullRing.priv = 0 := by decide +kernel

theorem sessionIdleTimeout_closes : exec (.sessionIdleTimeout 5120) idleWithFullRing
    = .next (endStep 5120 idleWithFullRing (closedWith (idleWithFullRing.advance 5120).priv)) := by
  change execSessionIdleTimeout 5120 idleWithFullRing = _
  exact run_eq (if_pos (by decide +kernel))

/-- Refutes O40: closing the idle session keeps the cycles that the step itself has counted with a full completion ring, where the statement takes the
privileged registers from before the step. -/
theorem not_handoverAndSessionTimersRun : ¬ Obligations.HandoverAndSessionTimersRun := by
  unfold Obligations.HandoverAndSessionTimersRun
  rintro ⟨-, -, -, -, htimers⟩
  have hidle := (htimers idleWithFullRing _ 5120 rfl).1
  rw [if_pos (by decide +kernel), sessionIdleTimeout_closes, Host.Outcome.next.injEq] at hidle
  have hcount : fullCyclesAfter (idleWithFullRing.advance 5120).priv = fullCyclesAfter idleWithFullRing.priv :=
    congrArg (fun t : State => t.priv.cnt.get cntCplFull) hidle
  rw [fullCyclesAfter_counted, fullCyclesAfter_uncounted] at hcount
  exact absurd hcount (by decide)

end Sys2Proof.Machine

/-! Losses of lanes and ports, and the ring (R32, R404, R423, R425, R426). -/

namespace Sys2Proof.Machine

@[simp] theorem State.advance_lane (s : State) (dt l : Nat) : (s.advance dt).lane l = s.lane l := by
  rw [State.lane, State.advance_drover, State.lane]

@[simp] theorem State.advance_port (s : State) (dt p : Nat) : (s.advance dt).port p = s.port p := by
  rw [State.port, State.advance_drover, State.port]

@[simp] theorem State.advance_prole (s : State) (dt p : Nat) : (s.advance dt).prole p = s.prole p := by
  rw [State.prole, State.advance_pf, State.prole]

@[simp] theorem State.advance_role (s : State) (dt : Nat) : (s.advance dt).role = s.role := by
  rw [State.role, State.advance_pf, State.role]

@[simp] theorem State.advance_upPort (s : State) (dt : Nat) : (s.advance dt).upPort = s.upPort := by
  simp only [State.upPort, State.advance_drover, State.advance_prole]

/-- A message acts where one of its kind waits. -/
theorem onMsg_eq {s a u : State} {dt p m : Nat} {f : Bytes → State → State} (hup : s.holdUp = true) (ha : a = s.advance dt)
    (hf : (match a.takeMsg p m with | some (b, v) => f b v | none => a) = u) : onMsg dt p m s f = .next (endStep dt s u) := by
  subst ha
  exact runUp_eq hup hf

section Lanes
variable {s a : State} {dt : Nat} (ha : a = s.advance dt)
include ha

theorem laneLost_fromTwo {l : Nat} (hl : (s.lane l).state = 0) (hother : (s.lane (if l % 2 = 0 then l + 1 else l - 1)).state = 0)
    (hport : (s.port (l / 2)).st = .two) :
    a.laneLost l = ((((a.count (352 + 8 * (l / 2) + 7) 1).mapLane l fun x =>
      { x with state := if x.outBy then 1 else 2, relocked := false, relockAt := s.now + dt }).toOne (l / 2)).post 0x5005 5 l).laneMsg l 1 0 0 := by
  subst ha
  rw [← State.advance_lane s dt] at hl hother
  rw [← State.advance_port s dt] at hport
  have hup : (((s.advance dt).lane l).state == 0 && ((s.advance dt).port (l / 2)).up) = true := by rw [Port.up, hl, hport]; rfl
  have htwo : (((s.advance dt).lane (if l % 2 = 0 then l + 1 else l - 1)).state == 0 && ((s.advance dt).lane l).state == 0
      && ((s.advance dt).port (l / 2)).st == .two) = true := by rw [hl, hother, hport]; rfl
  simp only [State.laneLost, State.dropLane, hup, htwo, if_true, State.advance_now]

theorem laneLost_unused {l : Nat} (hl : (s.lane l).state ≠ 0) :
    a.laneLost l = (a.mapLane l fun x => { x with relocked := false }).mapPort (l / 2) fun q => { q with rejoin := none } := by
  have hunused : ((a.lane l).state == 0) = false := by rw [ha, State.advance_lane]; exact beq_eq_false_iff_ne.mpr hl
  simp only [State.laneLost, State.dropLane, hunused, Bool.and_false, Bool.false_and, Bool.false_eq_true, if_false]

theorem refclkSdsLoss_runs {u v : State} {i : Nat} (hu : u = { a with pins := { s.pins with refSds := updAt s.pins.refSds i fun _ => false } })
    (hv : v = (if (u.port (2 * i)).up = true then u.portLost (2 * i) else u)) : exec (.refclkSdsLoss dt i) s = .next (endStep dt s (
      if s.holdUp = false then u else if (v.port (2 * i + 1)).up = true then v.portLost (2 * i + 1) else v)) := by
  change execRefclkSdsLoss dt i s = _
  have hup : u.holdUp = s.holdUp := by rw [hu, ha]; exact s.advance_holdUp dt
  refine run_eq ?_
  rw [← ha, (ha ▸ s.advance_pins dt : a.pins = s.pins)]
  simp only [← hu, hup, State.each, List.foldl_cons, List.foldl_nil, ← hv]
  cases s.holdUp <;> rfl

variable (hup : s.holdUp = true)
include hup

theorem laneLoss_runs {l : Nat} {cdr : Bool} {silent : Nat} : exec (.laneLoss dt l cdr silent) s = .next (endStep dt s (
    if cdr = true ∨ us 1 ≤ silent ∨ 1000 < a.recentErrs l then a.laneLost l else a)) := by
  subst ha
  change execLaneLoss dt l cdr silent s = _
  exact runUp_eq hup (by simp only [State.laneGone, Bool.or_eq_true, decide_eq_true_eq, or_assoc, ge_iff_le, gt_iff_lt])

theorem portLoss_runs {p : Nat} {sense : List (Bool × Nat)} {gone : Nat → Prop}
    (hgone : gone = (fun i => (s.lane (2 * p + i)).state ≠ 0 ∨ a.laneGone (2 * p + i) (sense.getD i (false, 0)).1 (sense.getD i (false, 0)).2 = true)) :
    ((s.port p).up = true ∧ gone 0 ∧ gone 1 → exec (.portLoss dt p sense) s = .next (endStep dt s (a.portLost p)))
    ∧ (¬ ((s.port p).up = true ∧ gone 0 ∧ gone 1) → exec (.portLoss dt p sense) s = .next (endStep dt s a)) := by
  subst ha hgone
  change (_ → execPortLoss dt p sense s = _) ∧ (_ → execPortLoss dt p sense s = _)
  refine ⟨fun h => runUp_eq hup (if_pos ?_), fun h => runUp_eq hup (if_neg ?_)⟩
  all_goals simpa only [State.advance_lane, State.advance_port, Bool.and_eq_true, Bool.or_eq_true, bne_iff_ne, and_assoc] using h

theorem relockAttempt_runs (l : Nat) (took : List Nat) : exec (.relockAttempt dt l took) s = .next (endStep dt s (
    if (s.port (l / 2)).st = .one ∧ (s.lane l).state = 2 ∧ (s.lane l).relocked = false ∧ (s.lane l).relockAt + ms 10 ≤ s.now + dt
    then (if took.length = 4 ∧ took.sum ≤ ms 8
      then a.mapLane l fun x => { x with relockAt := s.now + dt, relocked := true, clean := 0, txP := 0, rxP := 0 }
      else a.mapLane l fun x => { x with relockAt := s.now + dt })
    else a)) := by
  subst ha
  change execRelockAttempt dt l took s = _
  exact runUp_eq hup (by simp only [State.advance_lane, State.advance_port, State.advance_now, Bool.and_eq_true, beq_iff_eq, Bool.not_eq_true',
    decide_eq_true_eq, and_assoc, ge_iff_le])

theorem laneRejoin_runs (p : Nat) : exec (.laneRejoin dt p) s = .next (endStep dt s (
    match [2 * p, 2 * p + 1].find? fun l => (s.lane l).state == 2 && (s.lane l).relocked with
    | none => a
    | some l =>
      if (s.port p).st = .one ∧ (s.port p).rejoin = none ∧ 1000 ≤ (s.lane l).clean
      then (a.useFree.mapPort p fun x => { x with rejoin := some (l, freeNat s % 4096) }).laneMsg l 0 0 (freeNat s % 4096)
      else a)) := by
  subst ha
  change execLaneRejoin dt p s = _
  have hfree : freeNat (s.advance dt) = freeNat s := congrArg Config.freeValue (s.advance_free dt)
  refine runUp_eq hup ?_
  simp only [State.advance_lane, State.advance_port, hfree, Bool.and_eq_true, beq_iff_eq, Option.isNone_iff_eq_none, decide_eq_true_eq, and_assoc,
      ge_iff_le] <;> rfl

theorem rerouteWaitEnd_runs {u : State} (hu : u = { a with drover := { s.drover with reroute := none } }) :
    exec (.rerouteWaitEnd dt) s = .next (endStep dt s (match s.drover.reroute, s.upPort with
      | some b, some new => if s.now + dt < b + us 200 then a else match u.otherRing new with
          | some old => u.moveTraffic old new
          | none => u
      | _, _ => a)) := by
  change execRerouteWaitEnd dt s = _
  have hdrover : s.drover = a.drover := ha ▸ (s.advance_drover dt).symm
  have hport : s.upPort = a.upPort := ha ▸ (s.advance_upPort dt).symm
  have hnow : s.now + dt = a.now := ha ▸ (s.advance_now dt).symm
  rw [hdrover] at hu ⊢
  rw [hport, hnow]
  subst hu
  refine runUp_eq hup ?_
  rewrite [← ha]
  rfl

theorem ringReturn_runs : exec (.ringReturn dt) s = .next (endStep dt s (
    match (List.range 4).find? fun p => s.prole p == 3 with
    | none => a
    | some p =>
      if s.role = 2 ∧ s.drover.upSec = true ∧ s.drover.reroute = none ∧ ∃ b ∈ (s.port p).bothSince, b + sec 10 ≤ s.now + dt
      then { a with drover := { s.drover with upSec := false, reroute := some (s.now + dt) } } else a)) := by
  change execRingReturn dt s = _
  have hdrover : s.drover = a.drover := ha ▸ (s.advance_drover dt).symm
  have hnow : s.now + dt = a.now := ha ▸ (s.advance_now dt).symm
  have hrole : s.role = a.role := ha ▸ (s.advance_role dt).symm
  have hprole : ∀ p, s.prole p = a.prole p := fun p => ha ▸ (s.advance_prole dt p).symm
  have hport : ∀ p, s.port p = a.port p := fun p => ha ▸ (s.advance_port dt p).symm
  refine runUp_eq hup ?_
  rw [← ha]
  simp only [hdrover, hnow, hrole, hprole, hport, Bool.and_eq_true, beq_iff_eq, Option.isNone_iff_eq_none, Option.any_eq_true, decide_eq_true_eq,
    and_assoc, ge_iff_le, Option.mem_def] <;> rfl

theorem breakMsg_runs (p : Nat) : exec (.breakMsg dt p) s = .next (endStep dt s (
    match a.takeMsg p 10 with
    | some (b, u) => if u.fromAbove p = true ∧ u.isRing p = true then u.rerouteFrom p (num b 4 2) else u
    | none => a)) := by
  change execBreakMsg dt p s = _
  rw [execBreakMsg]
  exact onMsg_eq hup ha (by simp only [Bool.and_eq_true])

end Lanes

/-- Settles O41. -/
theorem laneAndRingEventsRun : Obligations.LaneAndRingEventsRun := by
  unfold Obligations.LaneAndRingEventsRun
  exact ⟨fun s a dt l cdr silent hup ha => ⟨laneLoss_runs ha hup, laneLost_fromTwo ha, laneLost_unused ha⟩,
    fun s a dt p sense gone hup ha hgone => portLoss_runs ha hup hgone, fun s u v dt i hu hv => refclkSdsLoss_runs rfl hu hv,
    fun s a dt l took hup ha => relockAttempt_runs ha hup l took, fun s a dt p hup ha => laneRejoin_runs ha hup p,
    fun s a u dt hup ha hu => rerouteWaitEnd_runs ha hup hu, fun s a dt hup ha => ringReturn_runs ha hup, fun s a dt p hup ha => breakMsg_runs ha hup p⟩

end Sys2Proof.Machine

/-! Training and frames of a Drover port (R401 to R405, R410, R412, R413, R418, R423, R424). -/

namespace Sys2Proof.Machine

@[simp] theorem State.advance_idleLanes (s : State) (dt p : Nat) : (s.advance dt).idleLanes p = s.idleLanes p := by
  simp only [State.idleLanes, State.advance_lane]

@[simp] theorem State.advance_mayRecords (s : State) (dt p : Nat) : (s.advance dt).mayRecords p = s.mayRecords p := by
  simp only [State.mayRecords, State.advance_role, State.advance_upPort, State.advance_drover]

section Link
variable {s a : State} {dt p : Nat} (hup : s.holdUp = true) (ha : a = s.advance dt)
include hup ha

theorem trainingStepTimeout_runs (took : List Nat) : exec (.trainingStepTimeout dt p took) s = .next (endStep dt s (
    if (s.port p).st = .training ∧ stepsInTime took = true ∧ (s.port p).stepAt + took.sum + stepLimits.getD took.length 0 ≤ s.now + dt
    then a.mapPort p fun q => { q with stepAt := s.now + dt, helloRx := false } else a)) := by
  subst ha
  change execTrainingStepTimeout dt p took s = _
  exact runUp_eq hup (by simp only [State.advance_port, State.advance_now, Bool.and_eq_true, beq_iff_eq, decide_eq_true_eq, and_assoc, ge_iff_le])

section Training
variable {m : TrainMeas}

theorem trainingComplete_notYet (hnot : (s.port p).st ≠ .training ∨ trainGood m = false ∨ s.now + dt < (s.port p).stepAt + m.took.sum) :
    exec (.trainingComplete dt p m) s = .next (endStep dt s a) := by
  subst ha
  change execTrainingComplete dt p m s = _
  exact runUp_eq hup (if_pos (by simpa [or_assoc] using hnot))

variable {t1 t2 t3 t4 : Nat} {d : Rat} (hstamps : m.stamps = [t1, t2, t3, t4]) (hd : d = linkDelay t1 t2 t3 t4)
  (htraining : (s.port p).st = .training) (hgood : trainGood m = true) (hsince : (s.port p).stepAt + m.took.sum ≤ s.now + dt)
include hstamps hd htraining hgood hsince

theorem trainingComplete_tooLong (hlong : 5000 < d) :
    exec (.trainingComplete dt p m) s = .next (endStep dt s (a.mapPort p fun q => { q with st := .down, tooLong := true, delay := d })) := by
  subst ha hd
  change execTrainingComplete dt p m s = _
  refine runUp_eq hup ((if_neg (by simpa [htraining, hgood] using hsince)).trans ?_)
  rw [hstamps]
  exact if_pos hlong

theorem trainingComplete_up {u : State} {x y : LaneMeas} (hlanes : m.lanes = [x, y]) (hshort : d ≤ 5000)
    (h0 : (s.lane (2 * p)).outBy = false) (h1 : (s.lane (2 * p + 1)).outBy = false)
    (hu : u = { (a.mapLane (2 * p) fun q => q.trained x).mapLane (2 * p + 1) (fun q => q.trained y) with
          pins := { s.pins with refSds := updAt s.pins.refSds (p / 2) fun _ => true } }) :
    exec (.trainingComplete dt p m) s = .next (endStep dt s (((u.mapPort p fun q => { q with
      delay := d, swapped := m.swapped, ueRun := 0, helloRx := true, peerDev := num m.hello 2 2, peerDomain := num m.hello 4 2
      ackAt := s.now + dt, st := .two, shed := 0, bothSince := some (s.now + dt) }).mapPort p fun q => q.resendAll).hello p)) := by
  subst hd
  change execTrainingComplete dt p m s = _
  have hboth : [2 * p, 2 * p + 1].filter (fun l => !((s.advance dt).lane l).outBy) = [2 * p, 2 * p + 1] := by simp [h0, h1]
  refine runUp_eq hup ((if_neg (by simpa [htraining, hgood] using hsince)).trans ?_)
  rw [hstamps]
  refine (if_neg (not_lt.mpr hshort)).trans ?_
  have hfst : m.lanes[2 * p % 2]? = some x := by rw [hlanes, Nat.mul_mod_right]; rfl
  have hsnd : m.lanes[(2 * p + 1) % 2]? = some y := by rw [hlanes, Nat.mul_add_mod]; rfl
  have hpins : s.pins = a.pins := ha ▸ (s.advance_pins dt).symm
  have hnow : s.now + dt = a.now := ha ▸ (s.advance_now dt).symm
  rw [hpins] at hu
  rw [ha] at hu
  subst hu
  rw [hnow, ha]
  simp only [hboth, State.each, List.foldl_cons, List.foldl_nil, hfst, hsnd, Option.elim_some] <;> rfl

end Training

theorem frameBoundaryTransmit_runs : exec (.frameBoundaryTransmit dt p) s = .next (endStep dt s (
    if (s.port p).up = false then a
    else if s.mayRecords p = true ∧ (s.port p).queued = 0 then (State.refill p (s.port p).spill.length a).transmit p
    else a.transmit p)) := by
  subst ha
  change execFrameBoundaryTransmit dt p s = _
  refine runUp_eq hup ?_
  simp only [State.advance_port, State.advance_mayRecords, Bool.and_eq_true, decide_eq_true_eq]
  by_cases hport : (s.port p).up = true
  · simp only [hport, if_true, Bool.true_eq_false, if_false]
    split_ifs <;> rfl
  · simp only [hport, if_false, if_true, Bool.false_eq_true]

theorem retransmitTimeout_runs : exec (.retransmitTimeout dt p) s = .next (endStep dt s (
    if (s.port p).up = true ∧ (s.port p).kept ≠ [] ∧ (s.port p).ackAt + us 20 ≤ s.now + dt
    then a.mapPort p fun q => { q.resendAll with ackAt := s.now + dt } else a)) := by
  subst ha
  change execRetransmitTimeout dt p s = _
  exact runUp_eq hup (by simp only [State.advance_port, State.advance_now, Bool.and_eq_true, Bool.not_eq_true', List.isEmpty_eq_false_iff,
    decide_eq_true_eq, and_assoc, ge_iff_le])

theorem shedLevelChange_runs : exec (.shedLevelChange dt p) s = .next (endStep dt s (
    if (s.port p).st ≠ .one then a
    else if (∃ b ∈ (s.port p).hiSince, b + us 10 ≤ s.now + dt) ∧ (s.port p).shed < 3
      then a.mapPort p fun q => { q with shed := q.shed + 1, hiSince := some (s.now + dt) }
    else if (∃ b ∈ (s.port p).loSince, b + ms 10 ≤ s.now + dt) ∧ 1 < (s.port p).shed
      then a.mapPort p fun q => { q with shed := q.shed - 1, loSince := some (s.now + dt) }
    else a)) := by
  subst ha
  change execShedLevelChange dt p s = _
  exact runUp_eq hup (by simp only [State.advance_port, State.advance_now, Bool.and_eq_true, bne_iff_ne, Option.any_eq_true, decide_eq_true_eq,
    ge_iff_le, gt_iff_lt, Option.mem_def])

theorem frameReceived_runs (rx : List (Nat × List Nat)) : exec (.frameReceived dt p rx) s = .next (endStep dt s (
    if (s.port p).up = false then a
    else match (s.idleLanes p).find? fun l => rx.map (·.1) == [l] with
      | some l => a.idleWordIn p rx l
      | none => a.dataWordIn p rx)) := by
  subst ha
  change execFrameReceived dt p rx s = _
  refine runUp_eq hup ?_
  simp only [State.advance_port, State.advance_idleLanes, Bool.not_eq_true'] <;> rfl

end Link

/-- Two stamps less than half the range of 64 bits apart differ by their difference, in 1/256 ns. -/
theorem stampDiff_of_le {a b : Nat} (hab : a ≤ b) (hb : b < 2 ^ 63) : stampDiff b a = ((b - a : Nat) : Rat) / 256 := by
  have hmod : (b + (2 ^ 64 - a % 2 ^ 64)) % 2 ^ 64 % 2 ^ 64 = b - a := by omega
  have hsigned : signed 64 ((b + (2 ^ 64 - a % 2 ^ 64)) % 2 ^ 64) = ((b - a : Nat) : Int) := by
    rw [signed]
    rw [hmod, if_pos (by omega)]
  rw [stampDiff, hsigned, Int.cast_natCast]

theorem linkDelay_of_le {t1 t2 t3 t4 : Nat} (h12 : t1 ≤ t2) (h34 : t3 ≤ t4) (h4 : t4 < 2 ^ 63) (h2 : t2 < 2 ^ 63) :
    linkDelay t1 t2 t3 t4 = (((t2 - t1 : Nat) : Rat) + ((t4 - t3 : Nat) : Rat)) / 512 := by
  rw [linkDelay, stampDiff_of_le h12 h2, stampDiff_of_le h34 h4]
  ring

/-- Settles O42. -/
theorem linkEventsRun : Obligations.LinkEventsRun := by
  unfold Obligations.LinkEventsRun
  exact ⟨fun s a dt p took hup ha => trainingStepTimeout_runs hup ha took,
    fun s a u dt p t1 t2 t3 t4 d m x y hup ha hstamps hd hlanes => ⟨trainingComplete_notYet hup ha,
      fun htraining hgood hsince hlong => trainingComplete_tooLong hup ha hstamps hd htraining hgood hsince hlong,
      fun htraining hgood hsince hshort h0 h1 hu => trainingComplete_up hup ha hstamps hd htraining hgood hsince hlanes hshort h0 h1 hu⟩,
    fun t1 t2 t3 t4 h12 h34 h4 h2 => linkDelay_of_le h12 h34 h4 h2,
    fun s a dt p hup ha => ⟨frameBoundaryTransmit_runs hup ha, retransmitTimeout_runs hup ha, shedLevelChange_runs hup ha⟩,
    fun s a dt p rx hup ha => frameReceived_runs hup ha rx, fun s t u p rx ht hu => by subst ht hu; rfl⟩

end Sys2Proof.Machine

/-! The Drover control messages (R408, R411, R415, R416, R418, R420 to R423, R426). -/

namespace Sys2Proof.Machine

/-! A posted error changes nothing of the configuration, and so nothing of the messages a device writes. -/

theorem State.writeErr_cfg (s : State) (i : Nat) (b : Bytes) (r : ErrRec) : (s.writeErr i b r).cfg = s.cfg :=
  (State.raise_hostSide _ 0 3).cfg

theorem State.post_cfg (s : State) (code kind obj : Nat) (args : List Nat) : (s.post code kind obj args).cfg = s.cfg := by
  unfold State.post State.postAs State.postSev
  dsimp only
  split_ifs <;> simp only [State.mark, State.writeErr_cfg]

theorem State.mkMsg_of_cfg {s t : State} (h : s.cfg = t.cfg) (m : Nat) (fields : Bytes) : s.mkMsg m fields = t.mkMsg m fields := by
  unfold State.mkMsg State.devId State.pf State.part
  rw [h]

section OnMsg
variable {s u v : State} {dt p m : Nat} {f : Bytes → State → State} (hup : s.holdUp = true)
include hup

theorem onMsg_none (hnone : (s.advance dt).takeMsg p m = none) : onMsg dt p m s f = .next (endStep dt s (s.advance dt)) :=
  onMsg_eq hup rfl (by rw [hnone])

theorem onMsg_some {b : Bytes} (hsome : (s.advance dt).takeMsg p m = some (b, u)) (hf : f b u = v) : onMsg dt p m s f = .next (endStep dt s v) :=
  onMsg_eq hup rfl (by rw [hsome]; exact hf)

end OnMsg

section Messages
variable {s u v w : State} {dt p : Nat} {b : Bytes} (hup : s.holdUp = true)
include hup

theorem hello_runs (hmsg : (s.advance dt).takeMsg p 1 = some (b, u)) :
    exec (.hello dt p) s = .next (endStep dt s (u.mapPort p fun q => { q with peerDev := num b 2 2, peerDomain := num b 4 2, helloRx := true })) := by
  rw [exec, execHello]
  exact onMsg_some hup hmsg rfl

theorem plan_runs {pl : PlanSt} (hmsg : (s.advance dt).takeMsg p 5 = some (b, u)) (hv : v = u.passDown b) (hw : w = v.setPendPlan pl)
    (hpl : pl = { base := BitVec.ofNat 31 (num b 4 4), stride := num b 8 2, epoch := num b 10 2, act := BitVec.ofNat 64 (num b 12 8) }) :
    exec (.plan dt p) s = .next (endStep dt s (
      if u.fromAbove p = false then u
      else if (∃ d ∈ v.drover.domPlan, d.epoch = pl.epoch) ∨ v.drover.pendPlan = some pl then v
      else if v.drover.domPlan = none ∧ pl.act.toNat ≤ u.deviceTime.toNat then v.setDomPlan pl
      else if pl.act.toNat ≤ u.deviceTime.toNat then { w with drover := { w.drover with late := w.drover.late + 1 } } else w)) := by
  rw [exec, execPlan]
  refine onMsg_some hup hmsg ?_
  subst hw hv hpl
  simp only [Bool.not_eq_true', Bool.or_eq_true, Option.any_eq_true, beq_iff_eq, Bool.and_eq_true, Option.isNone_iff_eq_none,
    decide_eq_true_eq, Option.mem_def]

theorem topo_runs {path : Nat} {was : JoinSt} (hmsg : (s.advance dt).takeMsg p 2 = some (b, u)) (hwas : was = u.drover.join)
    (hpath : path = (num b 8 4 + 180 + (roundQ (u.port p).delay).toNat) % 2 ^ 32)
    (hv : v = { u with drover := { u.drover with
      root := num b 4 2, hops := num b 6 2 + 1, pathNs := path, topoAt := u.now, topoEpoch := num b 12 2, prevTopo := BitVec.ofNat 64 (num b 16 8)
      join := if was = .search then .joining else if was = .holdover then .joined else was } })
    (hw : w = v.sendOver v.upstream (v.topoMsg (num b 4 2) (num b 6 2 + 1) path (num b 12 2) (num b 16 8))) :
    exec (.topo dt p) s = .next (endStep dt s (
      if u.fromAbove p = false ∨ num b 14 2 ≠ u.domain then u else if was = .search then w.sendJoin else w)) := by
  rw [exec, execTopo]
  refine onMsg_some hup hmsg ?_
  simp only [← hwas, ← hpath, beq_iff_eq, ← hv, ← hw, Bool.or_eq_true, Bool.not_eq_true', bne_iff_ne]

theorem admitMsg_runs {r : Nat} (hmsg : (s.advance dt).takeMsg p 4 = some (b, u)) (hr : r = byteAt b 6)
    (hv : v = ({ u with drover := { u.drover with join := .refused, refusedBy := r } } : State).post 0x5002 0 0 [r]) :
    exec (.admitMsg dt p) s = .next (endStep dt s (
      if u.fromAbove p = false then u
      else if num b 4 2 ≠ u.devId then u.passDown b
      else if r = 0 then (if u.drover.join = .joined ∨ u.drover.join = .holdover then u
        else { u with drover := { u.drover with join := .joined, refusedBy := 0, firstSync := true, reseedDue := true } })
      else if r = 1 ∧ (u.drover.join = .joined ∨ u.drover.join = .holdover) then u.passDown b
      else if r = 4 then v.post 0x100C 0 0 [u.dev.timeSource] else v)) := by
  rw [exec, execAdmitMsg]
  refine onMsg_some hup hmsg ?_
  simp only [← hr, ← hv, Bool.not_eq_true', bne_iff_ne, Bool.or_eq_true, beq_iff_eq, Bool.and_eq_true, decide_eq_true_eq]

theorem sync_runs (hmsg : (s.advance dt).takeMsg p 6 = some (b, u)) : exec (.sync dt p) s = .next (endStep dt s (
    if u.upstream p = true then u
    else (u.sendMsg p (u.mkMsg 7 (le 2 (num b 4 2)))).mapPort p fun q => { q with syncSeq := num b 4 2, t1 := num b 8 8, t2 := num b 32 8 })) := by
  rw [exec, execSync]
  exact onMsg_some hup hmsg rfl

theorem dreq_runs (hmsg : (s.advance dt).takeMsg p 7 = some (b, u)) : exec (.dreq dt p) s = .next (endStep dt s (
    if u.upstream p = true then u.sendMsg p (u.mkMsg 8 (le 2 (num b 4 2) ++ le 2 0 ++ le 8 (num b 32 8))) else u)) := by
  rw [exec, execDreq]
  exact onMsg_some hup hmsg rfl

theorem dresp_runs {q : Port} {d o : Rat} (hmsg : (s.advance dt).takeMsg p 8 = some (b, u)) (hq : q = u.port p)
    (hd : d = linkDelay q.t1 q.t2 q.t3 (num b 8 8))
    (ho : o = stampDiff q.t2 q.t1 - d - (signed 16 (u.pf 10 (0x44 + 16 * p) 0 16) :
        Rat) / 1000 / 2) (hv : v = u.mapPort p (fun x => { x with delay := d })) :
    exec (.dresp dt p) s = .next (endStep dt s (
      if u.upstream p = true ∨ num b 4 2 ≠ q.syncSeq then u
      else if v.fromAbove p = false then v
      else if v.dev.timeSource = 2 ∧ v.drover.join = .joined then v.follow o
      else { v with drover := { v.drover with lastOfs := o } })) := by
  rw [exec, execDresp]
  refine onMsg_some hup hmsg ?_
  simp only [← hq, ← hd, ← ho, ← hv, Bool.or_eq_true, bne_iff_ne, Bool.not_eq_true', Bool.and_eq_true, decide_eq_true_eq, beq_iff_eq]

section Lane
variable {l : Nat} (hmsg : (s.advance dt).takeMsg p 9 = some (b, u)) (hl : l = u.partnerLane p (byteAt b 4))
include hmsg hl

theorem lane_rejoins (hst : byteAt b 5 = 0) (hstate : (u.lane l).state = 2) (hlock : (u.lane l).relocked = true) (hone : (u.port p).st = .one)
    (hnone : (u.port p).rejoin = none) :
    exec (.lane dt p) s
      = .next (endStep dt s ((u.mapPort p fun q => { q with rejoin := some (l, num b 8 2 % 4096) }).laneMsg l 0 0 (num b 8 2 % 4096))) := by
  rw [exec, execLane]
  refine onMsg_some hup hmsg ?_
  have hready : ((u.lane l).state == 2 && (u.lane l).relocked && (u.port p).st == .one) = true := by rw [hstate, hlock, hone]; rfl
  simp only [hst, ← hl, hready, hnone, if_true, Option.isSome_none, Bool.false_eq_true, if_false]

theorem lane_lost (hst : byteAt b 5 = 1) : exec (.lane dt p) s = .next (endStep dt s (if (u.lane l).state = 0 then u.laneLost l else u)) := by
  rw [exec, execLane]
  refine onMsg_some hup hmsg ?_
  simp only [hst, ← hl, beq_iff_eq]

theorem lane_retrains (hst : byteAt b 5 = 2) : exec (.lane dt p) s = .next (endStep dt s (
    if (u.lane l).outBy = true ∧ (u.lane l).loop < 2 then u
    else if (u.lane l).state = 0 then u.laneLost l
    else u.mapLane l fun x => { x with state := 2, loop := 0, outBy := false })) := by
  rw [exec, execLane]
  refine onMsg_some hup hmsg ?_
  simp only [hst, ← hl, Bool.and_eq_true, decide_eq_true_eq, beq_iff_eq]

theorem lane_loops (hst : 3 ≤ byteAt b 5) : exec (.lane dt p) s = .next (endStep dt s ((if (u.lane l).state = 0 then u.laneLost l else u).mapLane l
    fun x => { x with state := 3, loop := byteAt b 6, outBy := true, relocked := false, bits := 0, errs := 0 })) := by
  rw [exec, execLane]
  refine onMsg_some hup hmsg ?_
  obtain ⟨k, hk⟩ : ∃ k, byteAt b 5 = k + 3 := ⟨byteAt b 5 - 3, by omega⟩
  simp only [hk, ← hl, beq_iff_eq]

end Lane

section Join
variable {id r : Nat} (hmsg : (s.advance dt).takeMsg p 3 = some (b, u))
include hmsg

theorem join_passesUp (hrole : u.role = 2) : exec (.join dt p) s = .next (endStep dt s (match u.upPort with
    | some q => if q ≠ p then u.sendMsg q (b.take 32) else u
    | none => u)) := by
  rw [exec, execJoin]
  refine onMsg_some hup hmsg ((if_pos (by rw [hrole]; rfl)).trans ?_)
  simp only [bne_iff_ne] <;> rfl

theorem join_elsewhere (h1 : u.role ≠ 1) (h2 : u.role ≠ 2) : exec (.join dt p) s = .next (endStep dt s u) := by
  rw [exec, execJoin]
  exact onMsg_some hup hmsg ((if_neg (by simpa using h2)).trans (if_pos (by simpa using h1)))

theorem join_answered (hid : id = num b 2 2) (hr : r = u.admitResult p id (num b 6 2) (num b 8 4) (byteAt b 16 % 4) (num b 4 2))
    (hv : v = { u.dropMember id with drover := { (u.dropMember id).drover with members :=
      { id := id, hops := num b 6 2, pathNs := num b 8 4, ackEpoch := num b 14 2, lastReport := u.now, port := p } :: (u.dropMember id).drover.members } })
    (hrole : u.role = 1) : exec (.join dt p) s = .next (endStep dt s ((
      if r = 0 then (if u.pf 10 0x10 0 32 < num b 8 4 ∧ ∃ m ∈ u.member id, m.pathNs ≤ u.pf 10 0x10 0 32 then v.post 0x5004 10 id [num b 8 4] else v)
      else if r = 1 then u else u.dropMember id).sendMsg p (u.mkMsg 4 (le 2 id ++ le 1 r)))) := by
  rw [exec, execJoin]
  refine onMsg_some hup hmsg ((if_neg (by rw [hrole]; decide)).trans ((if_neg (by rw [hrole]; decide)).trans ?_))
  have hmsg (t : State) (ht : t.cfg = u.cfg) : t.sendMsg p (t.mkMsg 4 (le 2 id ++ le 1 r)) = t.sendMsg p (u.mkMsg 4 (le 2 id ++ le 1 r)) := by
    rw [State.mkMsg_of_cfg ht]
  have hkept : v.cfg = u.cfg := by rw [hv]; rfl
  subst hid hr hv
  simp only [Bool.and_eq_true, decide_eq_true_eq, gt_iff_lt, Option.any_eq_true, Option.mem_def]
  refine hmsg _ ?_
  split_ifs
  · exact (State.post_cfg _ _ _ _ _).trans hkept
  · exact hkept
  · rfl
  · rfl

end Join

end Messages

/-- Settles O43. -/
theorem domainMessagesRun : Obligations.DomainMessagesRun := by
  unfold Obligations.DomainMessagesRun
  refine ⟨?_, fun s u dt p b hup hmsg => hello_runs hup hmsg, fun s u v w dt p b pl hup hmsg hv hw hpl => plan_runs hup hmsg hv hw hpl,
    fun s u v w dt p path b was hup hmsg hwas hpath hv hw => topo_runs hup hmsg hwas hpath hv hw,
    fun s u v dt p r b hup hmsg hr hv => admitMsg_runs hup hmsg hr hv,
    fun s u dt p l b hup hmsg hl => ⟨lane_rejoins hup hmsg hl, lane_lost hup hmsg hl, lane_retrains hup hmsg hl, lane_loops hup hmsg hl⟩,
    fun s u dt p b hup => ⟨sync_runs hup, dreq_runs hup⟩,
    fun s u v dt p b q d o hup hmsg hq hd ho hv => dresp_runs hup hmsg hq hd ho hv,
    fun s u v dt p id r b hup hmsg hid hr hv => ⟨join_passesUp hup hmsg, join_elsewhere hup hmsg, join_answered hup hmsg hid hr hv⟩⟩
  rintro s a dt p hup rfl
  exact ⟨onMsg_none hup, onMsg_none hup, onMsg_none hup, onMsg_none hup, onMsg_none hup, onMsg_none hup, onMsg_none hup, onMsg_none hup,
    onMsg_none hup, onMsg_none hup⟩

end Sys2Proof.Machine

/-! The domain's timers and the events of device time (R29, R399, R411, R415 to R418, R421, R434). -/

namespace Sys2Proof.Machine

@[simp] theorem State.advance_upstream (s : State) (dt p : Nat) : (s.advance dt).upstream p = s.upstream p := by
  simp only [State.upstream, State.isRing, State.advance_role, State.advance_prole, State.advance_upPort]

@[simp] theorem State.advance_devId (s : State) (dt : Nat) : (s.advance dt).devId = s.devId := by
  simp only [State.devId, State.advance_part, State.advance_pf]

@[simp] theorem State.advance_member (s : State) (dt id : Nat) : (s.advance dt).member id = s.member id := by
  rw [State.member, State.advance_drover, State.member]

theorem State.advance_time (s : State) (dt : Nat) : ∃ units, (s.advance dt).time = { s.time with units := units } := by
  obtain ⟨units, clk, re, cnt, l, h⟩ := s.advance_only dt
  exact ⟨units, by rw [h]⟩

section Domain
variable {s a : State} {dt : Nat} (hup : s.holdUp = true) (ha : a = s.advance dt)
include hup ha

theorem helloTimer_runs (p : Nat) : exec (.helloTimer dt p) s = .next (endStep dt s (
    if (s.port p).up = true ∧ (s.port p).helloAt + ms 100 ≤ s.now + dt then a.hello p else a)) := by
  subst ha
  change execHelloTimer dt p s = _
  exact runUp_eq hup (by simp only [State.advance_port, State.advance_now, Bool.and_eq_true, decide_eq_true_eq, ge_iff_le])

theorem syncTimer_runs (p : Nat) : exec (.syncTimer dt p) s = .next (endStep dt s (
    if (s.port p).up = true ∧ s.upstream p = true ∧ (s.port p).syncAt + ms 1 ≤ s.now + dt
    then (a.sendMsg p (a.mkMsg 6 (le 2 (((s.port p).syncSeq + 1) % 65536)))).mapPort p fun q =>
      { q with syncSeq := ((s.port p).syncSeq + 1) % 65536, syncAt := s.now + dt }
    else a)) := by
  subst ha
  change execSyncTimer dt p s = _
  exact runUp_eq hup (by simp only [State.advance_port, State.advance_upstream, State.advance_now, Bool.and_eq_true, decide_eq_true_eq, and_assoc,
    ge_iff_le])

theorem topoTimer_runs {u v w : State} (hu : u = a.sendOver a.upstream (a.topoMsg s.devId 0 0 s.seq.planEpoch s.drover.prevTopo.toNat))
    (hv : v = (match u.drover.pendPlan with
      | some p => if a.deviceTime.toNat < p.act.toNat then u.sendOver u.upstream (u.planMsg p) else u
      | none => u))
    (hw : w = (match v.drover.domPlan with
      | some p => if s.drover.planAt + ms 100 ≤ s.now + dt
          then { v.sendOver v.upstream (v.planMsg p) with drover := { (v.sendOver v.upstream (v.planMsg p)).drover with planAt := s.now + dt } } else v
      | none => v)) :
    exec (.topoTimer dt) s = .next (endStep dt s (
      if s.role ≠ 1 ∨ s.code = 7 ∨ s.now + dt < s.drover.topoAt + ms 1 then a
      else { w with drover := { w.drover with topoAt := s.now + dt, prevTopo := a.deviceTime } })) := by
  change execTopoTimer dt s = _
  have hdrover : s.drover = a.drover := ha ▸ (s.advance_drover dt).symm
  have hnow : s.now + dt = a.now := ha ▸ (s.advance_now dt).symm
  have hdev : s.devId = a.devId := ha ▸ (s.advance_devId dt).symm
  have hepoch : s.seq.planEpoch = a.seq.planEpoch := by
    obtain ⟨clk, hseq⟩ := s.advance_seq dt
    rw [ha, hseq]
  rw [hdev, hepoch, hdrover] at hu
  rw [hdrover, hnow] at hw
  refine runUp_eq hup ?_
  rw [← ha, (ha ▸ (s.advance_role dt).symm : s.role = a.role), (ha ▸ (s.advance_code dt).symm : s.code = a.code), hdrover, hnow]
  subst hu hv hw
  simp only [Bool.or_eq_true, bne_iff_ne, beq_iff_eq, decide_eq_true_eq, or_assoc, gt_iff_lt, ge_iff_le] <;> rfl

theorem topoTimeout_runs : exec (.topoTimeout dt) s = .next (endStep dt s (
    if s.role ≠ 2 ∨ s.now + dt < s.drover.topoAt + ms 10 then a
    else { a with drover := { s.drover with join :=
      if s.drover.join = .joined then .holdover else if s.drover.join = .joining then .search else s.drover.join } })) := by
  change execTopoTimeout dt s = _
  have hdrover : s.drover = a.drover := ha ▸ (s.advance_drover dt).symm
  refine runUp_eq hup ?_
  rw [← ha, (ha ▸ (s.advance_role dt).symm : s.role = a.role), (ha ▸ (s.advance_now dt).symm : s.now + dt = a.now), hdrover]
  simp only [Bool.or_eq_true, bne_iff_ne, beq_iff_eq, decide_eq_true_eq]

theorem joinTimer_runs : exec (.joinTimer dt) s = .next (endStep dt s (
    if s.role = 2 ∧ s.drover.join ≠ .search ∧ s.drover.joinAt + (if s.drover.join = .joining then ms 10 else sec 1) ≤ s.now + dt then a.sendJoin else a)) := by
  subst ha
  change execJoinTimer dt s = _
  refine runUp_eq hup ?_
  simp only [State.advance_drover, State.advance_role, State.advance_now, Bool.and_eq_true, beq_iff_eq, decide_eq_true_eq, ge_iff_le]
  cases s.drover.join <;> simp only [reduceCtorEq, ne_eq, not_true_eq_false, not_false_eq_true, true_and, false_and, and_false, if_true, if_false]

theorem memberForget_runs (id : Nat) : exec (.memberForget dt id) s = .next (endStep dt s (
    if s.role = 1 ∧ ∃ m ∈ s.member id, m.lastReport + sec 5 ≤ s.now + dt then a.dropMember id else a)) := by
  subst ha
  change execMemberForget dt id s = _
  exact runUp_eq hup (by simp only [State.advance_role, State.advance_member, State.advance_now, Bool.and_eq_true, beq_iff_eq, Option.any_eq_true,
    decide_eq_true_eq, ge_iff_le, Option.mem_def])

end Domain

section Time
variable {s a : State} {dt : Nat} (hup : s.holdUp = true) (ha : a = s.advance dt)
include hup ha

theorem ppsEdge_runs {u : State} (hu : u = (match s.waiting .pps with
      | some e => (a.stepTime e.arg).finish e.sub (timeSetReply a.deviceTime.toNat e.arg)
      | none => a)) : exec (.ppsEdge dt) s = .next (endStep dt s (if u.dev.timeSource = 1 then u.pps else u)) := by
  change execPpsEdge dt s = _
  refine runUp_eq hup ?_
  rewrite [← ha, hu, (ha ▸ (s.advance_waiting dt .pps).symm : s.waiting .pps = a.waiting .pps)]
  rfl

theorem timeSetPpsTimeout_runs : exec (.timeSetPpsTimeout dt) s = .next (endStep dt s (match s.waiting .pps with
    | some e => if e.since + sec 2 ≤ s.now + dt then a.finish e.sub (reply 0x0200) else a
    | none => a)) := by
  subst ha
  change execTimeSetPpsTimeout dt s = _
  exact runUp_eq hup (by rewrite [State.advance_waiting, State.advance_now]; rfl)

theorem timePpsLost_runs : exec (.timePpsLost dt) s = .next (endStep dt s (
    if s.dev.timeSource = 1 ∧ s.time.ppsLost = false ∧ s.time.lastPps.getD s.time.srcAt + ms 1500 ≤ s.now + dt
    then ({ a with time := { a.time with lastPps := none, ppsLost := true } } : State).post 0x100A 0 0 else a)) := by
  change execTimePpsLost dt s = _
  obtain ⟨units, htime⟩ := s.advance_time dt
  have hdue : (decide (a.dev.timeSource = 1) && !a.time.ppsLost && decide (a.now ≥ a.time.lastPps.getD a.time.srcAt + ms 1500)) = true
      ↔ s.dev.timeSource = 1 ∧ s.time.ppsLost = false ∧ s.time.lastPps.getD s.time.srcAt + ms 1500 ≤ s.now + dt := by
    rw [ha, htime, State.advance_dev, State.advance_now]
    simp only [Bool.and_eq_true, decide_eq_true_eq, Bool.not_eq_true', and_assoc, ge_iff_le]
  refine runUp_eq hup ?_
  rw [← ha]
  simp only [hdue]

theorem timeStale_runs : exec (.timeStale dt) s = .next (endStep dt s (
    if s.dev.timeSource = 3 ∧ s.time.lastHostSet + sec 60 ≤ s.now + dt
    then ({ a with time := { a.time with lastHostSet := s.now + dt } } : State).post 0x100B 0 0 else a)) := by
  change execTimeStale dt s = _
  obtain ⟨units, htime⟩ := s.advance_time dt
  have hset : s.time.lastHostSet = a.time.lastHostSet := by rw [ha, htime]
  refine runUp_eq hup ?_
  rw [← ha, hset, (ha ▸ (s.advance_dev dt).symm : s.dev = a.dev), (ha ▸ (s.advance_now dt).symm : s.now + dt = a.now)]
  simp only [Bool.and_eq_true, decide_eq_true_eq, ge_iff_le]

theorem timeSlewEnd_runs : exec (.timeSlewEnd dt) s = .next (endStep dt s (
    if ∃ b ∈ s.time.slewEnd, b ≤ s.now + dt then { a with time := { a.time with ppb := 0, slewEnd := none } } else a)) := by
  change execTimeSlewEnd dt s = _
  obtain ⟨units, htime⟩ := s.advance_time dt
  have hend : s.time.slewEnd = a.time.slewEnd := by rw [ha, htime]
  refine runUp_eq hup ?_
  rw [← ha, hend, (ha ▸ (s.advance_now dt).symm : s.now + dt = a.now)]
  simp only [Option.any_eq_true, decide_eq_true_eq, ge_iff_le, Option.mem_def]

end Time

/-- An edge of the PPS disciplines device time where it falls within 100 us of a second after the last one accepted. -/
theorem pps_eq {s t : State} {edge : Nat} {e : Int} (hedge : edge = tdcStamp s.now) (he : e = ppsError (s.unitsAt edge))
    (ht : t = { s with time := { s.time with lastPps := some edge, ppsLost := false } }) :
    s.pps = if ∃ b ∈ s.time.lastPps, edge + us 100 < b + sec 1 ∨ b + sec 1 + us 100 < edge then s
      else if 10000 * (nsUnits : Int) < e ∨ e < -(10000 * (nsUnits : Int)) then { t with time := { t.time with units := ((s.time.units : Int) - e).toNat } }
      else { t.useFree with time := { t.time with ppb := ((freeNat t % 200001 : Nat) : Int) - 100000 } } := by
  have hgood : (!(match s.time.lastPps with
      | none => true
      | some b => decide (edge + us 100 ≥ b + sec 1 ∧ edge ≤ b + sec 1 + us 100))) = true
      ↔ ∃ b ∈ s.time.lastPps, edge + us 100 < b + sec 1 ∨ b + sec 1 + us 100 < edge := by
    cases s.time.lastPps with
    | none => simp
    | some b =>
      simp only [Bool.not_eq_true', decide_eq_false_iff_not, not_and_or, not_le, ge_iff_le, Option.mem_def, Option.some.injEq, exists_eq_left']
  have hcast : ((10000 * nsUnits : Nat) : Int) = 10000 * (nsUnits : Int) := by push_cast; rfl
  rw [State.pps]
  simp only [← hedge, ← he, ← ht, hcast, Bool.or_eq_true, decide_eq_true_eq, gt_iff_lt]
  refine if_congr hgood rfl ?_
  subst ht
  rfl

/-- Settles O44. -/
theorem domainAndTimeTimersRun : Obligations.DomainAndTimeTimersRun := by
  unfold Obligations.DomainAndTimeTimersRun
  exact ⟨fun s a dt p hup ha => ⟨helloTimer_runs hup ha p, syncTimer_runs hup ha p⟩, fun s a u v w dt hup ha hu hv hw => topoTimer_runs hup ha hu hv hw,
    fun s a dt hup ha => ⟨topoTimeout_runs hup ha, joinTimer_runs hup ha, memberForget_runs hup ha⟩,
    fun s a u dt hup ha hu => ⟨ppsEdge_runs hup ha hu, timeSetPpsTimeout_runs hup ha⟩, fun s t edge e hedge he ht => pps_eq hedge he ht,
    fun s a dt hup ha => ⟨timePpsLost_runs hup ha, timeStale_runs hup ha, timeSlewEnd_runs hup ha⟩⟩

end Sys2Proof.Machine

/-! Housekeeping and thermal protection (R472 to R491). -/

namespace Sys2Proof.Machine

section Housekeeping
variable {s a : State} {dt : Nat} (ha : a = s.advance dt)
include ha

theorem ondieSensorSample_runs {failed : Nat} {temps : List Int} {v : Nat → Int} (hv : v = (fun i => if bit failed i = true then 2400 else temps.getD i 0)) :
    exec (.ondieSensorSample dt temps failed) s = .next (endStep dt s (
      if s.isIn [0, 1] = true then a
      else ((a.each (List.range 24) fun i u => { u with hk := { u.hk with sensors := u.hk.sensors.upd i fun q =>
        { value := v i, failed := bit failed i, seen := true, min := if q.seen then min q.min (v i) else v i
          max := if q.seen then max q.max (v i) else v i } } }).judgeHeat).hkOutputs)) := by
  subst ha hv
  change execOndieSensorSample dt temps failed s = _
  exact run_eq (by rw [State.advance_isIn])

theorem thermalFall_runs : exec (.thermalFall dt) s = .next (endStep dt s (
    if s.isIn [2, 3, 4, 5, 6, 7] = false ∨ s.hk.level = 0 then a
    else match s.hk.belowSince.getD (s.hk.level - 1) none with
      | some b => if b + ms 100 ≤ s.now + dt then (a.setLevel (s.hk.level - 1) 0x6003).hkOutputs else a
      | none => a)) := by
  subst ha
  change execThermalFall dt s = _
  refine run_eq ?_
  simp only [State.advance_isIn, State.advance_hk, State.advance_now, Bool.or_eq_true, Bool.not_eq_true', decide_eq_true_eq, ge_iff_le] <;> rfl

theorem thermalShutdownReset_runs : exec (.thermalShutdownReset dt) s = .next (endStep dt s (
    if s.code = 8 ∧ s.hk.tripAt + ms 2 ≤ s.now + dt then { a with hk := { s.hk with frozen := true } } else a)) := by
  change execThermalShutdownReset dt s = _
  refine run_eq ?_
  rw [← ha, (ha ▸ (s.advance_hk dt).symm : s.hk = a.hk), (ha ▸ (s.advance_code dt).symm : s.code = a.code),
    (ha ▸ (s.advance_now dt).symm : s.now + dt = a.now)]
  simp only [Bool.and_eq_true, decide_eq_true_eq, ge_iff_le]

theorem thermalRestart_idle (hidle : s.code ≠ 8 ∨ s.hk.coolSince = none) : exec (.thermalRestart dt) s = .next (endStep dt s a) := by
  change execThermalRestart dt s = _
  refine run_eq ?_
  rw [← ha, (ha ▸ s.advance_hk dt : a.hk = s.hk), (ha ▸ s.advance_code dt : a.code = s.code)]
  split
  · next hcode hcool =>
    obtain hne | hnone := hidle
    · exact absurd hcode hne
    · rw [hnone] at hcool
      exact absurd hcool (by simp)
  · rfl

theorem thermalRestart_runs {u : State} {unarm : HkChan → HkChan} {c : Nat}
    (hunarm : unarm = (fun h => { h with armed := false, valid := false, isOpen := false, tag := 0 }))
    (hu : u = { a with
      hk := { s.hk with
        level := 0, levelLog := a.keepLevel, stwMHz := 800, belowSince := [none, none, none], coolSince := none, frozen := false
        chans := { s.hk.chans with cells := s.hk.chans.cells.map fun (x : Nat × HkChan) => (x.1, unarm x.2) } }
      pins := { s.pins with thermN := true } })
    (hcode : s.code = 8) (hcool : s.hk.coolSince = some c) : exec (.thermalRestart dt) s = .next (endStep dt s (
      if s.now + dt < c + sec 1 then a else ((if s.hk.level = 0 then u else u.raise 0 10).guardClear).enterBoot 5 2)) := by
  change execThermalRestart dt s = _
  have hhk : s.hk = a.hk := ha ▸ (s.advance_hk dt).symm
  have hpins : s.pins = a.pins := ha ▸ (s.advance_pins dt).symm
  rw [(ha ▸ (s.advance_code dt).symm : s.code = a.code)] at hcode
  rw [hhk] at hcool hu ⊢
  rw [hpins] at hu
  rw [(ha ▸ (s.advance_now dt).symm : s.now + dt = a.now)]
  refine run_eq ?_
  rw [← ha]
  subst hu hunarm
  simp only [hcode, hcool]

theorem hadcResult_runs {u : State} {ch : Nat} {m : HadcIn} (hu : u = (a.hkResult ch m).hkAdvance ch) :
    exec (.hadcResult dt ch m) s = .next (endStep dt s (
      if s.hk.applied = true ∧ ch = s.hk.visit ∧ s.hkEn ch = true ∧ a.hkDue ch = true
      then (({ u with hk := { u.hk with convAt := u.now } } : State).hkDrive.judgeHeat).hkOutputs else a)) := by
  change execHadcResult dt ch m s = _
  have hen : s.hkEn ch = a.hkEn ch := by
    rw [ha]
    simp only [State.hkEn, State.hkF, State.advance_hk]
  have hdue : (!a.hk.applied || ch != a.hk.visit || !(a.hkEn ch) || !(a.hkDue ch)) = true
      ↔ ¬(a.hk.applied = true ∧ ch = a.hk.visit ∧ a.hkEn ch = true ∧ a.hkDue ch = true) := by
    cases a.hk.applied <;> cases a.hkEn ch <;> cases a.hkDue ch <;> simp
  refine run_eq ?_
  rw [← ha, (ha ▸ (s.advance_hk dt).symm : s.hk = a.hk), hen]
  simp only [hdue, ite_not, ← hu]

theorem hadcCalSlot_runs {u : State} {meas : List Rat} (hu : u = { a with hk := { s.hk with
      calAt := s.now + dt, convAt := s.now + dt, calSlot := a.deviceTime
      ofs := meas.getD 0 0, gainErr := meas.getD 1 1, iA := meas.getD 2 1, iB := meas.getD 3 1 } }) :
    exec (.hadcCalSlot dt meas) s = .next (endStep dt s (
      if s.hk.applied = true ∧ s.hk.inVisit = 0 ∧ s.hk.calAt + sec 60 ≤ s.now + dt
      then (u.mapHk s.hk.visit fun c => { c with since := 0, tripRun := 0 }) else a)) := by
  change execHadcCalSlot dt meas s = _
  have hhk : s.hk = a.hk := ha ▸ (s.advance_hk dt).symm
  have hnow : s.now + dt = a.now := ha ▸ (s.advance_now dt).symm
  have hvisit : u.hk.visit = a.hk.visit := by rw [hu, hhk]
  have hdue : (!a.hk.applied || a.hk.inVisit != 0 || decide (a.now < a.hk.calAt + sec 60)) = true
      ↔ ¬(a.hk.applied = true ∧ a.hk.inVisit = 0 ∧ a.hk.calAt + sec 60 ≤ a.now) := by
    simp only [Bool.or_eq_true, Bool.not_eq_true', bne_iff_ne, decide_eq_true_eq, not_and_or, Bool.not_eq_true, not_le, or_assoc, ne_eq]
  rw [hhk, hnow] at hu ⊢
  refine run_eq ?_
  rw [← ha]
  simp only [hdue, ite_not, ← hu]

end Housekeeping

/-- A conversion's code is one of 24 bits, two's complement (R476). -/
theorem hadcCode_range (nv : Int) (g : Nat) : -8388608 ≤ (hadcCode nv g).1 ∧ (hadcCode nv g).1 ≤ 8388607 :=
  ⟨le_max_left _ _, max_le (by decide) (min_le_left _ _)⟩

/-- Settles O45. -/
theorem housekeepingEventsRun : Obligations.HousekeepingEventsRun := by
  unfold Obligations.HousekeepingEventsRun
  exact ⟨fun s a dt failed temps v ha hv => ondieSensorSample_runs ha hv, fun s a dt ha => thermalFall_runs ha,
    fun s a dt ha => thermalShutdownReset_runs ha,
    fun s a u dt unarm ha hunarm hu => ⟨thermalRestart_idle ha, fun c => thermalRestart_runs ha hunarm hu⟩,
    fun s a u dt ch m ha hu => hadcResult_runs ha hu,
    fun nv g => ⟨(hadcCode_range nv g).1, (hadcCode_range nv g).2, decide_eq_true_iff⟩, fun s a u dt meas ha hu => hadcCalSlot_runs ha hu⟩

end Sys2Proof.Machine

/-! Registers at reset, the identity registers, and pads that the scan port only observes (R6, R7, R333, R335, R337, R342, R347, R528, R567, R568). -/

namespace Sys2Proof.Machine

theorem bar0_at_reset : ∀ x ∈ [(0x40, 0), (0x44, 1), (0x48, 0xFFFFFFFE), (0x4C, 0), (0x54, 0), (0x58, 0), (0x5C, 0), (0x60, 0), (0x68, 0), (0x6C, 0),
    (0x70, 0),
    (0x74, 0), (0x7C, 0), (0x80, 0)], State.reset.readReg 0 x.1 = x.2 := by decide +kernel

theorem bar2_at_reset : ∀ r ∈ [0, 1, 2, 3], ∀ x ∈ [(0x00, 0), (0x04, 0), (0x08, 0), (0x0C, 0), (0x10, 4), (0x14, 0), (0x18, 0), (0x1C, 8), (0x20, 0)],
    State.reset.readReg 1 (0x10000 * r + x.1) = x.2 := by decide +kernel

/-- IDCODE reads 1 in bit 0, the part number and the stepping, around the manufacturer's 11 bits. -/
theorem idcode_fields (s : State) : s.idcode % 2 = 1 ∧ s.idcode / 2 ^ 12 % 2 ^ 16 = 0x5120 ∧ s.idcode / 2 ^ 28 = if s.isA0 = true then 0 else 1 := by
  have hmanufacturer : Config.jtagManufacturer.toNat < 2 ^ 11 := Config.jtagManufacturer.isLt
  simp only [State.idcode, pack]
  generalize Config.jtagManufacturer.toNat = m at *
  split_ifs <;> omega

/-- Device ID and Vendor ID of function 0 and function 1 (R6, R333). -/
theorem deviceWord_reads (s : State) : s.readReg 3 0 = Config.vendorId.toNat + 65536 * 0x5120 ∧
    s.readReg 4 0 = Config.vendorId.toNat + 65536 * 0x5121 := by
  constructor <;> simp [State.readReg, State.cfgWord, State.cfgHeader, pack, deviceId]

/-- The class code and the stepping as Revision ID (R7, R333). -/
theorem revisionWord_reads (s : State) :
    s.readReg 3 8 = s.ident.stepping.toNat + 256 * 0x118000 ∧ s.readReg 4 8 = s.ident.stepping.toNat + 256 * 0x118000 := by
  constructor <;> simp [State.readReg, State.cfgWord, State.cfgHeader, pack]

section Pads
variable (s : State) (j : Jtag) (p : Pad)

theorem padFunction_of_jtag : ({ s with jtag := j } : State).padFunction p = s.padFunction p := by
  cases p <;> rfl

theorem padDrive_observed (hp : p.observeOnly = true) : ({ s with jtag := j } : State).padDrive p = s.padFunction p := by
  rw [State.padDrive, padFunction_of_jtag]
  exact if_pos (by rw [hp, Bool.or_true])

theorem padDrive_asserted (hp : p.isOpenDrain = true) (hlow : s.padFunction p = .low) (hz : j.ir ≠ .highz) :
    ({ s with jtag := j } : State).padDrive p = .low := by
  rw [State.padDrive, padFunction_of_jtag, hlow]
  by_cases hfree : (!j.trstN || p.observeOnly) = true
  · exact if_pos hfree
  · refine (if_neg hfree).trans ?_
    rw [hp]
    cases hir : j.ir
    case highz => exact absurd hir hz
    all_goals rfl

end Pads

/-- Settles O46. -/
theorem registersAtReset : Obligations.RegistersAtReset := by
  unfold Obligations.RegistersAtReset
  exact ⟨bar0_at_reset, bar2_at_reset, rfl, rfl, rfl, rfl, rfl,
    fun s => ⟨(deviceWord_reads s).1, (deviceWord_reads s).2, (revisionWord_reads s).1, (revisionWord_reads s).2⟩, rfl, fun s => idcode_fields s,
    fun s j p => ⟨padDrive_observed s j p, padDrive_asserted s j p⟩⟩

end Sys2Proof.Machine
